-- ==== Sys2Proof/Word.lean ====
section
/-! DEFINITION. The byte, the one word type of the KF8's links (01_links_and_commands.md, 1.1). Every other quantity of
the manual is a number with a unit and a range, and is a Nat or an Int in the model: R71 makes all arithmetic exact. -/

namespace Sys2Proof

/-- One byte of a link transfer. -/
abbrev Byte := BitVec 8

end Sys2Proof
end

