-- ==== Sys2Proof/Syntax.lean ====
section
/-! DEFINITION. The commands of the KF8: one constructor of `Instr` for each row of spec/opcode_table.json, in the
table's order, with the row's operands. -/

namespace Sys2Proof

/-- The three links, named after their masters (00_scope.md, "The three masters"). -/
inductive Link where
  | proc
  | safe
  | desk
deriving DecidableEq, Repr

/-- The two firing sites. -/
inductive Site where
  | main
  | calc
deriving DecidableEq, Repr

/-- An alarm code, a kind and an index within the kind's range (R139): 84 codes in all. Sections are numbered 1 to 4
in the manual and 0 to 3 here. -/
inductive AlarmCode where
  | streamTrip (i : Fin 8)
  | streamDeviation (i : Fin 8)
  | siteUnplaced (x : Site)
  | safeLink
  | measStale (k : Fin 8)
  | cutback (k : Fin 4)
  | sectionStalled (n : Fin 4)
  | coolerHoldback
  | contact (k : Fin 24)
  | contactForced (k : Fin 24)
deriving DecidableEq, Repr

/-- A good request frame (R2) as it reaches the command checks of R7: the link, the body, and the bytes the master
shifted in behind the declared end of the frame, which are ignored (R2) but clock the answer out (R5). The command code
and the CRC follow from the constructor that carries the request. Only whole bytes count (R1). -/
structure Request where
  link : Link
  body : List Byte
  tail : List Byte := []
deriving DecidableEq, Repr

/-- The commands and events of the part, one constructor per row of the opcode table. -/
inductive Instr where
  /-- POWER_ON_RESET (R15). For each link, the number of whole bytes already shifted in a transfer in progress, or none. -/
  | powerOnReset (proc safe desk : Option Nat)
  /-- FRAME_ERR (R6): a transfer on a link whose bytes fail the frame checks of R2. -/
  | frameErr (l : Link) (bytes : List Byte)
  /-- UNKNOWN_CMD (R7): a good frame with a command code that R176 does not list. -/
  | unknownCmd (code : Byte) (r : Request)
  | nop (r : Request)
  | status (r : Request)
  | readStream (r : Request)
  | readSite (r : Request)
  | poll (r : Request)
  | listRead (r : Request)
  | readFirstout (r : Request)
  | readShift (r : Request)
  | readMeas (r : Request)
  | readCooler (r : Request)
  | readContacts (r : Request)
  | readCal (r : Request)
  | attnMask (r : Request)
  | attnClear (r : Request)
  | linkReset (r : Request)
  | setDemand (r : Request)
  | setPlan (r : Request)
  | setPeriod (r : Request)
  | light (r : Request)
  | hold (r : Request)
  | resume (r : Request)
  | stop (r : Request)
  | calStart (r : Request)
  | calStop (r : Request)
  | calAccept (r : Request)
  | calDiscard (r : Request)
  | putMeas (r : Request)
  | setMeasConfig (r : Request)
  | setCutback (r : Request)
  | setCooler (r : Request)
  /-- COOLER_MODE whose mode byte is not AUTO (log entry 9). -/
  | coolerModeManual (r : Request)
  /-- COOLER_MODE whose mode byte is AUTO. -/
  | coolerModeAuto (r : Request)
  | setLimits (r : Request)
  | setCheck (r : Request)
  | grant (r : Request)
  | revoke (r : Request)
  /-- FLAME whose report byte is not LOST (log entry 9). -/
  | flameProven (r : Request)
  /-- FLAME whose report byte is LOST. -/
  | flameLost (r : Request)
  | release (r : Request)
  | masterTrip (r : Request)
  | setContact (r : Request)
  | setPoll (r : Request)
  | setLinkTimeout (r : Request)
  /-- FULL_RESET (R16), with the whole bytes already shifted in transfers in progress on PROC and DESK, or none. -/
  | fullReset (r : Request) (proc desk : Option Nat)
  | ack (r : Request)
  | ackAll (r : Request)
  | shelve (r : Request)
  | unshelve (r : Request)
  | silence (r : Request)
  | firstoutClear (r : Request)
  | firstoutMode (r : Request)
  | forceContact (r : Request)
  | unforce (r : Request)
  | setClock (r : Request)
  | setShifts (r : Request)
  | closeShift (r : Request)
  /-- MASS_PULSE (R77): a rising edge on stream i's mass pulse input. -/
  | massPulse (i : Fin 8)
  /-- STROKE_PULSE (R120): a rising edge on a section's stroke input; section n + 1 of the manual. -/
  | strokePulse (n : Fin 4)
  | dosingPeriodExpiry
  /-- NO_FLOW_REPORT (R54): the FMU's report for stream i reaches the FSU. -/
  | noFlowReport (i : Fin 8)
  | lightingTimerExpiry (i : Fin 8)
  | safeLinkTimerExpiry
  | calWindowTimeout (i : Fin 8)
  | staleTimerExpiry (k : Fin 8)
  | delayTimerExpiry (k : Fin 4)
  | coolerPeriod
  | stallTimerExpiry (n : Fin 4)
  /-- CONTACT_SCAN (R129) with the levels at the 24 inputs when the scan is taken; a bit of 1 is closed. -/
  | contactScan (levels : BitVec 24)
  | shelfExpiry (code : AlarmCode)
  | hornBIntervalExpiry
  | clockAdvance
  /-- ABANDONED_TRANSFER (R15): the chip-select release that ends a transfer a reset abandoned, with the bytes shifted
  in since that reset. -/
  | abandonedTransfer (l : Link) (bytes : List Byte)
deriving DecidableEq, Repr

end Sys2Proof
end

