-- ==== Sys2Proof/Machine/Frame.lean ====
section
/-! DEFINITION. Bytes on the links: field placement (R173), the two CRCs (R3, R27), and the frame checks (R2). -/

namespace Sys2Proof.Machine

/-- The low byte of a number. -/
def be8 (v : Nat) : List Byte := [BitVec.ofNat 8 v]

/-- A field of two bytes, high byte first (R173). -/
def be16 (v : Nat) : List Byte := be8 (v / 256) ++ be8 v

/-- A field of three bytes, high byte first (R173). -/
def be24 (v : Nat) : List Byte := be8 (v / 65536) ++ be16 v

/-- A field of four bytes, high byte first (R173). -/
def be32 (v : Nat) : List Byte := be16 (v / 65536) ++ be16 v

/-- A field of six bytes, high byte first (R173). -/
def be48 (v : Nat) : List Byte := be16 (v / 4294967296) ++ be32 v

/-- A signed field of two bytes, two's complement (R173). -/
def beS16 (v : Int) : List Byte := be16 (v % 65536).toNat

/-- A signed field of three bytes, two's complement (R173). -/
def beS24 (v : Int) : List Byte := be24 (v % 16777216).toNat

/-- A signed field of four bytes, two's complement (R173). -/
def beS32 (v : Int) : List Byte := be32 (v % 4294967296).toNat

/-- The byte at position `k` of a body. -/
def u8 (b : List Byte) (k : Nat) : Nat := (b.getD k 0).toNat

/-- The unsigned field of two bytes at position `k` of a body. -/
def u16 (b : List Byte) (k : Nat) : Nat := u8 b k * 256 + u8 b (k + 1)

/-- The unsigned field of three bytes at position `k` of a body. -/
def u24 (b : List Byte) (k : Nat) : Nat := u8 b k * 65536 + u16 b (k + 1)

/-- The unsigned field of four bytes at position `k` of a body. -/
def u32 (b : List Byte) (k : Nat) : Nat := u16 b k * 65536 + u16 b (k + 2)

/-- The signed field of two bytes at position `k` of a body, two's complement (R173). -/
def s16 (b : List Byte) (k : Nat) : Int :=
  if u16 b k < 32768 then (u16 b k : Int) else (u16 b k : Int) - 65536

/-- One bit of the CRC-8 of R3: polynomial x^8 + x^2 + x + 1, most significant bit first. -/
def crc8Bit (r : Byte) : Byte := if r.msb then (r <<< 1) ^^^ 0x07#8 else r <<< 1

/-- One byte of the CRC-8 of R3. -/
def crc8Byte (r b : Byte) : Byte :=
  crc8Bit (crc8Bit (crc8Bit (crc8Bit (crc8Bit (crc8Bit (crc8Bit (crc8Bit (r ^^^ b))))))))

/-- The CRC-8 of R3 over a list of bytes, initial value 0x00, no final inversion. -/
def crc8 (bytes : List Byte) : Byte := bytes.foldl crc8Byte 0x00#8

/-- One bit of the CRC-16 of R27: polynomial 0x1021, most significant bit first. -/
def crc16Bit (r : BitVec 16) : BitVec 16 := if r.msb then (r <<< 1) ^^^ 0x1021#16 else r <<< 1

/-- One byte of the CRC-16 of R27. -/
def crc16Byte (r : BitVec 16) (b : Byte) : BitVec 16 :=
  crc16Bit (crc16Bit (crc16Bit (crc16Bit (crc16Bit (crc16Bit (crc16Bit (crc16Bit
    (r ^^^ (b.setWidth 16 <<< 8)))))))))

/-- The CRC-16 of R27 over a list of bytes, initial value 0xFFFF, no final inversion. -/
def crc16 (bytes : List Byte) : BitVec 16 := bytes.foldl crc16Byte 0xFFFF#16

/-- The bytes of a request frame (R174): command code, body length, body, CRC-8. -/
def frameBytes (code : Byte) (body : List Byte) : List Byte :=
  (code :: BitVec.ofNat 8 body.length :: body) ++ [crc8 (code :: BitVec.ofNat 8 body.length :: body)]

/-- The frame checks of R2, in its order, on the whole bytes a transfer carried: the command code, the body and the
ignored bytes behind the frame, or none where a check fails. -/
def parseFrame : List Byte → Option (Byte × List Byte × List Byte)
  | code :: len :: rest =>
    if 60 < len.toNat then none
    else if rest.length < len.toNat + 1 then none
    else if rest.getD len.toNat 0 = crc8 (code :: len :: rest.take len.toNat) then
      some (code, rest.take len.toNat, rest.drop (len.toNat + 1))
    else none
  | _ => none

/-- The bytes a transfer of `n` whole bytes shifts out when `bytes` is pending (R5): the answer from its first byte, and
fill bytes of 0x00 beyond its end. -/
def shiftedOut (bytes : List Byte) (n : Nat) : List Byte :=
  bytes.take n ++ List.replicate (n - bytes.length) 0x00#8

/-- The number of whole bytes of the transfer that carried a request. -/
def wireLength (r : Request) : Nat := 3 + r.body.length + r.tail.length

end Sys2Proof.Machine
end

