-- ==== Sys2Proof/Machine/Commands.lean ====
section
/-! DEFINITION. The command table of R176 with the ownership map of R8: for each command its code, the links that own
it, and the body lengths it accepts. -/

namespace Sys2Proof.Machine

/-- One row of R176 beside its row of R8. -/
structure CommandRow where
  code : Byte
  owners : List Link
  lengths : List Nat
deriving DecidableEq, Repr

/-- Commands answered on any link (R8). -/
def anyLink : List Link := [.proc, .safe, .desk]

namespace Cmd

def nop : CommandRow := ⟨0x01#8, anyLink, [0]⟩
def status : CommandRow := ⟨0x02#8, anyLink, [0]⟩
def readStream : CommandRow := ⟨0x03#8, anyLink, [1]⟩
def readSite : CommandRow := ⟨0x04#8, anyLink, [1]⟩
def poll : CommandRow := ⟨0x05#8, anyLink, [0]⟩
def listRead : CommandRow := ⟨0x06#8, anyLink, [1]⟩
def readFirstout : CommandRow := ⟨0x07#8, anyLink, [0]⟩
def readShift : CommandRow := ⟨0x08#8, anyLink, [5]⟩
def readMeas : CommandRow := ⟨0x09#8, anyLink, [2]⟩
def readCooler : CommandRow := ⟨0x0A#8, anyLink, [1]⟩
def readContacts : CommandRow := ⟨0x0B#8, anyLink, [1]⟩
def readCal : CommandRow := ⟨0x0C#8, anyLink, [1]⟩
def attnMask : CommandRow := ⟨0x0D#8, anyLink, [1]⟩
def attnClear : CommandRow := ⟨0x0E#8, anyLink, [1]⟩
def linkReset : CommandRow := ⟨0x0F#8, anyLink, [0]⟩
def setDemand : CommandRow := ⟨0x20#8, [.proc], [5]⟩
def setPlan : CommandRow := ⟨0x21#8, [.proc], [9]⟩
def setPeriod : CommandRow := ⟨0x22#8, [.proc], [1]⟩
def light : CommandRow := ⟨0x23#8, [.proc], [1]⟩
def hold : CommandRow := ⟨0x24#8, [.proc], [1]⟩
def resume : CommandRow := ⟨0x25#8, [.proc], [1]⟩
def stop : CommandRow := ⟨0x26#8, [.proc], [1]⟩
def calStart : CommandRow := ⟨0x27#8, [.proc], [1]⟩
def calStop : CommandRow := ⟨0x28#8, [.proc], [1]⟩
def calAccept : CommandRow := ⟨0x29#8, [.proc], [5]⟩
def calDiscard : CommandRow := ⟨0x2A#8, [.proc], [1]⟩
def putMeas : CommandRow := ⟨0x2B#8, [.proc], [3]⟩
def setMeasConfig : CommandRow := ⟨0x2C#8, [.proc], [6]⟩
def setCutback : CommandRow := ⟨0x2D#8, [.proc], [11]⟩
def setCooler : CommandRow := ⟨0x2E#8, [.proc], [36]⟩
def coolerMode : CommandRow := ⟨0x2F#8, [.proc], [1, 9]⟩
def setLimits : CommandRow := ⟨0x40#8, [.safe], [13]⟩
def setCheck : CommandRow := ⟨0x41#8, [.safe], [2]⟩
def grant : CommandRow := ⟨0x42#8, [.safe], [1]⟩
def revoke : CommandRow := ⟨0x43#8, [.safe], [1]⟩
def flame : CommandRow := ⟨0x44#8, [.safe], [2]⟩
def release : CommandRow := ⟨0x45#8, [.safe], [1]⟩
def masterTrip : CommandRow := ⟨0x46#8, [.safe], [0]⟩
def setContact : CommandRow := ⟨0x47#8, [.safe], [7]⟩
def setPoll : CommandRow := ⟨0x48#8, [.safe], [4]⟩
def setLinkTimeout : CommandRow := ⟨0x49#8, [.safe], [1]⟩
def fullReset : CommandRow := ⟨0x4A#8, [.safe], [0]⟩
def ack : CommandRow := ⟨0x50#8, [.proc, .desk], [2]⟩
def ackAll : CommandRow := ⟨0x60#8, [.desk], [0]⟩
def shelve : CommandRow := ⟨0x61#8, [.desk], [4]⟩
def unshelve : CommandRow := ⟨0x62#8, [.desk], [2]⟩
def silence : CommandRow := ⟨0x63#8, [.desk], [0]⟩
def firstoutClear : CommandRow := ⟨0x64#8, [.desk], [0]⟩
def firstoutMode : CommandRow := ⟨0x65#8, [.desk], [1]⟩
def forceContact : CommandRow := ⟨0x66#8, [.desk], [1]⟩
def unforce : CommandRow := ⟨0x67#8, [.desk], [1]⟩
def setClock : CommandRow := ⟨0x68#8, [.desk], [5]⟩
def setShifts : CommandRow := ⟨0x69#8, [.desk], [1, 5, 9, 13, 17]⟩
def closeShift : CommandRow := ⟨0x6A#8, [.desk], [0]⟩

end Cmd

/-- Every row of R176. -/
def commandTable : List CommandRow :=
  [Cmd.nop, Cmd.status, Cmd.readStream, Cmd.readSite, Cmd.poll, Cmd.listRead, Cmd.readFirstout, Cmd.readShift,
   Cmd.readMeas, Cmd.readCooler, Cmd.readContacts, Cmd.readCal, Cmd.attnMask, Cmd.attnClear, Cmd.linkReset,
   Cmd.setDemand, Cmd.setPlan, Cmd.setPeriod, Cmd.light, Cmd.hold, Cmd.resume, Cmd.stop, Cmd.calStart, Cmd.calStop,
   Cmd.calAccept, Cmd.calDiscard, Cmd.putMeas, Cmd.setMeasConfig, Cmd.setCutback, Cmd.setCooler, Cmd.coolerMode] ++
  [Cmd.setLimits, Cmd.setCheck, Cmd.grant, Cmd.revoke, Cmd.flame, Cmd.release, Cmd.masterTrip, Cmd.setContact,
   Cmd.setPoll, Cmd.setLinkTimeout, Cmd.fullReset] ++
  [Cmd.ack, Cmd.ackAll, Cmd.shelve, Cmd.unshelve, Cmd.silence, Cmd.firstoutClear, Cmd.firstoutMode, Cmd.forceContact,
   Cmd.unforce, Cmd.setClock, Cmd.setShifts, Cmd.closeShift]

/-- Whether a command code names a command (R176). -/
def knownCode (code : Byte) : Bool := commandTable.any fun row => row.code == code

/-- The report byte of a FLAME body says LOST (R173: 0x02). -/
def saysLost (body : List Byte) : Bool := body.getD 1 0 == 0x02#8

/-- The mode byte of a COOLER_MODE body says AUTO (R173: 0x01). -/
def saysAuto (body : List Byte) : Bool := body.getD 0 0 == 0x01#8

end Sys2Proof.Machine
end

