-- ==== Sys2Proof/Decode.lean ====
section
/-! DEFINITION. Decoding. The opcode table gives no bits, so `decodeTableWord` answers none. The frames of R2, R174 and
R176 are decoded all the same: `decodeTransfer` reads the row of the table and its operands from the bytes of one
transfer, total on any bytes, and `transferOf` writes the bytes of a row. -/

namespace Sys2Proof

open Sys2Proof.Machine

/-- The chip-select release that ends a transfer: the link, its whole bytes (R1), and the whole bytes already shifted in
transfers in progress on PROC and DESK (none where idle), which bear on FULL_RESET alone (R16). -/
structure Transfer where
  link : Link
  bytes : List Byte
  procBusy : Option Nat := none
  deskBusy : Option Nat := none
deriving DecidableEq, Repr

/-- The command code, row and owner table entry that a constructor's frame carries. -/
def Instr.commandRow : Instr → Option CommandRow
  | .nop _ => some Cmd.nop
  | .status _ => some Cmd.status
  | .readStream _ => some Cmd.readStream
  | .readSite _ => some Cmd.readSite
  | .poll _ => some Cmd.poll
  | .listRead _ => some Cmd.listRead
  | .readFirstout _ => some Cmd.readFirstout
  | .readShift _ => some Cmd.readShift
  | .readMeas _ => some Cmd.readMeas
  | .readCooler _ => some Cmd.readCooler
  | .readContacts _ => some Cmd.readContacts
  | .readCal _ => some Cmd.readCal
  | .attnMask _ => some Cmd.attnMask
  | .attnClear _ => some Cmd.attnClear
  | .linkReset _ => some Cmd.linkReset
  | .setDemand _ => some Cmd.setDemand
  | .setPlan _ => some Cmd.setPlan
  | .setPeriod _ => some Cmd.setPeriod
  | .light _ => some Cmd.light
  | .hold _ => some Cmd.hold
  | .resume _ => some Cmd.resume
  | .stop _ => some Cmd.stop
  | .calStart _ => some Cmd.calStart
  | .calStop _ => some Cmd.calStop
  | .calAccept _ => some Cmd.calAccept
  | .calDiscard _ => some Cmd.calDiscard
  | .putMeas _ => some Cmd.putMeas
  | .setMeasConfig _ => some Cmd.setMeasConfig
  | .setCutback _ => some Cmd.setCutback
  | .setCooler _ => some Cmd.setCooler
  | .coolerModeManual _ => some Cmd.coolerMode
  | .coolerModeAuto _ => some Cmd.coolerMode
  | .setLimits _ => some Cmd.setLimits
  | .setCheck _ => some Cmd.setCheck
  | .grant _ => some Cmd.grant
  | .revoke _ => some Cmd.revoke
  | .flameProven _ => some Cmd.flame
  | .flameLost _ => some Cmd.flame
  | .release _ => some Cmd.release
  | .masterTrip _ => some Cmd.masterTrip
  | .setContact _ => some Cmd.setContact
  | .setPoll _ => some Cmd.setPoll
  | .setLinkTimeout _ => some Cmd.setLinkTimeout
  | .fullReset _ _ _ => some Cmd.fullReset
  | .ack _ => some Cmd.ack
  | .ackAll _ => some Cmd.ackAll
  | .shelve _ => some Cmd.shelve
  | .unshelve _ => some Cmd.unshelve
  | .silence _ => some Cmd.silence
  | .firstoutClear _ => some Cmd.firstoutClear
  | .firstoutMode _ => some Cmd.firstoutMode
  | .forceContact _ => some Cmd.forceContact
  | .unforce _ => some Cmd.unforce
  | .setClock _ => some Cmd.setClock
  | .setShifts _ => some Cmd.setShifts
  | .closeShift _ => some Cmd.closeShift
  | .powerOnReset _ _ _ => none
  | .frameErr _ _ => none
  | .unknownCmd _ _ => none
  | .massPulse _ => none
  | .strokePulse _ => none
  | .dosingPeriodExpiry => none
  | .noFlowReport _ => none
  | .lightingTimerExpiry _ => none
  | .safeLinkTimerExpiry => none
  | .calWindowTimeout _ => none
  | .staleTimerExpiry _ => none
  | .delayTimerExpiry _ => none
  | .coolerPeriod => none
  | .stallTimerExpiry _ => none
  | .contactScan _ => none
  | .shelfExpiry _ => none
  | .hornBIntervalExpiry => none
  | .clockAdvance => none
  | .abandonedTransfer _ _ => none

/-- The request that a constructor carries. -/
def Instr.request : Instr → Option Request
  | .nop r => some r
  | .status r => some r
  | .readStream r => some r
  | .readSite r => some r
  | .poll r => some r
  | .listRead r => some r
  | .readFirstout r => some r
  | .readShift r => some r
  | .readMeas r => some r
  | .readCooler r => some r
  | .readContacts r => some r
  | .readCal r => some r
  | .attnMask r => some r
  | .attnClear r => some r
  | .linkReset r => some r
  | .setDemand r => some r
  | .setPlan r => some r
  | .setPeriod r => some r
  | .light r => some r
  | .hold r => some r
  | .resume r => some r
  | .stop r => some r
  | .calStart r => some r
  | .calStop r => some r
  | .calAccept r => some r
  | .calDiscard r => some r
  | .putMeas r => some r
  | .setMeasConfig r => some r
  | .setCutback r => some r
  | .setCooler r => some r
  | .coolerModeManual r => some r
  | .coolerModeAuto r => some r
  | .setLimits r => some r
  | .setCheck r => some r
  | .grant r => some r
  | .revoke r => some r
  | .flameProven r => some r
  | .flameLost r => some r
  | .release r => some r
  | .masterTrip r => some r
  | .setContact r => some r
  | .setPoll r => some r
  | .setLinkTimeout r => some r
  | .fullReset r _ _ => some r
  | .ack r => some r
  | .ackAll r => some r
  | .shelve r => some r
  | .unshelve r => some r
  | .silence r => some r
  | .firstoutClear r => some r
  | .firstoutMode r => some r
  | .forceContact r => some r
  | .unforce r => some r
  | .setClock r => some r
  | .setShifts r => some r
  | .closeShift r => some r
  | .powerOnReset _ _ _ => none
  | .frameErr _ _ => none
  | .unknownCmd _ r => some r
  | .massPulse _ => none
  | .strokePulse _ => none
  | .dosingPeriodExpiry => none
  | .noFlowReport _ => none
  | .lightingTimerExpiry _ => none
  | .safeLinkTimerExpiry => none
  | .calWindowTimeout _ => none
  | .staleTimerExpiry _ => none
  | .delayTimerExpiry _ => none
  | .coolerPeriod => none
  | .stallTimerExpiry _ => none
  | .contactScan _ => none
  | .shelfExpiry _ => none
  | .hornBIntervalExpiry => none
  | .clockAdvance => none
  | .abandonedTransfer _ _ => none

/-- The rows of R176 with the constructor each stands for. FLAME and COOLER_MODE are two rows of the opcode table each,
told apart by the report and the mode byte (log entry 9). -/
def requestRows (t : Transfer) : List (CommandRow × (Request → Instr)) :=
  [(Cmd.nop, .nop),
   (Cmd.status, .status),
   (Cmd.readStream, .readStream),
   (Cmd.readSite, .readSite),
   (Cmd.poll, .poll),
   (Cmd.listRead, .listRead),
   (Cmd.readFirstout, .readFirstout),
   (Cmd.readShift, .readShift),
   (Cmd.readMeas, .readMeas),
   (Cmd.readCooler, .readCooler),
   (Cmd.readContacts, .readContacts),
   (Cmd.readCal, .readCal),
   (Cmd.attnMask, .attnMask),
   (Cmd.attnClear, .attnClear),
   (Cmd.linkReset, .linkReset),
   (Cmd.setDemand, .setDemand)] ++
  [(Cmd.setPlan, .setPlan),
   (Cmd.setPeriod, .setPeriod),
   (Cmd.light, .light),
   (Cmd.hold, .hold),
   (Cmd.resume, .resume),
   (Cmd.stop, .stop),
   (Cmd.calStart, .calStart),
   (Cmd.calStop, .calStop),
   (Cmd.calAccept, .calAccept),
   (Cmd.calDiscard, .calDiscard),
   (Cmd.putMeas, .putMeas),
   (Cmd.setMeasConfig, .setMeasConfig),
   (Cmd.setCutback, .setCutback),
   (Cmd.setCooler, .setCooler),
   (Cmd.coolerMode, fun r => if saysAuto r.body then .coolerModeAuto r else .coolerModeManual r),
   (Cmd.setLimits, .setLimits)] ++
  [(Cmd.setCheck, .setCheck),
   (Cmd.grant, .grant),
   (Cmd.revoke, .revoke),
   (Cmd.flame, fun r => if saysLost r.body then .flameLost r else .flameProven r),
   (Cmd.release, .release),
   (Cmd.masterTrip, .masterTrip),
   (Cmd.setContact, .setContact),
   (Cmd.setPoll, .setPoll),
   (Cmd.setLinkTimeout, .setLinkTimeout),
   (Cmd.fullReset, fun r => .fullReset r t.procBusy t.deskBusy),
   (Cmd.ack, .ack),
   (Cmd.ackAll, .ackAll),
   (Cmd.shelve, .shelve),
   (Cmd.unshelve, .unshelve),
   (Cmd.silence, .silence),
   (Cmd.firstoutClear, .firstoutClear)] ++
  [(Cmd.firstoutMode, .firstoutMode),
   (Cmd.forceContact, .forceContact),
   (Cmd.unforce, .unforce),
   (Cmd.setClock, .setClock),
   (Cmd.setShifts, .setShifts),
   (Cmd.closeShift, .closeShift)]

/-- The row of the opcode table that a good frame stands for (R7, check 1). -/
def requestOf (t : Transfer) (code : Byte) (r : Request) : Instr :=
  match (requestRows t).find? fun row => row.1.code == code with
  | some row => row.2 r
  | none => .unknownCmd code r

/-- The row of the opcode table that a transfer's bytes stand for: FRAME_ERR where the frame checks of R2 fail,
UNKNOWN_CMD where the command code names no command, and the command otherwise. -/
def decodeTransfer (t : Transfer) : Instr :=
  match parseFrame t.bytes with
  | some (code, body, tail) => requestOf t code ⟨t.link, body, tail⟩
  | none => .frameErr t.link t.bytes

/-- The transfers in progress on PROC and DESK that a constructor names. -/
def Instr.busy : Instr → Option Nat × Option Nat
  | .fullReset _ p d => (p, d)
  | _ => (none, none)

/-- The transfer that carries a row: the bytes of a bad frame as they are, or the frame of a request (R174) followed by
the bytes behind it. Events and resets are carried by no transfer's frame. -/
def transferOf (i : Instr) : Option Transfer :=
  match i with
  | .frameErr l bytes => some ⟨l, bytes, none, none⟩
  | .unknownCmd code r => some ⟨r.link, frameBytes code r.body ++ r.tail, none, none⟩
  | i =>
    match i.commandRow, i.request with
    | some row, some r => some ⟨r.link, frameBytes row.code r.body ++ r.tail, i.busy.1, i.busy.2⟩
    | _, _ => none

/-- The command that a word of the opcode table's bits spells. No row of the table gives bits ("fields" is empty in all
75 rows), so no word spells a command. -/
def decodeTableWord (_nbits _w : Nat) : Option Instr := none

end Sys2Proof
end

