-- ==== Sys2Proof/Config.lean ====
section
/-! DEFINITION. The free values: constants with no body, so that a proved claim holds whatever they are. -/

namespace Sys2Proof

/-- The order in which events that fall due in the same millisecond are taken. The manual leaves it open ("either may
be taken first": R40, R57, R90, R100, R107, R121, R150, R160). The first argument is the counter of draws
`raceSeed` of State, the second the number of other events due at the draw. Log entry 2. -/
opaque Config.raceChoice : Nat → Nat → Nat

/-- The NCV used in the heat arithmetic of R66 and R67 for a stream that burns with its NCV absent. 04_heat_allocation.md,
4.3, says that this does not occur ("Every stream that takes part in a computation has an NCV present"), and states no
result for it. Log entry 8. -/
opaque Config.absentNcv : Nat

end Sys2Proof
end

