-- ==== Sys2Proof/Machine/Arith.lean ====
section
/-! DEFINITION. The exact integer arithmetic of 00_scope.md, "Arithmetic", and R71. -/

namespace Sys2Proof.Machine

/-- round half up of a / b for a positive b. -/
def roundHalfUp (a b : Nat) : Nat := (2 * a + b) / (2 * b)

/-- round half up of a / b for a signed a, ties away from zero. -/
def roundHalfUpInt (a : Int) (b : Nat) : Int :=
  if 0 ≤ a then (roundHalfUp a.toNat b : Int) else -(roundHalfUp (-a).toNat b : Int)

/-- clamp into [lo, hi]. -/
def clampNat (lo hi x : Nat) : Nat := if x < lo then lo else if hi < x then hi else x

/-- clamp into [lo, hi] for signed values. -/
def clampInt (lo hi x : Int) : Int := if x < lo then lo else if hi < x then hi else x

/-- A saturating sum that holds at `limit`. -/
def satAdd (limit a b : Nat) : Nat := min limit (a + b)

/-- Moves `x` toward `target` by the difference between them, limited to `by'` in either direction (R69, R116). -/
def moveToward (x target by' : Nat) : Nat :=
  if x ≤ target then min target (x + by') else max target (x - by')

/-- The distance between two numbers. -/
def distance (a b : Nat) : Nat := (a - b) + (b - a)

end Sys2Proof.Machine
end

