-- ==== Sys2Proof/Machine/Records.lean ====
section
/-! DEFINITION. The records that the blocks hold, with the manual's field names. Units: kg/h, kW, kJ/kg, g, ms for
running timers, s where a field is written in seconds. -/

namespace Sys2Proof.Machine

/-- A time on the shift clock (R161). -/
structure ClockTime where
  day : Nat
  second : Nat
deriving DecidableEq, Repr

/-- Result codes (01, "Result codes"). -/
inductive ResultCode where
  | ok | okClamped | frameErr | unknownCmd | notOwner | badIndex | range | wrongState | notArmed | checkMismatch
  | interlock | forced | heldOff | tooLate | noEntry | resetDone
deriving DecidableEq, Repr

/-- The four attention factors, or one enable for each (R10, R11). -/
structure Factors where
  news : Bool
  trip : Bool
  shift : Bool
  cal : Bool
deriving DecidableEq, Repr

/-- No factor. -/
def Factors.clear : Factors := ⟨false, false, false, false⟩

/-- The status summary of an answer (R9). -/
structure Summary where
  factors : Factors
  resetSeen : Bool
  unack : Nat
  hornA : Bool
  hornB : Bool
  firstOut : Bool
  overflow : Bool
  mainCap : Bool
  calcCap : Bool
  safeHealthy : Bool
  holdoff : Bool
deriving DecidableEq, Repr

/-- An answer frame without its length and CRC bytes, which follow from the rest (R174). -/
structure Answer where
  echo : Byte
  result : ResultCode
  summary : Summary
  body : List Byte
deriving DecidableEq, Repr

/-- The cause of the last device reset (R13). -/
inductive ResetCause where
  | power
  | command
deriving DecidableEq, Repr

/-- A link unit (01). `lastOut` and `abandoned` are the model's own (log entries 11 and 12). -/
structure LinkUnit where
  answer : Answer
  factors : Factors
  mask : Factors
  resetSeen : Bool
  lastOut : List Byte
  abandoned : Option (List Byte)
deriving DecidableEq, Repr

/-- Holdoff modes (R49). -/
inductive Holdoff where
  | none
  | flame
  | all
deriving DecidableEq, Repr

/-- The limits half of a stream record (02, 2.1). -/
structure Limits where
  site : Site
  scale : Nat
  min : Nat
  max : Nat
  ramp : Nat
  lightOff : Nat
  holdoff : Holdoff
  noFlowCount : Nat
deriving DecidableEq, Repr

/-- The plan half of a stream record (02, 2.1). -/
structure Plan where
  ncv : Option Nat
  weight : Nat
  rank : Nat
  pulseWeight : Nat
  band : Nat
  devCount : Nat
deriving DecidableEq, Repr

inductive PollSense where
  | setWhenTrue
  | setWhenFalse
deriving DecidableEq, Repr

inductive PollCond where
  | burning
  | unacked
deriving DecidableEq, Repr

/-- The poll configuration of a stream; line none is UNCONFIGURED (R31). -/
structure Poll where
  line : Option (Fin 8)
  sense : PollSense
  cond : PollCond
deriving DecidableEq, Repr

/-- Firing states (03). -/
inductive FiringState where
  | off | ready | lighting | firing | held | calib | stopping | tripped
deriving DecidableEq, Repr

/-- BURNING names LIGHTING, FIRING, HELD, CALIB and STOPPING together (03). -/
def FiringState.burning : FiringState → Bool
  | .lighting | .firing | .held | .calib | .stopping => true
  | .off | .ready | .tripped => false

/-- Trip causes (R35). -/
inductive TripCause where
  | flameLost | lightFail | noFlow | interlock | revoke | linkLoss | master
deriving DecidableEq, Repr

/-- States of a calibration record (05, 5.4). -/
inductive CalState where
  | opened | short | done | aborted
deriving DecidableEq, Repr

/-- A calibration record (05, 5.4). The calibration timer is `elapsed`, running while the state is OPEN (R88). -/
structure CalRecord where
  state : CalState
  start : ClockTime
  frozen : Nat
  startWeight : Nat
  pulses : Nat
  elapsed : Nat
deriving DecidableEq, Repr

/-- A window entry (R80). -/
structure WindowEntry where
  pulses : Nat
  output : Nat
deriving DecidableEq, Repr

/-- A stream: its record in the Stream Table with what the FSU, DE and FMU keep for it. -/
structure Stream where
  limits : Limits
  plan : Plan
  limitsSet : Bool
  planSet : Bool
  poll : Poll
  state : FiringState
  lighting : Option Nat
  cause : Option TripCause
  planned : Nat
  output : Nat
  rate : Nat
  pulses : Nat
  ring : List WindowEntry
  flow : Nat
  fill : Nat
  devCounter : Nat
  retCounter : Nat
  devCond : Bool
  noFlowCounter : Nat
  noFlowDue : Bool
  cal : Option CalRecord
deriving DecidableEq, Repr

/-- The stream's calibration record is OPEN. -/
def Stream.calOpen (x : Stream) : Bool :=
  match x.cal with
  | some c => c.state == .opened
  | none => false

/-- Dosing periods (R62). -/
inductive Period where
  | ms250 | ms500 | ms1000 | ms2000
deriving DecidableEq, Repr

/-- Roles of a stream in a dosing computation (R65). -/
inductive Role where
  | none | fixedStart | fixedMax | fixedMin | unfixed
deriving DecidableEq, Repr

/-- A stream's role and heat in a computation record (R68). -/
structure RoleHeat where
  role : Role
  heat : Int
deriving DecidableEq, Repr

/-- The last computation record of a site; none for a stream that does not belong to it (R68, R75, log entry 13). -/
structure CompRecord where
  passes : Nat
  lastM : Int
  parts : Vector (Option RoleHeat) 8
deriving DecidableEq, Repr

/-- The site record of the DE (04). -/
structure SiteRec where
  demand : Nat
  setOffers : Vector (Option Nat) 4
  holdbackOffer : Option Nat
  largest : Nat
  effective : Nat
  capActive : Bool
  unplaced : Int
  unplacedCount : Nat
  unplacedCond : Bool
  compCount : Nat
  record : CompRecord
deriving DecidableEq, Repr

/-- A measurement slot (06, 6.1). -/
structure Slot where
  low : Int
  high : Int
  staleTime : Nat
  value : Int
  isStale : Bool
  timer : Option Nat
  alarm : Bool
deriving DecidableEq, Repr

inductive CutSense where
  | above
  | below
deriving DecidableEq, Repr

/-- The sites a cutback set names. -/
inductive CutSites where
  | main | calc | both
deriving DecidableEq, Repr

inductive SetState where
  | disabled | idle | timing | active
deriving DecidableEq, Repr

/-- A delay timer, with its remaining time in ms (06, 6.2). -/
inductive DelayTimer where
  | stopped
  | running (ms : Nat)
  | frozen (ms : Nat)
deriving DecidableEq, Repr

/-- A cutback set (06, 6.2). Its CUTBACK condition is active exactly while it is ACTIVE. -/
structure CutSet where
  enable : Bool
  slot : Fin 8
  sense : CutSense
  threshold : Int
  hysteresis : Nat
  delay : Nat
  sites : CutSites
  cut : Nat
  state : SetState
  timer : DelayTimer
deriving DecidableEq, Repr

/-- A grate section (07, 7.1). -/
structure Section where
  smin : Nat
  smax : Nat
  step : Nat
  manual : Nat
  output : Nat
  stall : Option Nat
  stalled : Bool
deriving DecidableEq, Repr

/-- The cooler-wide settings (07, 7.1). -/
structure CoolerSettings where
  target : Nat
  base : Nat
  gain : Nat
  holdbackPressure : Nat
  holdbackTime : Nat
  holdbackCut : Nat
  clinkerPerStroke : Nat
  slot : Fin 8
deriving DecidableEq, Repr

inductive CoolerMode where
  | manual
  | auto
deriving DecidableEq, Repr

/-- The Cooler Controller (07, 7.1). `ratios` are those of sections 2, 3 and 4; section 1 has none. -/
structure Cooler where
  settings : CoolerSettings
  ratios : Vector Nat 3
  sections : Vector Section 4
  mode : CoolerMode
  timer : Nat
  lastRaw : Int
  pressureCount : Nat
  pressureCause : Bool
  stallCause : Bool
  stopContacts : List (Fin 24)
  holdback : Bool
  strokes : Nat
  clinker : Nat
deriving DecidableEq, Repr

/-- The stop cause stands while the stop contacts set is not empty (R124). -/
def Cooler.stopCause (c : Cooler) : Bool := !c.stopContacts.isEmpty

/-- Contact roles (08, 8.1). -/
inductive ContactRole where
  | none | alarm | streamInterlock | coolerStop
deriving DecidableEq, Repr

inductive Level where
  | opened
  | closed
deriving DecidableEq, Repr

/-- Alarm priorities, P1 the highest. -/
inductive Priority where
  | p1 | p2 | p3
deriving DecidableEq, Repr

/-- A contact record (08, 8.1). Bit n of the mask stands for stream n. -/
structure Contact where
  role : ContactRole
  normal : Level
  priority : Priority
  mask : BitVec 8
  debounce : Nat
  slow : Bool
  accepted : Level
  count : Nat
  forced : Bool
  cond : Bool
  forcedCond : Bool
deriving DecidableEq, Repr

/-- The reading of a contact: the accepted state, or the normal state while it is forced (08, 8.1). -/
def Contact.reading (c : Contact) : Level := if c.forced then c.normal else c.accepted

/-- A contact is abnormal while its reading differs from its normal state (08, 8.1). -/
def Contact.abnormal (c : Contact) : Bool := c.reading != c.normal

/-- Details of an alarm raise (R139). -/
inductive Detail where
  | cause (c : TripCause)
  | short
  | surplus
deriving DecidableEq, Repr

inductive EntryState where
  | activeUnack | activeAck | clearedUnack | shelved
deriving DecidableEq, Repr

/-- An alarm list entry (R140). The shelf expiry is the remaining time of the shelf timer in ms. -/
structure Entry where
  code : AlarmCode
  priority : Priority
  state : EntryState
  active : Bool
  raised : ClockTime
  count : Nat
  detail : Option Detail
  shelf : Option Nat
deriving DecidableEq, Repr

/-- Horn B: silent, or sounding in its on half or its off half (R152). -/
inductive HornB where
  | silent
  | onHalf
  | offHalf
deriving DecidableEq, Repr

inductive FirstOutMode where
  | trip
  | any
deriving DecidableEq, Repr

/-- The captured fields of the first-out record (09, 9.7). -/
structure Capture where
  code : AlarmCode
  priority : Priority
  detail : Option Detail
  time : ClockTime
  states : List FiringState
deriving DecidableEq, Repr

/-- The first-out record: EMPTY while `captured` is none, HOLDING otherwise (09, 9.7). -/
structure FirstOut where
  mode : FirstOutMode
  captured : Option Capture
deriving DecidableEq, Repr

/-- The Alarm Unit (09). -/
structure AlarmUnit where
  list : List Entry
  overflow : Bool
  silence : Bool
  hornA : Bool
  hornB : HornB
  hornBTimer : Option Nat
  firstOut : FirstOut
deriving DecidableEq, Repr

/-- A raise as it reaches the AU (R141). -/
structure Raise where
  code : AlarmCode
  priority : Priority
  detail : Option Detail
deriving DecidableEq, Repr

/-- The open shift record (10, 10.3). -/
structure OpenShift where
  number : Nat
  opened : ClockTime
  mass : Vector Nat 8
  heat : Vector Nat 8
  burnMain : Nat
  burnCalc : Nat
  strokes : Nat
  clinker : Nat
  alarmsP1 : Nat
  alarmsP2 : Nat
  alarmsP3 : Nat
  trips : Nat
  cals : Nat
deriving DecidableEq, Repr

inductive CloseCause where
  | clock
  | desk
deriving DecidableEq, Repr

/-- A latched shift record (R167): mass in kg, heat in MJ. -/
structure ClosedShift where
  number : Nat
  opened : ClockTime
  closed : ClockTime
  cause : CloseCause
  mass : List Nat
  heat : List Nat
  burnMain : Nat
  burnCalc : Nat
  strokes : Nat
  clinker : Nat
  alarmsP1 : Nat
  alarmsP2 : Nat
  alarmsP3 : Nat
  trips : Nat
  cals : Nat
  shc : Option Nat
deriving DecidableEq, Repr

/-- The Shift Accounting Unit (10). -/
structure ShiftUnit where
  clock : ClockTime
  secondTimer : Nat
  changeTimes : List Nat
  shift : OpenShift
  history : List ClosedShift
deriving DecidableEq, Repr

end Sys2Proof.Machine
end

