-- ==== Sys2Proof/Machine/CheckWord.lean ====
section
/-! DEFINITION. The limits check word (R27). -/

namespace Sys2Proof.Machine

/-- The encoding of a site (R27, R173). -/
def siteByte : Site → Nat
  | .main => 0x00
  | .calc => 0x01

/-- The encoding of a holdoff mode (R27, R173). -/
def holdoffByte : Holdoff → Nat
  | .none => 0x00
  | .flame => 0x01
  | .all => 0x02

/-- The 12 bytes that a limits half contributes, in the order of R27. -/
def limitsBytes (x : Limits) : List Byte :=
  be8 (siteByte x.site) ++ be16 x.scale ++ be16 x.min ++ be16 x.max ++ be16 x.ramp ++ be8 x.lightOff ++
    be8 (holdoffByte x.holdoff) ++ be8 x.noFlowCount

/-- The CRC-16 over the limits halves of the streams in stream order (R27). -/
def checkWord (streams : Vector Stream 8) : BitVec 16 :=
  crc16 (streams.toList.flatMap fun x => limitsBytes x.limits)

end Sys2Proof.Machine
end

