-- ==== Sys2Proof/Machine/State.lean ====
section
/-! DEFINITION. The state of the KF8, the ways a step can stop, and the machine right after reset. -/

namespace Sys2Proof.Machine

/-- Faults: none. The part traps nothing: a request that may not act is refused with a result code in its answer
(R5, R6, R7), and that answer is a next state. -/
inductive Fault where
deriving DecidableEq, Repr

/-- The ways the model, not the part, turns a command away (log entry 10). All are safe: the machine stops where the
hardware cannot be. -/
inductive Refusal where
  /-- Raised by no arm: every row of the table has its meaning. Safe. -/
  | notModelled (mnemonic : String)
  /-- Raised by a request row whose body exceeds the 60 bytes a good frame carries (R2), by FRAME_ERR on bytes that pass
  the frame checks, and by UNKNOWN_CMD with a code that names a command: operands no transfer of that row has. Safe. -/
  | notThisRow
  /-- Raised by ABANDONED_TRANSFER on a link where no transfer was in progress at the last reset (R15). Safe. -/
  | noTransferAbandoned
deriving DecidableEq, Repr

/-- Everything the part holds. INVENTORY.md gives for each field the rule that names it. -/
structure State where
  /-- The commands that are waiting, first in first out (the model's own, log entry 1). -/
  pending : List Instr
  /-- The counter that the free order of simultaneous expiries is drawn with (the model's own, log entry 2). -/
  raceSeed : Nat
  resetCause : ResetCause
  procLink : LinkUnit
  safeLink : LinkUnit
  deskLink : LinkUnit
  streams : Vector Stream 8
  computedWord : BitVec 16
  expectedWord : BitVec 16
  safeTimer : Option Nat
  safeTimeout : Nat
  safeHealthy : Bool
  period : Period
  dosingTimer : Nat
  mainSite : SiteRec
  calcSite : SiteRec
  slots : Vector Slot 8
  sets : Vector CutSet 4
  cooler : Cooler
  contacts : Vector Contact 24
  scanTimer : Nat
  scanCount : Nat
  /-- The levels at the contact pins; a bit of 1 is closed (log entry 7). -/
  contactInputs : BitVec 24
  au : AlarmUnit
  su : ShiftUnit
deriving DecidableEq, Repr

/-- The status summary of a RESET answer (R15). -/
def Summary.reset : Summary where
  factors := Factors.clear
  resetSeen := true
  unack := 0
  hornA := false
  hornB := false
  firstOut := false
  overflow := false
  mainCap := false
  calcCap := false
  safeHealthy := true
  holdoff := false

/-- The encoding of a reset cause (R173). -/
def resetCauseByte : ResetCause → Nat
  | .power => 0x00
  | .command => 0x01

/-- A RESET answer: result RESET_DONE, body the reset cause (R15, R175). -/
def Answer.reset (echo : Byte) (cause : ResetCause) : Answer where
  echo := echo
  result := .resetDone
  summary := Summary.reset
  body := be8 (resetCauseByte cause)

/-- A link unit after power-on reset (R15); the RESET answer echoes the code of NOP, 0x01. -/
def LinkUnit.reset (cause : ResetCause) : LinkUnit where
  answer := Answer.reset 0x01#8 cause
  factors := Factors.clear
  mask := Factors.clear
  resetSeen := true
  lastOut := []
  abandoned := none

/-- The limits half after reset (R17). -/
def Limits.reset : Limits where
  site := .main
  scale := 1000
  min := 0
  max := 0
  ramp := 1
  lightOff := 15
  holdoff := .all
  noFlowCount := 8

/-- The plan half after reset (R17). -/
def Plan.reset : Plan where
  ncv := none
  weight := 0
  rank := 8
  pulseWeight := 1000
  band := 20
  devCount := 10

/-- A stream after reset (R17, R35, R60, R76). -/
def Stream.reset : Stream where
  limits := Limits.reset
  plan := Plan.reset
  limitsSet := false
  planSet := false
  poll := ⟨none, .setWhenTrue, .burning⟩
  state := .off
  lighting := none
  cause := none
  planned := 0
  output := 0
  rate := 0
  pulses := 0
  ring := []
  flow := 0
  fill := 0
  devCounter := 0
  retCounter := 0
  devCond := false
  noFlowCounter := 0
  noFlowDue := false
  cal := none

/-- A site record after reset (R60): `member` says what the record holds for each stream, all eight being MAIN streams. -/
def SiteRec.reset (member : Option RoleHeat) : SiteRec where
  demand := 0
  setOffers := Vector.replicate 4 none
  holdbackOffer := none
  largest := 0
  effective := 0
  capActive := false
  unplaced := 0
  unplacedCount := 0
  unplacedCond := false
  compCount := 0
  record := ⟨0, 0, Vector.replicate 8 member⟩

/-- A slot after reset (R97). -/
def Slot.reset : Slot where
  low := -32768
  high := 32767
  staleTime := 10
  value := 0
  isStale := true
  timer := none
  alarm := false

/-- A cutback set after reset (R104). -/
def CutSet.reset : CutSet where
  enable := false
  slot := 0
  sense := .above
  threshold := 0
  hysteresis := 0
  delay := 0
  sites := .both
  cut := 0
  state := .disabled
  timer := .stopped

/-- The cooler after reset (R111). -/
def Cooler.reset : Cooler where
  settings :=
    { target := 0, base := 0, gain := 0, holdbackPressure := 0, holdbackTime := 60, holdbackCut := 0,
      clinkerPerStroke := 100, slot := 0 }
  ratios := Vector.replicate 3 100
  sections := Vector.replicate 4
    { smin := 0, smax := 0, step := 1, manual := 0, output := 0, stall := none, stalled := false }
  mode := .manual
  timer := 1000
  lastRaw := 0
  pressureCount := 0
  pressureCause := false
  stallCause := false
  stopContacts := []
  holdback := false
  strokes := 0
  clinker := 0

/-- A contact after reset (R128). -/
def Contact.reset : Contact where
  role := .none
  normal := .closed
  priority := .p2
  mask := 0x00#8
  debounce := 4
  slow := false
  accepted := .closed
  count := 0
  forced := false
  cond := false
  forcedCond := false

/-- The Alarm Unit after reset (R138). -/
def AlarmUnit.reset : AlarmUnit where
  list := []
  overflow := false
  silence := false
  hornA := false
  hornB := .silent
  hornBTimer := none
  firstOut := ⟨.trip, none⟩

/-- An open shift record with every total and count 0 (R161, R167). -/
def OpenShift.fresh (number : Nat) (opened : ClockTime) : OpenShift where
  number := number
  opened := opened
  mass := Vector.replicate 8 0
  heat := Vector.replicate 8 0
  burnMain := 0
  burnCalc := 0
  strokes := 0
  clinker := 0
  alarmsP1 := 0
  alarmsP2 := 0
  alarmsP3 := 0
  trips := 0
  cals := 0

/-- The Shift Accounting Unit after reset (R161). -/
def ShiftUnit.reset : ShiftUnit where
  clock := ⟨0, 0⟩
  secondTimer := 1000
  changeTimes := []
  shift := OpenShift.fresh 1 ⟨0, 0⟩
  history := []

/-- The machine right after power-on reset (R15, R17, R35, R60, R76, R97, R104, R111, R128, R138, R161), nothing waiting. -/
def State.reset : State where
  pending := []
  raceSeed := 0
  resetCause := .power
  procLink := LinkUnit.reset .power
  safeLink := LinkUnit.reset .power
  deskLink := LinkUnit.reset .power
  streams := Vector.replicate 8 Stream.reset
  computedWord := checkWord (Vector.replicate 8 Stream.reset)
  expectedWord := 0x0000#16
  safeTimer := some 3000
  safeTimeout := 3
  safeHealthy := true
  period := .ms1000
  dosingTimer := 1000
  mainSite := SiteRec.reset (some ⟨.none, 0⟩)
  calcSite := SiteRec.reset none
  slots := Vector.replicate 8 Slot.reset
  sets := Vector.replicate 4 CutSet.reset
  cooler := Cooler.reset
  contacts := Vector.replicate 24 Contact.reset
  scanTimer := 20
  scanCount := 0
  contactInputs := 0xFFFFFF#24
  au := AlarmUnit.reset
  su := ShiftUnit.reset

end Sys2Proof.Machine
end

