-- ==== Sys2Proof/Machine/Operands.lean ====
section
/-! DEFINITION. The encodings of enumerated values (R173), in requests and in answers, and the field forms that several
commands share. A request byte that holds a value the table does not list decodes to none. -/

namespace Sys2Proof.Machine

/-- site: MAIN 0x00, CALC 0x01. -/
def siteOf : Nat → Option Site
  | 0 => some .main
  | 1 => some .calc
  | _ => none

/-- holdoff mode: NONE 0x00, FLAME 0x01, ALL 0x02. -/
def holdoffOf : Nat → Option Holdoff
  | 0 => some .none
  | 1 => some .flame
  | 2 => some .all
  | _ => none

/-- firing state: OFF 0x00 to TRIPPED 0x07. -/
def firingByte : FiringState → Nat
  | .off => 0x00
  | .ready => 0x01
  | .lighting => 0x02
  | .firing => 0x03
  | .held => 0x04
  | .calib => 0x05
  | .stopping => 0x06
  | .tripped => 0x07

/-- trip cause: FLAME_LOST 0x01 to MASTER 0x07. -/
def causeByte : TripCause → Nat
  | .flameLost => 0x01
  | .lightFail => 0x02
  | .noFlow => 0x03
  | .interlock => 0x04
  | .revoke => 0x05
  | .linkLoss => 0x06
  | .master => 0x07

/-- trip cause, absent 0x00. -/
def causeOptByte : Option TripCause → Nat
  | some c => causeByte c
  | none => 0x00

/-- alarm detail: absent 0x00, a trip cause, SHORT 0x08, SURPLUS 0x09. -/
def detailByte : Option Detail → Nat
  | some (.cause c) => causeByte c
  | some .short => 0x08
  | some .surplus => 0x09
  | none => 0x00

/-- period code: 250 ms 0x00 to 2,000 ms 0x03. -/
def periodOf : Nat → Option Period
  | 0 => some .ms250
  | 1 => some .ms500
  | 2 => some .ms1000
  | 3 => some .ms2000
  | _ => none

/-- period code: 250 ms 0x00 to 2,000 ms 0x03. -/
def periodByte : Period → Nat
  | .ms250 => 0x00
  | .ms500 => 0x01
  | .ms1000 => 0x02
  | .ms2000 => 0x03

/-- The length of a dosing period in ms (R62). -/
def Period.ms : Period → Nat
  | .ms250 => 250
  | .ms500 => 500
  | .ms1000 => 1000
  | .ms2000 => 2000

/-- calibration record state: OPEN 0x01 to ABORTED 0x04. -/
def calStateByte : CalState → Nat
  | .opened => 0x01
  | .short => 0x02
  | .done => 0x03
  | .aborted => 0x04

/-- calibration record state, absent 0x00. -/
def calOptByte : Option CalRecord → Nat
  | some c => calStateByte c.state
  | none => 0x00

/-- poll line: 0x00 to 0x07, UNCONFIGURED 0xFF. -/
def pollLineOf (v : Nat) : Option (Option (Fin 8)) :=
  if h : v < 8 then some (some ⟨v, h⟩) else if v = 0xFF then some none else none

/-- poll line: 0x00 to 0x07, UNCONFIGURED 0xFF. -/
def pollLineByte : Option (Fin 8) → Nat
  | some k => k.val
  | none => 0xFF

/-- poll sense: SET_WHEN_TRUE 0x00, SET_WHEN_FALSE 0x01. -/
def pollSenseOf : Nat → Option PollSense
  | 0 => some .setWhenTrue
  | 1 => some .setWhenFalse
  | _ => none

/-- poll condition: BURNING 0x00, UNACKED 0x01. -/
def pollCondOf : Nat → Option PollCond
  | 0 => some .burning
  | 1 => some .unacked
  | _ => none

/-- priority: P1 0x01, P2 0x02, P3 0x03. -/
def priorityOf : Nat → Option Priority
  | 1 => some .p1
  | 2 => some .p2
  | 3 => some .p3
  | _ => none

/-- priority: P1 0x01, P2 0x02, P3 0x03. The number also orders them: the lower priority has the higher number. -/
def Priority.num : Priority → Nat
  | .p1 => 1
  | .p2 => 2
  | .p3 => 3

/-- alarm kind and index (R139, R173): SITE_UNPLACED has index 0 for MAIN and 1 for CALC, SECTION_STALLED 1 to 4, and
SAFE_LINK and COOLER_HOLDBACK 0. -/
def codeBytes : AlarmCode → List Byte
  | .streamTrip i => be8 0x01 ++ be8 i.val
  | .streamDeviation i => be8 0x02 ++ be8 i.val
  | .siteUnplaced x => be8 0x03 ++ be8 (siteByte x)
  | .safeLink => be8 0x04 ++ be8 0
  | .measStale k => be8 0x05 ++ be8 k.val
  | .cutback k => be8 0x06 ++ be8 k.val
  | .sectionStalled n => be8 0x07 ++ be8 (n.val + 1)
  | .coolerHoldback => be8 0x08 ++ be8 0
  | .contact k => be8 0x09 ++ be8 k.val
  | .contactForced k => be8 0x0A ++ be8 k.val

/-- An index below n, made into a code. -/
def indexed (n : Nat) (mk : Fin n → AlarmCode) (v : Nat) : Option AlarmCode :=
  if h : v < n then some (mk ⟨v, h⟩) else none

/-- The alarm code that a kind and an index name, or none where the kind names no kind or the index lies outside its
kind's range (R146, R148, R149). -/
def alarmCodeOf (kind index : Nat) : Option AlarmCode :=
  match kind with
  | 0x01 => indexed 8 .streamTrip index
  | 0x02 => indexed 8 .streamDeviation index
  | 0x03 => (siteOf index).map .siteUnplaced
  | 0x04 => if index = 0 then some .safeLink else none
  | 0x05 => indexed 8 .measStale index
  | 0x06 => indexed 4 .cutback index
  | 0x07 => if index = 0 then none else indexed 4 .sectionStalled (index - 1)
  | 0x08 => if index = 0 then some .coolerHoldback else none
  | 0x09 => indexed 24 .contact index
  | 0x0A => indexed 24 .contactForced index
  | _ => none

/-- alarm entry state: ACTIVE_UNACK 0 to SHELVED 3. -/
def entryStateByte : EntryState → Nat
  | .activeUnack => 0
  | .activeAck => 1
  | .clearedUnack => 2
  | .shelved => 3

/-- The state of an entry after a command, 0xFF where it was removed (R173). -/
def entryOptByte : Option Entry → Nat
  | some e => entryStateByte e.state
  | none => 0xFF

/-- sense of a cutback set: ABOVE 0x00, BELOW 0x01. -/
def cutSenseOf : Nat → Option CutSense
  | 0 => some .above
  | 1 => some .below
  | _ => none

/-- sense of a cutback set: ABOVE 0x00, BELOW 0x01. -/
def cutSenseByte : CutSense → Nat
  | .above => 0x00
  | .below => 0x01

/-- sites of a cutback set: MAIN 0x00, CALC 0x01, BOTH 0x02. -/
def cutSitesOf : Nat → Option CutSites
  | 0 => some .main
  | 1 => some .calc
  | 2 => some .both
  | _ => none

/-- sites of a cutback set: MAIN 0x00, CALC 0x01, BOTH 0x02. -/
def cutSitesByte : CutSites → Nat
  | .main => 0x00
  | .calc => 0x01
  | .both => 0x02

/-- cutback set state: DISABLED 0x00 to ACTIVE 0x03. -/
def setStateByte : SetState → Nat
  | .disabled => 0x00
  | .idle => 0x01
  | .timing => 0x02
  | .active => 0x03

/-- delay timer: stopped 0, running 1, frozen 2 (R177). -/
def delayTimerByte : DelayTimer → Nat
  | .stopped => 0
  | .running _ => 1
  | .frozen _ => 2

/-- The remaining time of a delay timer in ms, 0 when stopped (R177). -/
def delayTimerMs : DelayTimer → Nat
  | .stopped => 0
  | .running ms => ms
  | .frozen ms => ms

/-- cooler mode: MANUAL 0x00, AUTO 0x01. -/
def coolerModeByte : CoolerMode → Nat
  | .manual => 0x00
  | .auto => 0x01

/-- contact role: NONE 0x00 to COOLER_STOP 0x03. -/
def roleOf : Nat → Option ContactRole
  | 0 => some .none
  | 1 => some .alarm
  | 2 => some .streamInterlock
  | 3 => some .coolerStop
  | _ => none

/-- contact role: NONE 0x00 to COOLER_STOP 0x03. -/
def roleByte : ContactRole → Nat
  | .none => 0x00
  | .alarm => 0x01
  | .streamInterlock => 0x02
  | .coolerStop => 0x03

/-- contact level: open 0x00, closed 0x01. -/
def levelOf : Nat → Option Level
  | 0 => some .opened
  | 1 => some .closed
  | _ => none

/-- contact level: open 0x00, closed 0x01. -/
def levelByte : Level → Nat
  | .opened => 0x00
  | .closed => 0x01

/-- on 0x01, off 0x00. -/
def onOffOf : Nat → Option Bool
  | 0 => some false
  | 1 => some true
  | _ => none

/-- on or set 0x01, off or clear 0x00. -/
def flagByte (b : Bool) : Nat := if b then 1 else 0

/-- first-out mode: TRIP 0, ANY 1. -/
def firstOutModeOf : Nat → Option FirstOutMode
  | 0 => some .trip
  | 1 => some .any
  | _ => none

/-- first-out mode: TRIP 0, ANY 1. -/
def firstOutModeByte : FirstOutMode → Nat
  | .trip => 0
  | .any => 1

/-- shift close cause: CLOCK 0, DESK 1. -/
def closeCauseByte : CloseCause → Nat
  | .clock => 0
  | .desk => 1

/-- computation roles (R177): NONE 0, FIXED_START 1, FIXED_MAX 2, FIXED_MIN 3, UNFIXED 4. -/
def roleHeatByte : Role → Nat
  | .none => 0
  | .fixedStart => 1
  | .fixedMax => 2
  | .fixedMin => 3
  | .unfixed => 4

/-- Result codes (R174). -/
def resultByte : ResultCode → Nat
  | .ok => 0x00
  | .okClamped => 0x01
  | .frameErr => 0x10
  | .unknownCmd => 0x11
  | .notOwner => 0x12
  | .badIndex => 0x20
  | .range => 0x21
  | .wrongState => 0x22
  | .notArmed => 0x30
  | .checkMismatch => 0x31
  | .interlock => 0x32
  | .forced => 0x33
  | .heldOff => 0x34
  | .tooLate => 0x35
  | .noEntry => 0x40
  | .resetDone => 0x50

/-- A clock time of 5 bytes: the day in 2, the second of day in 3 (R173). -/
def ClockTime.bytes (t : ClockTime) : List Byte := be16 t.day ++ be24 t.second

/-- Bit `n` of a byte being put together: 2 to the n where the flag is set. -/
def bit (n : Nat) (b : Bool) : Nat := if b then 2 ^ n else 0

/-- The remaining time of a timer in ms, 0 when stopped (R177). -/
def timerMs : Option Nat → Nat
  | some ms => ms
  | none => 0

/-- A remaining time in ms, rounded up to whole seconds (R177, the shelf expiry). -/
def ceilSeconds (ms : Nat) : Nat := (ms + 999) / 1000

/-- The eight streams, slots or window entries in order 0 to 7. -/
def all8 : List (Fin 8) := [0, 1, 2, 3, 4, 5, 6, 7]

/-- The four cutback sets or grate sections in order. -/
def all4 : List (Fin 4) := [0, 1, 2, 3]

/-- The 24 contacts in order. -/
def all24 : List (Fin 24) :=
  [0, 1, 2, 3, 4, 5, 6, 7, 8, 9, 10, 11, 12, 13, 14, 15, 16, 17, 18, 19, 20, 21, 22, 23]

/-- A set of streams as one byte, bit n standing for stream n (R173). -/
def streamSet (p : Fin 8 → Bool) : Nat := (all8.map fun i => bit i.val (p i)).sum

/-- A set of contacts as a number whose bit n stands for contact n; `be24` of it is the 3 bytes of R173. -/
def contactSet (p : Fin 24 → Bool) : Nat := (all24.map fun k => bit k.val (p k)).sum

/-- An index below 8, or none. -/
def index8 (v : Nat) : Option (Fin 8) := if h : v < 8 then some ⟨v, h⟩ else none

/-- An index below 4, or none. -/
def index4 (v : Nat) : Option (Fin 4) := if h : v < 4 then some ⟨v, h⟩ else none

/-- An index below 24, or none. -/
def index24 (v : Nat) : Option (Fin 24) := if h : v < 24 then some ⟨v, h⟩ else none

end Sys2Proof.Machine
end

