-- ==== Sys2Proof/Machine/Flags.lean ====
section
/-! DEFINITION. The flags of the part: attention factors and outputs (R10, R11), the status summary (R9, R175), and the
horns (R151, R152). -/

namespace Sys2Proof.Machine

/-- One bit per factor: bit 3 NEWS, bit 2 TRIP, bit 1 SHIFT, bit 0 CAL (R175). -/
def Factors.byte (f : Factors) : Nat := bit 3 f.news + bit 2 f.trip + bit 1 f.shift + bit 0 f.cal

/-- The four values that a one-byte body carries; its four high bits are not read (R173, R175). -/
def Factors.ofByte (b : Byte) : Factors := ⟨b.getLsbD 3, b.getLsbD 2, b.getLsbD 1, b.getLsbD 0⟩

/-- The factors set and enabled by a mask. -/
def Factors.enabledBy (f m : Factors) : Factors :=
  ⟨f.news && m.news, f.trip && m.trip, f.shift && m.shift, f.cal && m.cal⟩

/-- The factors that stay after a clear names some of them (R12). -/
def Factors.without (f c : Factors) : Factors :=
  ⟨f.news && !c.news, f.trip && !c.trip, f.shift && !c.shift, f.cal && !c.cal⟩

/-- At least one factor is set. -/
def Factors.any (f : Factors) : Bool := f.news || f.trip || f.shift || f.cal

/-- A link's attention output: asserted while at least one of its factors is set and enabled by its mask (R11). -/
def LinkUnit.attention (u : LinkUnit) : Bool := (u.factors.enabledBy u.mask).any

/-- An entry is unacknowledged while it is ACTIVE_UNACK or CLEARED_UNACK (R140). -/
def Entry.unacked (e : Entry) : Bool := e.state == .activeUnack || e.state == .clearedUnack

/-- Some entry of a priority is unacknowledged. -/
def AlarmUnit.unackedAt (a : AlarmUnit) (p : Priority) : Bool := a.list.any fun e => e.unacked && e.priority == p

/-- Horn A sounds exactly when some P1 entry is unacknowledged and the silence flag is clear (R151). -/
def AlarmUnit.wantsA (a : AlarmUnit) : Bool := a.unackedAt .p1 && !a.silence

/-- Horn B sounds while some P2 entry is unacknowledged, the silence flag is clear, and horn A is silent (R152). -/
def AlarmUnit.wantsB (a : AlarmUnit) : Bool := a.unackedAt .p2 && !a.silence && !a.wantsA

/-- Horn B sounds, in either half (R9). -/
def HornB.sounding : HornB → Bool
  | .silent => false
  | .onHalf => true
  | .offHalf => true

/-- The horn B output pin: on in the on half (R152). -/
def HornB.output : HornB → Bool
  | .onHalf => true
  | .silent => false
  | .offHalf => false

/-- The horns follow each change of the list and of the silence flag at once (R151, R152): a horn B that comes to sound
starts with an on half and 1 s, and one that stops is stopped whichever half it was in. -/
def AlarmUnit.settleHorns (a : AlarmUnit) : AlarmUnit :=
  { a with
    hornA := a.wantsA
    hornB := if a.wantsB then (if a.hornB.sounding then a.hornB else .onHalf) else .silent
    hornBTimer := if a.wantsB then (if a.hornB.sounding then a.hornBTimer else some 1000) else none }

/-- The unacknowledged alarm count, saturated at 15 (R9, R158). -/
def AlarmUnit.unackCount (a : AlarmUnit) : Nat := min 15 (a.list.filter Entry.unacked).length

/-- At least one stream is TRIPPED (R9). -/
def State.anyHoldoff (s : State) : Bool := s.streams.toList.any fun x => x.state == .tripped

/-- A link unit of the state. -/
def State.link (s : State) : Link → LinkUnit
  | .proc => s.procLink
  | .safe => s.safeLink
  | .desk => s.deskLink

/-- The status summary of an answer on a link, sampled from the blocks (R9). -/
def State.summary (s : State) (l : Link) : Summary where
  factors := (s.link l).factors
  resetSeen := (s.link l).resetSeen
  unack := s.au.unackCount
  hornA := s.au.hornA
  hornB := s.au.hornB.sounding
  firstOut := s.au.firstOut.captured.isSome
  overflow := s.au.overflow
  mainCap := s.mainSite.capActive
  calcCap := s.calcSite.capActive
  safeHealthy := s.safeHealthy
  holdoff := s.anyHoldoff

/-- The three bytes of the status summary (R175). -/
def Summary.bytes (m : Summary) : List Byte :=
  be8 (bit 7 m.factors.news + bit 6 m.factors.trip + bit 5 m.factors.shift + bit 4 m.factors.cal + bit 3 m.resetSeen) ++
  be8 (m.unack * 16 + bit 3 m.hornA + bit 2 m.hornB + bit 1 m.firstOut + bit 0 m.overflow) ++
  be8 (bit 7 m.mainCap + bit 6 m.calcCap + bit 5 m.safeHealthy + bit 4 m.holdoff)

/-- The bytes of an answer before its CRC (R174): length, echoed command code, result code, status summary, body. -/
def Answer.head (a : Answer) : List Byte :=
  be8 (6 + a.body.length) ++ [a.echo] ++ be8 (resultByte a.result) ++ a.summary.bytes ++ a.body

/-- The bytes of an answer frame (R174). -/
def Answer.bytes (a : Answer) : List Byte := a.head ++ [crc8 a.head]

end Sys2Proof.Machine
end

