-- ==== Sys2Proof/Machine/Ops.lean ====
section
/-! DEFINITION. The named operations that the meanings share: access to the records, the shift books, the alarm list
(R141 to R145), cut offers (R64), taking and answering a request (R1, R4 to R7), SAFE link activity (R55, R58), and trips
(R48, R49). -/

namespace Sys2Proof.Machine

/-! ### Access to the records -/

/-- A stream. -/
def State.stream (s : State) (i : Fin 8) : Stream := s.streams[i]

/-- Changes one stream. -/
def State.modStream (i : Fin 8) (f : Stream → Stream) (s : State) : State :=
  { s with streams := s.streams.set i (f s.streams[i]) }

/-- The stream moved to another firing state with nothing else changed. -/
def State.moveTo (i : Fin 8) (f : FiringState) (s : State) : State := s.modStream i fun x => { x with state := f }

/-- Changes every stream by its number. -/
def mapStreams (f : Fin 8 → Stream → Stream) (v : Vector Stream 8) : Vector Stream 8 :=
  #v[f 0 v[0], f 1 v[1], f 2 v[2], f 3 v[3], f 4 v[4], f 5 v[5], f 6 v[6], f 7 v[7]]

/-- A site record. -/
def State.siteRec (s : State) : Site → SiteRec
  | .main => s.mainSite
  | .calc => s.calcSite

/-- Changes one site record. -/
def State.modSite (x : Site) (f : SiteRec → SiteRec) (s : State) : State :=
  { s with
    mainSite := if x = .main then f s.mainSite else s.mainSite
    calcSite := if x = .calc then f s.calcSite else s.calcSite }

/-- A measurement slot. -/
def State.slot (s : State) (k : Fin 8) : Slot := s.slots[k]

/-- Changes one measurement slot. -/
def State.modSlot (k : Fin 8) (f : Slot → Slot) (s : State) : State :=
  { s with slots := s.slots.set k (f s.slots[k]) }

/-- A cutback set. -/
def State.cutSet (s : State) (k : Fin 4) : CutSet := s.sets[k]

/-- Changes one cutback set. -/
def State.modSet (k : Fin 4) (f : CutSet → CutSet) (s : State) : State :=
  { s with sets := s.sets.set k (f s.sets[k]) }

/-- A contact. -/
def State.contact (s : State) (k : Fin 24) : Contact := s.contacts[k]

/-- Changes one contact. -/
def State.modContact (k : Fin 24) (f : Contact → Contact) (s : State) : State :=
  { s with contacts := s.contacts.set k (f s.contacts[k]) }

/-- Changes the cooler. -/
def State.modCooler (f : Cooler → Cooler) (s : State) : State := { s with cooler := f s.cooler }

/-- Changes one link unit. -/
def State.modLink (l : Link) (f : LinkUnit → LinkUnit) (s : State) : State :=
  { s with
    procLink := if l = .proc then f s.procLink else s.procLink
    safeLink := if l = .safe then f s.safeLink else s.safeLink
    deskLink := if l = .desk then f s.deskLink else s.deskLink }

/-- The shift clock (R161). -/
def State.now (s : State) : ClockTime := s.su.clock

/-! ### Attention factors (R10) -/

/-- Sets the named factors of a link unit; a factor already set stays set (R10). -/
def LinkUnit.setFactors (f : Factors) (u : LinkUnit) : LinkUnit :=
  { u with
    factors :=
      ⟨u.factors.news || f.news, u.factors.trip || f.trip, u.factors.shift || f.shift, u.factors.cal || f.cal⟩ }

/-- A setting event sets its factor on all three links, whatever their masks (R10). -/
def State.setFactors (f : Factors) (s : State) : State :=
  { s with
    procLink := s.procLink.setFactors f
    safeLink := s.safeLink.setFactors f
    deskLink := s.deskLink.setFactors f }

/-- The factor NEWS, named where a condition holds. -/
def newsIf (b : Bool) : Factors := ⟨b, false, false, false⟩

/-- The factor TRIP. -/
def tripFactor : Factors := ⟨false, true, false, false⟩

/-- The factor SHIFT. -/
def shiftFactor : Factors := ⟨false, false, true, false⟩

/-- The factor CAL, named where a condition holds. -/
def calIf (b : Bool) : Factors := ⟨false, false, false, b⟩

/-! ### Additions to the shift books (R166) -/

/-- Changes the open shift record. -/
def State.modShift (f : OpenShift → OpenShift) (s : State) : State := { s with su := { s.su with shift := f s.su.shift } }

/-- Counts one alarm raised at a priority (R159), saturating at 65,535. -/
def OpenShift.countAlarm (p : Priority) (o : OpenShift) : OpenShift :=
  { o with
    alarmsP1 := if p = .p1 then satAdd 65535 o.alarmsP1 1 else o.alarmsP1
    alarmsP2 := if p = .p2 then satAdd 65535 o.alarmsP2 1 else o.alarmsP2
    alarmsP3 := if p = .p3 then satAdd 65535 o.alarmsP3 1 else o.alarmsP3 }

/-- Counts one trip (R48), saturating at 65,535. -/
def OpenShift.countTrip (o : OpenShift) : OpenShift := { o with trips := satAdd 65535 o.trips 1 }

/-! ### The alarm list (R140 to R145) -/

/-- The entry holding a code, if the list has one. -/
def AlarmUnit.find (a : AlarmUnit) (c : AlarmCode) : Option Entry := a.list.find? fun e => e.code == c

/-- The list without the entry holding a code. -/
def AlarmUnit.removed (a : AlarmUnit) (c : AlarmCode) : List Entry := a.list.filter fun e => e.code != c

/-- The list with the entry holding a code changed in its place. -/
def AlarmUnit.replaced (a : AlarmUnit) (c : AlarmCode) (f : Entry → Entry) : List Entry :=
  a.list.map fun e => if e.code = c then f e else e

/-- The entry of a priority that eviction prefers: one in ACTIVE_ACK, CLEARED_UNACK or SHELVED before one in
ACTIVE_UNACK, and within those the entry nearest the head (R144). -/
def victimAt (p : Priority) (l : List Entry) : Option Entry :=
  (l.find? fun e => e.priority == p && e.state != .activeUnack).or (l.find? fun e => e.priority == p)

/-- The entry that a raise meeting a full list evicts: of the lowest priority present among those equal to or lower than
the raise's (R144). -/
def victim (p : Priority) (l : List Entry) : Option Entry :=
  match p with
  | .p1 => ((victimAt .p3 l).or (victimAt .p2 l)).or (victimAt .p1 l)
  | .p2 => (victimAt .p3 l).or (victimAt .p2 l)
  | .p3 => victimAt .p3 l

/-- The new entry that a raise appends (R141). -/
def Raise.entry (r : Raise) (now : ClockTime) : Entry where
  code := r.code
  priority := r.priority
  state := .activeUnack
  active := true
  raised := now
  count := 1
  detail := r.detail
  shelf := none

/-- A raise leaves a SHELVED entry on its shelf, unless it is at P1 (R141). -/
def Raise.keepsShelf (r : Raise) (e : Entry) : Bool := e.state == .shelved && r.priority != .p1

/-- What a raise makes of the entry that holds its code (R141). -/
def Raise.again (r : Raise) (now : ClockTime) (e : Entry) : Entry :=
  { e with
    priority := r.priority
    state := if r.keepsShelf e then .shelved else .activeUnack
    active := true
    raised := now
    count := satAdd 255 e.count 1
    detail := r.detail
    shelf := if r.keepsShelf e then e.shelf else none }

/-- What a raise does to the list: appended, placed again at the tail, appended after an eviction, or dropped (R141,
R144). -/
inductive RaiseFate where
  | appended
  | again (e : Entry)
  | evicting (v : Entry)
  | dropped
deriving DecidableEq, Repr

/-- The fate of a raise by the entry holding its code and the length of the list (R141, R144). -/
def AlarmUnit.fate (a : AlarmUnit) (r : Raise) : RaiseFate :=
  match a.find r.code with
  | some e => .again e
  | none =>
    if a.list.length < 64 then .appended
    else match victim r.priority a.list with
      | some v => .evicting v
      | none => .dropped

/-- The list after a raise (R141, R144). -/
def AlarmUnit.listAfter (a : AlarmUnit) (r : Raise) (now : ClockTime) : List Entry :=
  match a.fate r with
  | .appended => a.list ++ [r.entry now]
  | .again e => a.removed r.code ++ [r.again now e]
  | .evicting v => a.removed v.code ++ [r.entry now]
  | .dropped => a.list

/-- The raise met a full list (R144). -/
def RaiseFate.overflows : RaiseFate → Bool
  | .evicting _ => true
  | .dropped => true
  | .appended => false
  | .again _ => false

/-- The raise changed the list, and so sets NEWS (R143). -/
def RaiseFate.entered : RaiseFate → Bool
  | .dropped => false
  | .appended => true
  | .again _ => true
  | .evicting _ => true

/-- The raise leaves an entry in ACTIVE_UNACK, and so clears the silence flag (R153). -/
def RaiseFate.unsilences (r : Raise) : RaiseFate → Bool
  | .dropped => false
  | .appended => true
  | .evicting _ => true
  | .again e => !r.keepsShelf e

/-- A raise at the AU: the list, the overflow flag, the silence flag and the horns (R141, R144, R145, R151 to R153). -/
def AlarmUnit.raise (a : AlarmUnit) (r : Raise) (now : ClockTime) : AlarmUnit :=
  { a with
    list := a.listAfter r now
    overflow := a.overflow || (a.fate r).overflows
    silence := a.silence && !(a.fate r).unsilences r }.settleHorns

/-- The AU with its list after a removal: the overflow flag clears where 48 entries or fewer are left (R145). -/
def AlarmUnit.afterRemoval (a : AlarmUnit) (l : List Entry) : AlarmUnit :=
  { a with list := l, overflow := a.overflow && 48 < l.length }.settleHorns

/-- The AU with its list changed without a removal. -/
def AlarmUnit.withList (a : AlarmUnit) (l : List Entry) : AlarmUnit := { a with list := l }.settleHorns

/-- A clear at the AU, by the state of the entry holding the code (R142). -/
def AlarmUnit.clear (a : AlarmUnit) (c : AlarmCode) : AlarmUnit :=
  match a.find c with
  | none => a
  | some e =>
    match e.state with
    | .activeUnack => a.withList (a.replaced c fun e => { e with state := .clearedUnack, active := false })
    | .activeAck => a.afterRemoval (a.removed c)
    | .shelved => if e.active then a.withList (a.replaced c fun e => { e with active := false }) else a
    | .clearedUnack => a

/-- A clear changes the list unless it finds the code absent, CLEARED_UNACK, or SHELVED with its condition clear (R142). -/
def AlarmUnit.clearChanges (a : AlarmUnit) (c : AlarmCode) : Bool :=
  match a.find c with
  | none => false
  | some e => e.state == .activeUnack || e.state == .activeAck || (e.state == .shelved && e.active)

/-- A raise qualifies in mode ANY always, and in mode TRIP when its kind is STREAM_TRIP (R154). -/
def FirstOutMode.takes (m : FirstOutMode) (c : AlarmCode) : Bool :=
  match m, c with
  | .any, _ => true
  | .trip, .streamTrip _ => true
  | .trip, _ => false

/-- A raise offered to the first-out record: captured in EMPTY when it qualifies (R154). -/
def FirstOut.offer (f : FirstOut) (r : Raise) (now : ClockTime) (states : List FiringState) : FirstOut :=
  { f with
    captured := if f.captured.isNone && f.mode.takes r.code then some ⟨r.code, r.priority, r.detail, now, states⟩
      else f.captured }

/-- The firing states of the eight streams. -/
def State.firingStates (s : State) : List FiringState := s.streams.toList.map fun x => x.state

/-- A raise reaching the AU, without its offer to the first-out record: the list, NEWS on all links where the list
changed (R143), and one alarm counted in the open shift (R159). -/
def bookRaise (r : Raise) (s : State) : State :=
  { s with
    au := s.au.raise r s.now
    procLink := s.procLink.setFactors (newsIf (s.au.fate r).entered)
    safeLink := s.safeLink.setFactors (newsIf (s.au.fate r).entered)
    deskLink := s.deskLink.setFactors (newsIf (s.au.fate r).entered)
    su := { s.su with shift := s.su.shift.countAlarm r.priority } }

/-- The offer of a raise to the first-out record, with the firing states standing when it is offered (R154). -/
def offerFirstOut (r : Raise) (s : State) : State :=
  { s with au := { s.au with firstOut := s.au.firstOut.offer r s.now s.firingStates } }

/-- A raise reaching the AU, whole (R141, R143, R154, R159). -/
def raiseAlarm (r : Raise) (s : State) : State := offerFirstOut r (bookRaise r s)

/-- A clear reaching the AU (R142), with NEWS on all links where the list changed (R143). -/
def clearAlarm (c : AlarmCode) (s : State) : State :=
  { s with
    au := s.au.clear c
    procLink := s.procLink.setFactors (newsIf (s.au.clearChanges c))
    safeLink := s.safeLink.setFactors (newsIf (s.au.clearChanges c))
    deskLink := s.deskLink.setFactors (newsIf (s.au.clearChanges c)) }

/-! ### Cut offers (R64) -/

/-- One of the five offer places of a site. -/
inductive Place where
  | set (k : Fin 4)
  | holdback
deriving DecidableEq, Repr

/-- The greatest percentage among the present offer places, 0 when all five are absent (R64). -/
def SiteRec.largestOffer (x : SiteRec) : Nat :=
  max (x.setOffers[0].getD 0) (max (x.setOffers[1].getD 0) (max (x.setOffers[2].getD 0)
    (max (x.setOffers[3].getD 0) (x.holdbackOffer.getD 0))))

/-- The largest cut, the effective demand and the cap-active flag, recomputed (R64). -/
def SiteRec.recompute (x : SiteRec) : SiteRec :=
  { x with
    largest := x.largestOffer
    effective := x.demand * (100 - x.largestOffer) / 100
    capActive := 0 < x.largestOffer }

/-- An offer place set to a percentage, or made absent (R64). -/
def SiteRec.putOffer (p : Place) (v : Option Nat) (x : SiteRec) : SiteRec :=
  match p with
  | .set k => { x with setOffers := x.setOffers.set k v }
  | .holdback => { x with holdbackOffer := v }

/-- An offer, its change or its withdrawal reaching a site, with the recomputation that follows at once (R64). -/
def SiteRec.takeOffer (p : Place) (v : Option Nat) (x : SiteRec) : SiteRec := (x.putOffer p v).recompute

/-- The sites a cutback set names include a site. -/
def CutSites.has (c : CutSites) (x : Site) : Bool :=
  match c, x with
  | .both, _ => true
  | .main, .main => true
  | .calc, .calc => true
  | .main, .calc => false
  | .calc, .main => false

/-- An offer or a withdrawal reaching each of the named sites (R64, R107, R108, R125). -/
def offerCut (c : CutSites) (p : Place) (v : Option Nat) (s : State) : State :=
  { s with
    mainSite := if c.has .main then s.mainSite.takeOffer p v else s.mainSite
    calcSite := if c.has .calc then s.calcSite.takeOffer p v else s.calcSite }

/-! ### Rates (R70) -/

/-- The rate output value of an output setpoint on a scale (R70). -/
def rateOf (output scale : Nat) : Nat := roundHalfUp (output * 10000) scale

/-- The stream with its output setpoint written and its rate output value recomputed (R59, R70). -/
def Stream.withOutput (v : Nat) (x : Stream) : Stream := { x with output := v, rate := rateOf v x.limits.scale }

/-! ### Trips (R48, R49) -/

/-- Step 1 and step 2 of a trip on the stream itself: the setpoints and the rate output go to 0, the lighting timer
stops, and an OPEN calibration record is latched ABORTED (R48, R91). A no-flow report still on its way finds the stream
TRIPPED or OFF, and so has no effect any more (R86, log entry 4). -/
def Stream.cutOff (x : Stream) : Stream :=
  { x with
    output := 0
    planned := 0
    rate := 0
    lighting := none
    noFlowDue := false
    cal := if x.calOpen then x.cal.map fun c => { c with state := .aborted } else x.cal }

/-- Whether a cause leads to TRIPPED under a holdoff mode (R49). -/
def Holdoff.holds (h : Holdoff) (c : TripCause) : Bool :=
  match h with
  | .none => false
  | .flame => c == .flameLost || c == .lightFail
  | .all => true

/-- Where the holdoff mode sends a tripped stream: to TRIPPED with the cause held, or to OFF with its STREAM_TRIP
condition cleared at once (R49). -/
def applyHoldoff (i : Fin 8) (c : TripCause) (s : State) : State :=
  if (s.stream i).limits.holdoff.holds c then
    s.modStream i fun x => { x with state := .tripped, cause := some c }
  else clearAlarm (.streamTrip i) (s.modStream i fun x => { x with state := .off, cause := none })

/-- The raise of a trip: STREAM_TRIP at P1 with the trip cause as detail (R48). -/
def tripRaise (i : Fin 8) (c : TripCause) : Raise := ⟨.streamTrip i, .p1, some (.cause c)⟩

/-- A trip of a BURNING stream, taken whole: the seven steps of R48 in their order. -/
def trip (i : Fin 8) (c : TripCause) (s : State) : State :=
  applyHoldoff i c
    (offerFirstOut (tripRaise i c)
      (State.modShift OpenShift.countTrip
        (State.setFactors tripFactor
          (bookRaise (tripRaise i c)
            (State.setFactors (calIf (s.stream i).calOpen)
              (s.modStream i Stream.cutOff))))))

/-- The stream with its permit withdrawn: READY becomes OFF with no trip (R38, R52, R53, R57). -/
def sendOff (i : Fin 8) (s : State) : State := s.moveTo i .off

/-- A cause that trips a BURNING stream, sends a READY one to OFF and leaves an OFF or TRIPPED one as it is (R38, R52,
R53, R57). -/
def withdraw (c : TripCause) (i : Fin 8) (s : State) : State :=
  if (s.stream i).state.burning then trip i c s
  else if (s.stream i).state = .ready then sendOff i s
  else s

/-- `withdraw` taken over all eight streams in stream order, each trip whole before the next stream is reached (R52,
R57). -/
def withdrawAll (c : TripCause) (s : State) : State := all8.foldl (fun s i => withdraw c i s) s

/-! ### SAFE link activity (R55, R58) -/

/-- SAFE link activity: the timer restarts at its full length, and the first activity after an expiry sets the healthy
flag and clears the SAFE_LINK condition (R55, R58). -/
def linkActivity (s : State) : State :=
  if s.safeHealthy then { s with safeTimer := some (s.safeTimeout * 1000) }
  else clearAlarm .safeLink { s with safeTimer := some (s.safeTimeout * 1000), safeHealthy := true }

/-! ### Taking and answering a request (R1, R4 to R7) -/

/-- What a block makes of a command that reached it: refused with a code and no effect, or taken, with the state after
its effects, its result and the answer body. -/
inductive Reply where
  | refuse (c : ResultCode)
  | take (s : State) (c : ResultCode) (body : List Byte)

/-- A taken command answered OK. -/
def Reply.done (s : State) (body : List Byte) : Reply := .take s .ok body

/-- The outcome of a step of this machine. -/
abbrev Result := Host.Outcome State Fault Refusal

/-- The bytes that a transfer of n whole bytes shifts out on a link: the pending answer, then fill (R5). -/
def shiftOut (l : Link) (n : Nat) (s : State) : State :=
  s.modLink l fun u => { u with lastOut := shiftedOut u.answer.bytes n }

/-- The answer formed after the effects of the request, its summary sampled then, becomes the pending answer (R1, R4). -/
def giveAnswer (l : Link) (code : Byte) (c : ResultCode) (body : List Byte) (s : State) : State :=
  s.modLink l fun u => { u with answer := ⟨code, c, s.summary l, body⟩ }

/-- What every good frame does before its command's own effect: the pending answer is shifted out (R5), and on the SAFE
link the frame is reported as link activity (R6, R55). -/
def openRequest (r : Request) (s : State) : State :=
  if r.link = .safe then linkActivity (shiftOut r.link (wireLength r) s) else shiftOut r.link (wireLength r) s

/-- The answer to a block's reply; a refused request has no effect on any block and an empty body (R4). -/
def settleReply (l : Link) (code : Byte) (s : State) : Reply → State
  | .refuse c => giveAnswer l code c [] s
  | .take s' c body => giveAnswer l code c body s'

/-- Checks 2 and 3 of R7, ownership before body length, and then the command's own checks. -/
def checkRequest (row : CommandRow) (r : Request) (act : State → Reply) (s : State) : Reply :=
  if r.link ∉ row.owners then .refuse .notOwner
  else if r.body.length ∉ row.lengths then .refuse .range
  else act s

/-- The chip-select release that ends a transfer abandoned by a reset: its request bytes are discarded, the RESET answer
stays pending, and what was shifted out since the reset is fill (R15). -/
def endAbandoned (l : Link) (n : Nat) (s : State) : State :=
  s.modLink l fun u =>
    { u with lastOut := u.abandoned.getD [] ++ List.replicate n 0x00#8, abandoned := none }

/-- Taking a request that passed the frame checks of R2 (R1, R4, R6, R7). A release on a link whose transfer a reset
abandoned discards the request instead (R15, log entry 12). -/
def takeRequest (row : CommandRow) (r : Request) (act : State → Reply) (s : State) : Result :=
  if 60 < r.body.length then .refused .notThisRow
  else if (s.link r.link).abandoned.isSome then .next (endAbandoned r.link (wireLength r) s)
  else .next (settleReply r.link row.code (openRequest r s) (checkRequest row r act (openRequest r s)))

/-- A command that names a stream in the first byte of its body: a number above 7 is refused BAD_INDEX (R36). -/
def onStream (body : List Byte) (act : Fin 8 → State → Reply) (s : State) : Reply :=
  match index8 (u8 body 0) with
  | some i => act i s
  | none => .refuse .badIndex

/-- A command that names a contact in the first byte of its body: a number above 23 is refused BAD_INDEX. -/
def onContact (body : List Byte) (act : Fin 24 → State → Reply) (s : State) : Reply :=
  match index24 (u8 body 0) with
  | some k => act k s
  | none => .refuse .badIndex

/-! ### Resets (R15, R16) -/

/-- The bytes already shifted out in a transfer that a reset abandons, `n` whole bytes into it (R5, R15). -/
def LinkUnit.outSoFar (u : LinkUnit) (n : Nat) : List Byte :=
  match u.abandoned with
  | some out => out ++ List.replicate (n - out.length) 0x00#8
  | none => shiftedOut u.answer.bytes n

/-- A link unit after a reset: its reset values, and the transfer in progress, if any, abandoned (R15). What the data-out
line carried in the last finished transfer is past and stays (log entry 11). -/
def LinkUnit.afterReset (cause : ResetCause) (busy : Option Nat) (u : LinkUnit) : LinkUnit :=
  { LinkUnit.reset cause with lastOut := u.lastOut, abandoned := busy.map u.outSoFar }

/-- The effect of a reset on every block and every link (R15, R16). The commands that wait, the levels at the pins and
the draw counter are not the part's and stay (log entries 1, 2 and 7). -/
def resetAll (cause : ResetCause) (proc safe desk : Option Nat) (s : State) : State :=
  { State.reset with
    pending := s.pending
    raceSeed := s.raceSeed
    contactInputs := s.contactInputs
    resetCause := cause
    procLink := s.procLink.afterReset cause proc
    safeLink := s.safeLink.afterReset cause safe
    deskLink := s.deskLink.afterReset cause desk }

end Sys2Proof.Machine
end

