-- ==== Sys2Proof/Machine/Clock.lean ====
section
/-! DEFINITION. The device clock, which is what a step is when no command waits (log entry 1): an event that has fallen
due joins the queue, and with none due one millisecond passes. -/

namespace Sys2Proof.Machine

/-! ### One millisecond -/

/-- A timer that may be stopped, one millisecond on. -/
def tickTimer (t : Option Nat) : Option Nat := t.map fun ms => ms - 1

/-- A delay timer one millisecond on; a frozen one keeps its remaining time (06, 6.2). -/
def DelayTimer.tick : DelayTimer → DelayTimer
  | .stopped => .stopped
  | .running ms => .running (ms - 1)
  | .frozen ms => .frozen ms

/-- An OPEN calibration record one millisecond on, no further than 3,600,000 ms (R88, R90). -/
def CalRecord.tick (c : CalRecord) : CalRecord :=
  if c.state = .opened then { c with elapsed := satAdd 3600000 c.elapsed 1 } else c

/-- A stream one millisecond on: its lighting timer and an OPEN calibration record. -/
def Stream.tick (x : Stream) : Stream := { x with lighting := tickTimer x.lighting, cal := x.cal.map CalRecord.tick }

/-- A slot one millisecond on: its stale timer. -/
def Slot.tick (x : Slot) : Slot := { x with timer := tickTimer x.timer }

/-- A cutback set one millisecond on: its delay timer. -/
def CutSet.tick (x : CutSet) : CutSet := { x with timer := x.timer.tick }

/-- A grate section one millisecond on: its stall timer. -/
def Section.tick (x : Section) : Section := { x with stall := tickTimer x.stall }

/-- The cooler one millisecond on: its period timer and the stall timers. -/
def Cooler.tick (c : Cooler) : Cooler :=
  { c with
    timer := c.timer - 1
    sections := #v[c.sections[0].tick, c.sections[1].tick, c.sections[2].tick, c.sections[3].tick] }

/-- An alarm entry one millisecond on: its shelf timer. -/
def Entry.tick (e : Entry) : Entry := { e with shelf := tickTimer e.shelf }

/-- The Alarm Unit one millisecond on: the horn B interval timer and the shelf timers. -/
def AlarmUnit.tick (a : AlarmUnit) : AlarmUnit :=
  { a with list := a.list.map Entry.tick, hornBTimer := tickTimer a.hornBTimer }

/-- One millisecond of the device clock: every running timer counts, and nothing else happens. -/
def State.tick (s : State) : State :=
  { s with
    streams := mapStreams (fun _ x => x.tick) s.streams
    safeTimer := tickTimer s.safeTimer
    dosingTimer := s.dosingTimer - 1
    slots := #v[s.slots[0].tick, s.slots[1].tick, s.slots[2].tick, s.slots[3].tick,
      s.slots[4].tick, s.slots[5].tick, s.slots[6].tick, s.slots[7].tick]
    sets := #v[s.sets[0].tick, s.sets[1].tick, s.sets[2].tick, s.sets[3].tick]
    cooler := s.cooler.tick
    scanTimer := s.scanTimer - 1
    au := s.au.tick
    su := { s.su with secondTimer := s.su.secondTimer - 1 } }

/-! ### What has fallen due -/

/-- An event, listed where a condition holds. -/
def dueIf (b : Bool) (c : Instr) : List Instr := if b then [c] else []

/-- A stream's events that have fallen due: its no-flow report (R54), its lighting timer (R40), its calibration window
(R90). -/
def streamDue (s : State) (i : Fin 8) : List Instr :=
  dueIf (s.stream i).noFlowDue (.noFlowReport i) ++
  dueIf ((s.stream i).lighting == some 0) (.lightingTimerExpiry i) ++
  dueIf (match (s.stream i).cal with
    | some c => c.state == .opened && decide (3600000 ≤ c.elapsed)
    | none => false) (.calWindowTimeout i)

/-- The shelf timers that have run out (R149). -/
def shelvesDue (l : List Entry) : List Instr :=
  l.flatMap fun e => dueIf (e.state == .shelved && e.shelf == some 0) (.shelfExpiry e.code)

/-- Every event that has fallen due and is not yet taken (log entries 1 to 4). -/
def State.due (s : State) : List Instr :=
  dueIf (s.dosingTimer == 0) .dosingPeriodExpiry ++ all8.flatMap (streamDue s) ++
  dueIf (s.safeTimer == some 0) .safeLinkTimerExpiry ++
  (all8.flatMap fun n => dueIf ((s.slot n).timer == some 0) (.staleTimerExpiry n)) ++
  (all4.flatMap fun k => dueIf ((s.cutSet k).timer == .running 0) (.delayTimerExpiry k)) ++
  dueIf (s.cooler.timer == 0) .coolerPeriod ++
  (all4.flatMap fun n => dueIf (s.cooler.sections[n].stall == some 0) (.stallTimerExpiry n)) ++
  dueIf (s.scanTimer == 0) (.contactScan s.contactInputs) ++ shelvesDue s.au.list ++
  dueIf (s.au.hornBTimer == some 0) .hornBIntervalExpiry ++ dueIf (s.su.secondTimer == 0) .clockAdvance

/-- The event taken first among several that have fallen due, which the manual leaves open (log entry 2). -/
def chooseDue (seed : Nat) (c : Instr) : List Instr → Instr
  | [] => c
  | rest => (c :: rest).getD (Config.raceChoice seed rest.length % (rest.length + 1)) c

/-- A step with no command waiting (log entry 1): one event that has fallen due joins the queue, or one millisecond
passes. -/
def idle (s : State) : State :=
  match s.due with
  | [] => s.tick
  | c :: rest => { s with pending := [chooseDue s.raceSeed c rest], raceSeed := s.raceSeed + 1 }

end Sys2Proof.Machine
end

