-- ==== Sys2Proof/Machine/Alarms.lean ====
section
/-! DEFINITION. The commands and events of the Alarm Unit (09_alarm_handling.md): acknowledgement, shelving, horns, the
first-out record and the reading of the list. -/

namespace Sys2Proof.Machine

/-- The Alarm Unit replaced, with NEWS on all links where its list changed (R143). -/
def State.withAlarms (a : AlarmUnit) (changed : Bool) (s : State) : State :=
  State.setFactors (newsIf changed) { s with au := a }

/-- A command that names an alarm code in the first two bytes of its body: a kind that names none, or an index outside
its kind's range, is refused BAD_INDEX (R146, R148, R149). -/
def onCode (body : List Byte) (act : AlarmCode → State → Reply) (s : State) : Reply :=
  match alarmCodeOf (u8 body 0) (u8 body 1) with
  | some c => act c s
  | none => .refuse .badIndex

/-- A command that acts on the entry holding a code: with none in the list it is refused NO_ENTRY (R146, R148, R149). -/
def onEntry (c : AlarmCode) (s : State) (act : Entry → Reply) : Reply :=
  match s.au.find c with
  | some e => act e
  | none => .refuse .noEntry

/-! ### Acknowledgement (R146, R147) -/

/-- ACK for a code (R146). -/
def ack (c : AlarmCode) (s : State) : Reply :=
  onEntry c s fun e =>
    match e.state with
    | .activeUnack =>
      .done (s.withAlarms (s.au.withList (s.au.replaced c fun e => { e with state := .activeAck })) true)
        (codeBytes c ++ be8 (entryOptByte (some { e with state := .activeAck })))
    | .clearedUnack =>
      .done (s.withAlarms (s.au.afterRemoval (s.au.removed c)) true) (codeBytes c ++ be8 (entryOptByte none))
    | .activeAck | .shelved => .done s (codeBytes c ++ be8 (entryOptByte (some e)))

/-- ACK on a link. -/
def execAck (r : Request) (s : State) : Result := takeRequest Cmd.ack r (onCode r.body ack) s

/-- The number of entries in a state. -/
def AlarmUnit.countIn (a : AlarmUnit) (x : EntryState) : Nat := (a.list.filter fun e => e.state == x).length

/-- An entry under ACK_ALL: an ACTIVE_UNACK one becomes ACTIVE_ACK (R147). -/
def Entry.acked (e : Entry) : Entry := if e.state = .activeUnack then { e with state := .activeAck } else e

/-- The list under ACK_ALL: CLEARED_UNACK entries removed, ACTIVE_UNACK ones acknowledged (R147). -/
def AlarmUnit.allAcked (a : AlarmUnit) : List Entry :=
  (a.list.filter fun e => e.state != .clearedUnack).map Entry.acked

/-- ACK_ALL (R147): the overflow test is made after the removals, and NEWS is set where an entry changed. -/
def ackAll (s : State) : Reply :=
  .done
    (s.withAlarms
      (if s.au.countIn .clearedUnack = 0 then s.au.withList s.au.allAcked else s.au.afterRemoval s.au.allAcked)
      (0 < s.au.countIn .activeUnack + s.au.countIn .clearedUnack))
    (be8 (s.au.countIn .activeUnack) ++ be8 (s.au.countIn .clearedUnack))

/-- ACK_ALL on a link. -/
def execAckAll (r : Request) (s : State) : Result := takeRequest Cmd.ackAll r ackAll s

/-! ### Shelving (R148 to R150) -/

/-- An entry put on the shelf for a time in ms (R148). -/
def Entry.shelvedFor (ms : Nat) (e : Entry) : Entry := { e with state := .shelved, shelf := some ms }

/-- SHELVE for a code and a shelf time in minutes (R148, checks 2 to 4; NEWS by R143). -/
def shelve (minutes : Nat) (c : AlarmCode) (s : State) : Reply :=
  if minutes < 1 ∨ 480 < minutes then .refuse .range
  else onEntry c s fun e =>
    if e.priority = .p1 then .refuse .wrongState
    else
      .done (s.withAlarms (s.au.withList (s.au.replaced c (Entry.shelvedFor (minutes * 60000)))) (e.state != .shelved))
        (codeBytes c ++ be16 (minutes * 60))

/-- SHELVE on a link. -/
def execShelve (r : Request) (s : State) : Result :=
  takeRequest Cmd.shelve r (onCode r.body (shelve (u16 r.body 2))) s

/-- An entry off the shelf (R149). -/
def Entry.returned (e : Entry) : Entry := { e with state := .activeUnack, shelf := none }

/-- The Alarm Unit after the end of an entry's shelf (R149): the entry back at the tail with the silence flag cleared
where its condition is active, removed where it is clear. -/
def AlarmUnit.endShelf (a : AlarmUnit) (e : Entry) : AlarmUnit :=
  if e.active then { a with list := a.removed e.code ++ [e.returned], silence := false }.settleHorns
  else a.afterRemoval (a.removed e.code)

/-- The end of an entry's shelf, with NEWS on all links (R143, R149). -/
def endShelf (e : Entry) (s : State) : State := s.withAlarms (s.au.endShelf e) true

/-- UNSHELVE for a code (R149). -/
def unshelve (c : AlarmCode) (s : State) : Reply :=
  onEntry c s fun e =>
    if e.state = .shelved then
      .done (endShelf e s) (codeBytes c ++ be8 (entryOptByte (if e.active then some e.returned else none)))
    else .refuse .wrongState

/-- UNSHELVE on a link. -/
def execUnshelve (r : Request) (s : State) : Result := takeRequest Cmd.unshelve r (onCode r.body unshelve) s

/-- SHELF_EXPIRY (R149): the shelf of a SHELVED entry ends. Without a SHELVED entry of the code no shelf timer runs and
there is no expiry (log entry 3). -/
def execShelfExpiry (c : AlarmCode) (s : State) : Result :=
  match s.au.find c with
  | some e => if e.state = .shelved then .next (endShelf e s) else .next s
  | none => .next s

/-! ### Horns and silence (R151 to R153) -/

/-- SILENCE (R153): the silence flag set, and both horns follow it. -/
def silence (s : State) : Reply := .done { s with au := { s.au with silence := true }.settleHorns } []

/-- SILENCE on a link. -/
def execSilence (r : Request) (s : State) : Result := takeRequest Cmd.silence r silence s

/-- The other half of a sounding horn B (R152). -/
def HornB.otherHalf : HornB → HornB
  | .silent => .silent
  | .onHalf => .offHalf
  | .offHalf => .onHalf

/-- HORN_B_INTERVAL_EXPIRY (R152): the timer restarts with 1 s and the output turns to the other half. With the timer
stopped there is no expiry (log entry 3). -/
def execHornBIntervalExpiry (s : State) : Result :=
  if s.au.hornBTimer.isSome then
    .next { s with au := { s.au with hornB := s.au.hornB.otherHalf, hornBTimer := some 1000 } }
  else .next s

/-! ### The first-out record (R155, R156) -/

/-- FIRSTOUT_CLEAR (R155). -/
def firstoutClear (s : State) : Reply :=
  .done { s with au := { s.au with firstOut := { s.au.firstOut with captured := none } } } []

/-- FIRSTOUT_CLEAR on a link. -/
def execFirstoutClear (r : Request) (s : State) : Result := takeRequest Cmd.firstoutClear r firstoutClear s

/-- FIRSTOUT_MODE (R155). -/
def firstoutMode (b : List Byte) (s : State) : Reply :=
  match firstOutModeOf (u8 b 0) with
  | none => .refuse .range
  | some m =>
    if s.au.firstOut.captured.isSome then .refuse .wrongState
    else .done { s with au := { s.au with firstOut := { s.au.firstOut with mode := m } } } []

/-- FIRSTOUT_MODE on a link. -/
def execFirstoutMode (r : Request) (s : State) : Result := takeRequest Cmd.firstoutMode r (firstoutMode r.body) s

/-- The first-out record of 18 bytes (R156, R177). -/
def firstOutBytes (f : FirstOut) : List Byte :=
  match f.captured with
  | some c =>
    be8 (bit 0 true + 2 * firstOutModeByte f.mode) ++ codeBytes c.code ++ be8 c.priority.num ++ be8 (detailByte c.detail) ++
      c.time.bytes ++ c.states.flatMap fun x => be8 (firingByte x)
  | none => be8 (2 * firstOutModeByte f.mode) ++ List.replicate 17 0x00#8

/-- READ_FIRSTOUT (R156). -/
def readFirstout (s : State) : Reply := .done s (firstOutBytes s.au.firstOut)

/-- READ_FIRSTOUT on a link. -/
def execReadFirstout (r : Request) (s : State) : Result := takeRequest Cmd.readFirstout r readFirstout s

/-! ### Reading the list (R157) -/

/-- The shelf expiry field of an entry: whole seconds rounded up, 0xFFFF absent (R177). -/
def shelfSeconds : Option Nat → Nat
  | some ms => ceilSeconds ms
  | none => 0xFFFF

/-- The 12 bytes of an alarm entry (R157, R177). -/
def Entry.bytes (e : Entry) : List Byte :=
  codeBytes e.code ++ be8 (64 * e.priority.num + 16 * entryStateByte e.state + bit 0 e.active) ++ e.raised.bytes ++
  be8 e.count ++ be8 (detailByte e.detail) ++ be16 (shelfSeconds e.shelf)

/-- The entries of an answer: those at the start position and after it, in list order, up to 4 (R157). -/
def AlarmUnit.window (a : AlarmUnit) (start : Nat) : List Entry := (a.list.drop start).take 4

/-- The body of a LIST_READ answer (R157, R177). -/
def listReadBytes (start : Nat) (a : AlarmUnit) : List Byte :=
  be8 a.list.length ++ be8 (bit 0 a.overflow + bit 1 a.silence) ++ be8 (a.window start).length ++
  (a.window start).flatMap Entry.bytes

/-- LIST_READ (R157): with start position 0 the requesting link's NEWS factor clears (R12). -/
def listRead (l : Link) (b : List Byte) (s : State) : Reply :=
  if 63 < u8 b 0 then .refuse .badIndex
  else
    .done (if u8 b 0 = 0 then s.modLink l fun u => { u with factors := u.factors.without (newsIf true) } else s)
      (listReadBytes (u8 b 0) s.au)

/-- LIST_READ on a link. -/
def execListRead (r : Request) (s : State) : Result := takeRequest Cmd.listRead r (listRead r.link r.body) s

end Sys2Proof.Machine
end

