-- ==== Sys2Proof/Machine/StreamTable.lean ====
section
/-! DEFINITION. The commands of the Stream Table (02_the_stream_table.md). -/

namespace Sys2Proof.Machine

/-- A number lies in a range. -/
def within (lo hi v : Nat) : Bool := lo ≤ v && v ≤ hi

/-- The limits half that a SET_LIMITS body carries, or none where a field is outside its own range or names no value
(R18, check 2). The body is the stream number and the 12 bytes of R27. -/
def limitsOf (b : List Byte) : Option Limits :=
  match siteOf (u8 b 1), holdoffOf (u8 b 11) with
  | some site, some holdoff =>
    if within 1000 60000 (u16 b 2) && within 1 60000 (u16 b 8) && within 5 60 (u8 b 10) && within 4 60 (u8 b 12) then
      some
        { site := site, scale := u16 b 2, min := u16 b 4, max := u16 b 6, ramp := u16 b 8, lightOff := u8 b 10,
          holdoff := holdoff, noFlowCount := u8 b 12 }
    else none
  | _, _ => none

/-- Check 3 of R18: min flow at most max flow, max flow at most scale. -/
def Limits.ordered (x : Limits) : Bool := x.min ≤ x.max && x.max ≤ x.scale

/-- The pair rule of R25 for a marker whose partner is being written: a write to an armed OFF stream clears it. -/
def pairRule (state : FiringState) (written other : Bool) : Bool :=
  if state = .off && written then false else other

/-- The output setpoint under new limits (R20). -/
def clampedOutput (state : FiringState) (x : Limits) (output : Nat) : Nat :=
  match state with
  | .lighting | .firing | .held | .calib => clampNat x.min x.max output
  | .stopping => min output x.max
  | .off | .ready | .tripped => output

/-- A stream under a SET_LIMITS taken (R19, R20, R25): the limits replaced, the markers, and for a BURNING stream the
output setpoint clamped, the rate output value recomputed and the planned setpoint lowered to the new scale. -/
def Stream.takeLimits (x : Limits) (st : Stream) : Stream :=
  { st with
    limits := x
    limitsSet := true
    planSet := pairRule st.state st.limitsSet st.planSet
    output := clampedOutput st.state x st.output
    rate := if st.state.burning then rateOf (clampedOutput st.state x st.output) x.scale else st.rate
    planned := if st.state.burning then min st.planned x.scale else st.planned }

/-- The state with the computed check word recomputed over all eight limits halves (R28). -/
def State.recheck (s : State) : State := { s with computedWord := checkWord s.streams }

/-- SET_LIMITS for a stream (R18 to R20, R25, R28). -/
def setLimits (b : List Byte) (i : Fin 8) (s : State) : Reply :=
  match limitsOf b with
  | none => .refuse .range
  | some x =>
    if !x.ordered then .refuse .range
    else if x.site ≠ (s.stream i).limits.site ∧ (s.stream i).state ≠ .off then .refuse .wrongState
    else
      .done (s.modStream i (Stream.takeLimits x)).recheck
        (be16 (s.modStream i (Stream.takeLimits x)).recheck.computedWord.toNat)

/-- SET_LIMITS on a link. -/
def execSetLimits (r : Request) (s : State) : Result :=
  takeRequest Cmd.setLimits r (onStream r.body (setLimits r.body)) s

/-- The plan half that a SET_PLAN body carries, or none where a field is out of range (R22, check 2). -/
def planOf (b : List Byte) : Option Plan :=
  if within 5000 40000 (u16 b 1) && u8 b 3 ≤ 100 && within 1 8 (u8 b 4) && within 1 65535 (u16 b 5) &&
      within 5 50 (u8 b 7) && within 4 60 (u8 b 8) then
    some
      { ncv := some (u16 b 1), weight := u8 b 3, rank := u8 b 4, pulseWeight := u16 b 5, band := u8 b 7,
        devCount := u8 b 8 }
  else none

/-- A stream under a SET_PLAN taken (R23, R25). -/
def Stream.takePlan (p : Plan) (st : Stream) : Stream :=
  { st with
    plan := p
    planSet := true
    limitsSet := pairRule st.state st.planSet st.limitsSet }

/-- SET_PLAN for a stream (R22 to R25). -/
def setPlan (b : List Byte) (i : Fin 8) (s : State) : Reply :=
  match planOf b with
  | none => .refuse .range
  | some p =>
    if (s.stream i).state ≠ .off ∧ p.pulseWeight ≠ (s.stream i).plan.pulseWeight then .refuse .wrongState
    else .done (s.modStream i (Stream.takePlan p)) []

/-- SET_PLAN on a link. -/
def execSetPlan (r : Request) (s : State) : Result :=
  takeRequest Cmd.setPlan r (onStream r.body (setPlan r.body)) s

/-- SET_CHECK (R29): stores the expected word; the body carries it, the computed word and the match indication. -/
def setCheck (b : List Byte) (s : State) : Reply :=
  .done { s with expectedWord := BitVec.ofNat 16 (u16 b 0) }
    (be16 (u16 b 0) ++ be16 s.computedWord.toNat ++ be8 (flagByte (BitVec.ofNat 16 (u16 b 0) == s.computedWord)))

/-- SET_CHECK on a link. -/
def execSetCheck (r : Request) (s : State) : Result := takeRequest Cmd.setCheck r (setCheck r.body) s

/-- A stream is armed while both its markers are set (02, 2.4). -/
def Stream.armed (x : Stream) : Bool := x.limitsSet && x.planSet

/-- The stream readout of 39 bytes (R30, R177). -/
def streamReadout (i : Fin 8) (s : State) : List Byte :=
  be8 i.val ++ limitsBytes (s.stream i).limits ++
  be16 ((s.stream i).plan.ncv.getD 0) ++ be8 (s.stream i).plan.weight ++ be8 (s.stream i).plan.rank ++
  be16 (s.stream i).plan.pulseWeight ++ be8 (s.stream i).plan.band ++ be8 (s.stream i).plan.devCount ++
  be8 (bit 0 (s.stream i).limitsSet + bit 1 (s.stream i).planSet + bit 2 (s.stream i).armed) ++
  be8 (firingByte (s.stream i).state) ++ be8 (causeOptByte (s.stream i).cause) ++
  be16 (s.stream i).planned ++ be16 (s.stream i).output ++ be16 (s.stream i).rate ++ be16 (s.stream i).flow ++
  be8 (calOptByte (s.stream i).cal) ++ be8 (pollLineByte (s.stream i).poll.line) ++
  be8 (bit 0 ((s.stream i).poll.sense == .setWhenFalse) + bit 1 ((s.stream i).poll.cond == .unacked)) ++
  be16 s.computedWord.toNat ++ be16 s.expectedWord.toNat

/-- READ_STREAM for a stream (R30). -/
def readStream (i : Fin 8) (s : State) : Reply := .done s (streamReadout i s)

/-- READ_STREAM on a link. -/
def execReadStream (r : Request) (s : State) : Result := takeRequest Cmd.readStream r (onStream r.body readStream) s

/-- The poll configuration that a SET_POLL body carries, or none where an encoding names no value (R31). -/
def pollOf (b : List Byte) : Option Poll :=
  match pollLineOf (u8 b 1), pollSenseOf (u8 b 2), pollCondOf (u8 b 3) with
  | some line, some sense, some cond => some ⟨line, sense, cond⟩
  | _, _, _ => none

/-- SET_POLL for a stream (R31). -/
def setPoll (b : List Byte) (i : Fin 8) (s : State) : Reply :=
  match pollOf b with
  | none => .refuse .range
  | some p => .done (s.modStream i fun x => { x with poll := p }) []

/-- SET_POLL on a link. -/
def execSetPoll (r : Request) (s : State) : Result :=
  takeRequest Cmd.setPoll r (onStream r.body (setPoll r.body)) s

/-- The list holds an unacknowledged entry of a code. -/
def AlarmUnit.holdsUnacked (a : AlarmUnit) (c : AlarmCode) : Bool :=
  match a.find c with
  | some e => e.unacked
  | none => false

/-- A stream's poll condition (R32, item 1). -/
def pollCondition (s : State) (i : Fin 8) : Bool :=
  match (s.stream i).poll.cond with
  | .burning => (s.stream i).state.burning
  | .unacked => s.au.holdsUnacked (.streamTrip i) || s.au.holdsUnacked (.streamDeviation i)

/-- A stream's value on its poll line (R32, item 2). -/
def pollValue (s : State) (i : Fin 8) : Bool :=
  match (s.stream i).poll.sense with
  | .setWhenTrue => pollCondition s i
  | .setWhenFalse => !pollCondition s i

/-- A poll line: one when any stream that names it has value one (R32, item 3). -/
def pollLine (s : State) (line : Fin 8) : Bool :=
  all8.any fun i => (s.stream i).poll.line == some line && pollValue s i

/-- POLL (R32): one poll byte, bit n line n. -/
def poll (s : State) : Reply := .done s (be8 (streamSet (pollLine s)))

/-- POLL on a link. -/
def execPoll (r : Request) (s : State) : Result := takeRequest Cmd.poll r poll s

end Sys2Proof.Machine
end

