-- ==== Sys2Proof/Machine/CoolerUnit.lean ====
section
/-! DEFINITION. The Cooler Controller (07_clinker_cooler.md). -/

namespace Sys2Proof.Machine

/-! ### Outputs and stall timers (R119, R121) -/

/-- A section with its output written: the stall timer starts with 30 s when the output leaves 0, stops when it comes to
0, runs on otherwise, and stays stopped on a stalled section (R121). -/
def Section.drive (v : Nat) (x : Section) : Section :=
  { x with
    output := v
    stall :=
      if x.stalled then x.stall
      else if v = 0 then none
      else if x.output = 0 then some 30000
      else x.stall }

/-- Changes every section by its number. -/
def mapSections (f : Fin 4 → Section → Section) (v : Vector Section 4) : Vector Section 4 :=
  #v[f 0 v[0], f 1 v[1], f 2 v[2], f 3 v[3]]

/-- Changes one section. -/
def Cooler.modSection (n : Fin 4) (f : Section → Section) (c : Cooler) : Cooler :=
  { c with sections := c.sections.set n (f c.sections[n]) }

/-- Every output at 0 (R124). -/
def Cooler.halt (c : Cooler) : Cooler := { c with sections := mapSections (fun _ x => x.drive 0) c.sections }

/-- Every output at its manual rate (R114, R115, R124). -/
def Cooler.runManual (c : Cooler) : Cooler :=
  { c with sections := mapSections (fun _ x => x.drive x.manual) c.sections }

/-! ### Holdback (R125) -/

/-- At least one of the three causes stands (R125). -/
def Cooler.anyCause (c : Cooler) : Bool := c.pressureCause || c.stallCause || c.stopCause

/-- The raise of COOLER_HOLDBACK at P2, index 0, without detail (R125). -/
def holdbackRaise : Raise := ⟨.coolerHoldback, .p2, none⟩

/-- Holdback brought up to date with its causes (R125): on becoming active it raises COOLER_HOLDBACK and offers the
holdback cut to both sites; on becoming inactive it withdraws the offer and clears the condition. -/
def refreshHoldback (s : State) : State :=
  if s.cooler.anyCause && !s.cooler.holdback then
    offerCut .both .holdback (some s.cooler.settings.holdbackCut)
      (raiseAlarm holdbackRaise (s.modCooler fun c => { c with holdback := true }))
  else if !s.cooler.anyCause && s.cooler.holdback then
    clearAlarm .coolerHoldback
      (offerCut .both .holdback none (s.modCooler fun c => { c with holdback := false }))
  else s

/-! ### The stop cause (R124) -/

/-- A contact with role COOLER_STOP reported abnormal: it joins the stop contacts set, not twice, and where the stop
cause comes to stand every output goes to 0 at once (R124). -/
def stopReported (k : Fin 24) (s : State) : State :=
  if k ∈ s.cooler.stopContacts then s
  else if s.cooler.stopCause then
    refreshHoldback (s.modCooler fun c => { c with stopContacts := c.stopContacts ++ [k] })
  else
    refreshHoldback (s.modCooler fun c => { c with stopContacts := c.stopContacts ++ [k] }.halt)

/-- The cooler with a contact gone from the stop contacts set; where that ends the stop cause in MANUAL, every output is
set to its manual rate, and in AUTO every output stays at 0 until the next cooler period (R124). -/
def Cooler.dropStop (k : Fin 24) (c : Cooler) : Cooler :=
  if (c.stopContacts.filter fun j => j != k).isEmpty ∧ c.mode = .manual then
    { c with stopContacts := [] }.runManual
  else { c with stopContacts := c.stopContacts.filter fun j => j != k }

/-- A contact with role COOLER_STOP reported returned (R124). -/
def stopReturned (k : Fin 24) (s : State) : State :=
  if k ∈ s.cooler.stopContacts then refreshHoldback (s.modCooler (Cooler.dropStop k)) else s

/-! ### Settings and modes (R113 to R115) -/

/-- The position in a SET_COOLER body of the fields of section n: smin 2, smax 2, step 1 (R176). -/
def sectionAt (n : Fin 4) : Nat := 13 + 5 * n.val

/-- The cooler-wide settings of a SET_COOLER body (R176). -/
def settingsOf (b : List Byte) (slot : Fin 8) : CoolerSettings where
  target := u16 b 0
  base := u16 b 2
  gain := u8 b 4
  holdbackPressure := u16 b 5
  holdbackTime := u16 b 7
  holdbackCut := u8 b 9
  clinkerPerStroke := u16 b 10
  slot := slot

/-- Each cooler-wide setting lies in its range of 7.1. -/
def CoolerSettings.inRange (x : CoolerSettings) : Bool :=
  x.target ≤ 32767 && x.base ≤ 300 && x.gain ≤ 50 && x.holdbackPressure ≤ 32767 && within 10 300 x.holdbackTime &&
    x.holdbackCut ≤ 30 && within 1 2000 x.clinkerPerStroke

/-- The section fields of a body lie in their ranges of 7.1. -/
def sectionInRange (b : List Byte) (n : Fin 4) : Bool :=
  u16 b (sectionAt n) ≤ 300 && u16 b (sectionAt n + 2) ≤ 300 && within 1 20 (u8 b (sectionAt n + 4))

/-- Each value of a SET_COOLER body lies in its range of 7.1 (R113, check 2). -/
def coolerInRange (b : List Byte) (slot : Fin 8) : Bool :=
  (settingsOf b slot).inRange && all4.all (sectionInRange b) && within 50 200 (u8 b 33) && within 50 200 (u8 b 34) &&
    within 50 200 (u8 b 35)

/-- No section's smin is greater than its smax (R113, check 3). -/
def coolerOrdered (b : List Byte) : Bool := all4.all fun n => u16 b (sectionAt n) ≤ u16 b (sectionAt n + 2)

/-- A section with the carried fields, its manual rate clamped into the new limits (R114, step 1). -/
def Section.configured (b : List Byte) (n : Fin 4) (x : Section) : Section :=
  { x with
    smin := u16 b (sectionAt n)
    smax := u16 b (sectionAt n + 2)
    step := u8 b (sectionAt n + 4)
    manual := clampNat (u16 b (sectionAt n)) (u16 b (sectionAt n + 2)) x.manual }

/-- Every setting and section field replaced (R114). -/
def Cooler.configured (b : List Byte) (slot : Fin 8) (c : Cooler) : Cooler :=
  { c with
    settings := settingsOf b slot
    ratios := #v[u8 b 33, u8 b 34, u8 b 35]
    sections := mapSections (Section.configured b) c.sections }

/-- The outputs after new settings (R114, steps 2 and 3): 0 while the stop cause stands, the manual rates in MANUAL, and
in AUTO lowered to the new smax where above it. -/
def Cooler.fitOutputs (c : Cooler) : Cooler :=
  if c.stopCause then c.halt
  else
    match c.mode with
    | .manual => c.runManual
    | .auto => { c with sections := mapSections (fun _ x => x.drive (min x.output x.smax)) c.sections }

/-- The nine bytes of a cooler answer: the mode and the four outputs (R113, R115, R176). -/
def coolerBytes (c : Cooler) : List Byte :=
  be8 (coolerModeByte c.mode) ++ be16 c.sections[0].output ++ be16 c.sections[1].output ++
    be16 c.sections[2].output ++ be16 c.sections[3].output

/-- The state under a SET_COOLER taken: settings, outputs, and the holdback offer replaced where holdback is active
(R114). -/
def takeCooler (b : List Byte) (slot : Fin 8) (s : State) : State :=
  if s.cooler.holdback then
    offerCut .both .holdback (some (u8 b 9)) (s.modCooler fun c => (c.configured b slot).fitOutputs)
  else s.modCooler fun c => (c.configured b slot).fitOutputs

/-- SET_COOLER (R113, R114). -/
def setCooler (b : List Byte) (s : State) : Reply :=
  match index8 (u8 b 12) with
  | none => .refuse .badIndex
  | some slot =>
    if !coolerInRange b slot then .refuse .range
    else if !coolerOrdered b then .refuse .range
    else .done (takeCooler b slot s) (coolerBytes (takeCooler b slot s).cooler)

/-- SET_COOLER on a link. -/
def execSetCooler (r : Request) (s : State) : Result := takeRequest Cmd.setCooler r (setCooler r.body) s

/-- The rate that a COOLER_MODE body carries for section n (R115, R176). -/
def carriedRate (b : List Byte) (n : Fin 4) : Nat := u16 b (1 + 2 * n.val)

/-- Step 1 to 3 of COOLER_MODE naming MANUAL on the cooler: clamped manual rates, mode MANUAL, pressure count 0,
pressure cause absent (R115). -/
def Cooler.toManual (b : List Byte) (c : Cooler) : Cooler :=
  { c with
    sections := mapSections (fun n x => { x with manual := clampNat x.smin x.smax (carriedRate b n) }) c.sections
    mode := .manual
    pressureCount := 0
    pressureCause := false }

/-- Step 4 of COOLER_MODE naming MANUAL: the outputs at 0 while the stop cause stands, else at the manual rates (R115). -/
def Cooler.manualOutputs (c : Cooler) : Cooler := if c.stopCause then c.halt else c.runManual

/-- Some carried rate is moved by its section's limits (R115). -/
def ratesClamped (b : List Byte) (c : Cooler) : Bool :=
  all4.any fun n => clampNat c.sections[n].smin c.sections[n].smax (carriedRate b n) != carriedRate b n

/-- The state under a COOLER_MODE naming MANUAL taken (R115). -/
def takeManual (b : List Byte) (s : State) : State :=
  (refreshHoldback (s.modCooler (Cooler.toManual b))).modCooler Cooler.manualOutputs

/-- The state under a COOLER_MODE naming AUTO taken: the mode AUTO and the pressure count from 0; in AUTO no change
(R115, R122). -/
def takeAuto (s : State) : State :=
  if s.cooler.mode = .auto then s else s.modCooler fun c => { c with mode := .auto, pressureCount := 0 }

/-- COOLER_MODE (R115): 9 bytes naming MANUAL or 1 byte naming AUTO; a length that does not fit the mode, and an encoding
that names neither mode, are refused RANGE. -/
def coolerMode (b : List Byte) (s : State) : Reply :=
  match u8 b 0, b.length with
  | 0x00, 9 =>
    .take (takeManual b s) (if ratesClamped b s.cooler then .okClamped else .ok) (coolerBytes (takeManual b s).cooler)
  | 0x01, 1 => .done (takeAuto s) (coolerBytes (takeAuto s).cooler)
  | _, _ => .refuse .range

/-- COOLER_MODE whose mode byte is not AUTO, on a link (log entry 9). -/
def execCoolerModeManual (r : Request) (s : State) : Result := takeRequest Cmd.coolerMode r (coolerMode r.body) s

/-- COOLER_MODE whose mode byte is AUTO, on a link (log entry 9). -/
def execCoolerModeAuto (r : Request) (s : State) : Result := takeRequest Cmd.coolerMode r (coolerMode r.body) s

/-! ### The cooler period (R112, R116 to R118, R122) -/

/-- The raw rate of section 1 on a bed pressure p (R116). -/
def rawRate (x : CoolerSettings) (p : Int) : Int := x.base + x.gain * (p - x.target)

/-- Section 1's output on a raw rate: the aim clamped, the step, the clamp of the result (R116, steps 2 to 4). -/
def Section.aimed (raw : Int) (x : Section) : Nat :=
  clampNat x.smin x.smax (moveToward x.output (clampInt x.smin x.smax raw).toNat x.step)

/-- The output of a section that follows section 1 at s1 by a ratio (R117). -/
def Section.following (s1 ratio : Nat) (x : Section) : Nat :=
  clampNat x.smin x.smax (roundHalfUp (s1 * ratio) 100)

/-- The outputs of an AUTO period with the slot fresh and the stop cause absent (R116, R117). -/
def Cooler.autoOutputs (raw : Int) (c : Cooler) : Cooler :=
  { c with
    sections :=
      #v[c.sections[0].drive (c.sections[0].aimed raw),
         c.sections[1].drive (c.sections[1].following (c.sections[0].aimed raw) c.ratios[0]),
         c.sections[2].drive (c.sections[2].following (c.sections[0].aimed raw) c.ratios[1]),
         c.sections[3].drive (c.sections[3].following (c.sections[0].aimed raw) c.ratios[2])] }

/-- An AUTO period with the slot fresh: the raw rate stored and the outputs formed, or left at 0 while the stop cause
stands (R116, R117, R124). -/
def Cooler.freshPeriod (p : Int) (c : Cooler) : Cooler :=
  if c.stopCause then { c with lastRaw := rawRate c.settings p }.halt
  else { c with lastRaw := rawRate c.settings p }.autoOutputs (rawRate c.settings p)

/-- An AUTO period with the slot stale: the outputs hold, those outside their limits are clamped into them, and all stay
at 0 while the stop cause stands (R118). -/
def Cooler.stalePeriod (c : Cooler) : Cooler :=
  if c.stopCause then c.halt
  else { c with sections := mapSections (fun _ x => x.drive (clampNat x.smin x.smax x.output)) c.sections }

/-- The entry test of the pressure cause (R122). -/
def Cooler.entryHolds (p : Int) (c : Cooler) : Bool :=
  c.sections[0].output == c.sections[0].smax && (c.settings.holdbackPressure : Int) ≤ p

/-- The entry test applied to an absent pressure cause, counting from `count` (R122). -/
def Cooler.entryTest (p : Int) (count : Nat) (c : Cooler) : Cooler :=
  if c.entryHolds p then
    if c.settings.holdbackTime ≤ satAdd 300 count 1 then { c with pressureCause := true, pressureCount := 0 }
    else { c with pressureCause := false, pressureCount := satAdd 300 count 1 }
  else { c with pressureCause := false, pressureCount := 0 }

/-- The pressure test (R122). -/
def Cooler.pressureTest (p : Int) (c : Cooler) : Cooler :=
  if c.pressureCause then
    if p < c.settings.target then c.entryTest p 0 else c
  else c.entryTest p c.pressureCount

/-- COOLER_PERIOD (R112): the timer restarts with 1 s; in MANUAL nothing else; in AUTO the outputs, and with the slot
fresh the pressure test, then holdback brought up to date. -/
def execCoolerPeriod (s : State) : Result :=
  match s.cooler.mode with
  | .manual => .next (s.modCooler fun c => { c with timer := 1000 })
  | .auto =>
    if (s.slot s.cooler.settings.slot).isStale then
      .next (s.modCooler fun c => { c with timer := 1000 }.stalePeriod)
    else
      .next (refreshHoldback (s.modCooler fun c =>
        ({ c with timer := 1000 }.freshPeriod (s.slot s.cooler.settings.slot).value).pressureTest
          (s.slot s.cooler.settings.slot).value))

/-! ### Strokes and stalls (R120, R121, R123) -/

/-- The open record with one section-1 stroke and its clinker booked (R120, R166). -/
def OpenShift.bookStroke (kg : Nat) (o : OpenShift) : OpenShift :=
  { o with strokes := satAdd 4294967295 o.strokes 1, clinker := satAdd 4294967295 o.clinker kg }

/-- The cooler with one section-1 stroke and its clinker totalled, both wrapping past 4,294,967,295 (R120). -/
def Cooler.totalStroke (c : Cooler) : Cooler :=
  { c with
    strokes := (c.strokes + 1) % 4294967296
    clinker := (c.clinker + c.settings.clinkerPerStroke) % 4294967296 }

/-- A stroke of section 1 booked at the CC and the SU; a stroke of another section is not (R120). -/
def bookStroke (n : Fin 4) (s : State) : State :=
  if n = 0 then
    State.modShift (OpenShift.bookStroke s.cooler.settings.clinkerPerStroke) (s.modCooler Cooler.totalStroke)
  else s

/-- A section under a stroke: the stalled flag cleared, the stall timer restarted while the output is above 0 (R121). -/
def Section.stroke (x : Section) : Section :=
  { x with stalled := false, stall := if x.output = 0 then (if x.stalled then none else x.stall) else some 30000 }

/-- At least one section's stalled flag is set (R123). -/
def Cooler.anyStalled (c : Cooler) : Bool := c.sections.toList.any Section.stalled

/-- The stall cause brought up to date (R123). -/
def Cooler.refreshStall (c : Cooler) : Cooler := { c with stallCause := c.anyStalled }

/-- The stall supervision of a section under a stroke: a stalled section's clear reported, the stall cause and holdback
brought up to date (R121, R123, R125). -/
def strokeSupervision (n : Fin 4) (s : State) : State :=
  if s.cooler.sections[n].stalled then
    refreshHoldback ((clearAlarm (.sectionStalled n) (s.modCooler (Cooler.modSection n Section.stroke))).modCooler
      Cooler.refreshStall)
  else s.modCooler (Cooler.modSection n Section.stroke)

/-- STROKE_PULSE (R120, R121). -/
def execStrokePulse (n : Fin 4) (s : State) : Result := .next (strokeSupervision n (bookStroke n s))

/-- The raise of SECTION_STALLED at P1, without detail (R121). -/
def stallRaise (n : Fin 4) : Raise := ⟨.sectionStalled n, .p1, none⟩

/-- STALL_TIMER_EXPIRY (R121): the stalled flag set, the timer stopped, SECTION_STALLED raised, the stall cause and
holdback brought up to date. With the timer stopped there is no expiry (log entry 3). -/
def execStallTimerExpiry (n : Fin 4) (s : State) : Result :=
  if s.cooler.sections[n].stall.isSome then
    .next (refreshHoldback ((raiseAlarm (stallRaise n)
      (s.modCooler (Cooler.modSection n fun x => { x with stalled := true, stall := none }))).modCooler
        Cooler.refreshStall))
  else .next s

/-! ### Reading the cooler (R127) -/

/-- The cooler-wide settings in SET_COOLER order, 13 bytes (R177). -/
def settingsBytes (x : CoolerSettings) : List Byte :=
  be16 x.target ++ be16 x.base ++ be8 x.gain ++ be16 x.holdbackPressure ++ be16 x.holdbackTime ++ be8 x.holdbackCut ++
    be16 x.clinkerPerStroke ++ be8 x.slot.val

/-- The GENERAL readout of 34 bytes (R127, R177). -/
def generalReadout (s : State) : List Byte :=
  be8 0x00 ++ be8 (coolerModeByte s.cooler.mode) ++ settingsBytes s.cooler.settings ++
  beS16 (s.slot s.cooler.settings.slot).value ++
  be8 (bit 0 (s.slot s.cooler.settings.slot).isStale + bit 1 s.cooler.pressureCause + bit 2 s.cooler.stallCause +
    bit 3 s.cooler.stopCause + bit 4 s.cooler.holdback) ++
  beS32 s.cooler.lastRaw ++ be16 s.cooler.pressureCount ++ be8 s.cooler.stopContacts.length ++
  be8 (if s.cooler.holdback then s.cooler.settings.holdbackCut else 0) ++ be32 s.cooler.strokes ++
  be32 s.cooler.clinker

/-- The 13 bytes of a section in the SECTIONS readout, the ratio 0 for section 1 (R127, R177). -/
def sectionBytes (ratio : Nat) (x : Section) : List Byte :=
  be16 x.smin ++ be16 x.smax ++ be8 x.step ++ be8 ratio ++ be16 x.manual ++ be16 x.output ++
    be8 (flagByte x.stalled) ++ be16 (timerMs x.stall)

/-- The SECTIONS readout of 53 bytes (R127, R177). -/
def sectionsReadout (c : Cooler) : List Byte :=
  be8 0x01 ++ sectionBytes 0 c.sections[0] ++ sectionBytes c.ratios[0] c.sections[1] ++
    sectionBytes c.ratios[1] c.sections[2] ++ sectionBytes c.ratios[2] c.sections[3]

/-- READ_COOLER (R127): a selector that names neither part is refused BAD_INDEX. -/
def readCooler (b : List Byte) (s : State) : Reply :=
  match u8 b 0 with
  | 0x00 => .done s (generalReadout s)
  | 0x01 => .done s (sectionsReadout s.cooler)
  | _ => .refuse .badIndex

/-- READ_COOLER on a link. -/
def execReadCooler (r : Request) (s : State) : Result := takeRequest Cmd.readCooler r (readCooler r.body) s

end Sys2Proof.Machine
end

