-- ==== Sys2Proof/Machine/Firing.lean ====
section
/-! DEFINITION. The commands and events of the Firing Supervision Unit (03_firing_supervision.md), but for CAL_STOP. -/

namespace Sys2Proof.Machine

/-- The answer of a firing command taken: OK with the stream number and the firing state after it (R36). -/
def fired (i : Fin 8) (s : State) : Reply := .done s (be8 i.val ++ be8 (firingByte (s.stream i).state))

/-- A contact guards a stream: its role is STREAM_INTERLOCK and its mask includes the stream. -/
def Contact.guards (i : Fin 8) (c : Contact) : Bool := c.role == .streamInterlock && c.mask.getLsbD i.val

/-- Some interlock contact of the stream reads away from its normal state (R37, check 4). -/
def State.interlocked (s : State) (i : Fin 8) : Bool := s.contacts.toList.any fun c => c.guards i && c.abnormal

/-- Some interlock contact of the stream is forced (R39). -/
def State.guardForced (s : State) (i : Fin 8) : Bool := s.contacts.toList.any fun c => c.guards i && c.forced

/-- GRANT for a stream (R37). -/
def grant (i : Fin 8) (s : State) : Reply :=
  if (s.stream i).state = .tripped then .refuse .heldOff
  else if (s.stream i).state ≠ .off then .refuse .wrongState
  else if !(s.stream i).armed then .refuse .notArmed
  else if s.computedWord ≠ s.expectedWord then .refuse .checkMismatch
  else if s.interlocked i then .refuse .interlock
  else fired i (s.moveTo i .ready)

/-- GRANT on a link. -/
def execGrant (r : Request) (s : State) : Result := takeRequest Cmd.grant r (onStream r.body grant) s

/-- REVOKE for a stream (R38). -/
def revoke (i : Fin 8) (s : State) : Reply := fired i (withdraw .revoke i s)

/-- REVOKE on a link. -/
def execRevoke (r : Request) (s : State) : Result := takeRequest Cmd.revoke r (onStream r.body revoke) s

/-- A READY stream under a LIGHT taken (R39, R81, R82): LIGHTING at min flow, its lighting timer started with its
light-off time, its window ring and measured flow emptied, its window-fill count 0. -/
def Stream.lit (x : Stream) : Stream :=
  { x with
    state := .lighting
    output := x.limits.min
    rate := rateOf x.limits.min x.limits.scale
    lighting := some (x.limits.lightOff * 1000)
    ring := []
    flow := 0
    fill := 0 }

/-- LIGHT for a stream (R39). -/
def light (i : Fin 8) (s : State) : Reply :=
  if (s.stream i).state ≠ .ready then .refuse .wrongState
  else if s.guardForced i then .refuse .forced
  else fired i (s.modStream i Stream.lit)

/-- LIGHT on a link. -/
def execLight (r : Request) (s : State) : Result := takeRequest Cmd.light r (onStream r.body light) s

/-- FLAME PROVEN for a stream (R41, R82). -/
def flameProven (i : Fin 8) (s : State) : Reply :=
  if (s.stream i).state = .lighting then
    fired i (s.modStream i fun x => { x with state := .firing, lighting := none, fill := 0 })
  else if (s.stream i).state = .tripped then .refuse .tooLate
  else .refuse .wrongState

/-- FLAME LOST for a stream (R42). -/
def flameLost (i : Fin 8) (s : State) : Reply :=
  if (s.stream i).state.burning then fired i (trip i .flameLost s) else fired i s

/-- FLAME: the stream number, then the report, then the event the report names (R36, R41, R42). -/
def flame (body : List Byte) (s : State) : Reply :=
  onStream body (fun i s =>
    match u8 body 1 with
    | 0x01 => flameProven i s
    | 0x02 => flameLost i s
    | _ => .refuse .range) s

/-- FLAME whose report byte is not LOST, on a link (log entry 9). -/
def execFlameProven (r : Request) (s : State) : Result := takeRequest Cmd.flame r (flame r.body) s

/-- FLAME whose report byte is LOST, on a link (log entry 9). -/
def execFlameLost (r : Request) (s : State) : Result := takeRequest Cmd.flame r (flame r.body) s

/-- HOLD for a stream (R43). -/
def hold (i : Fin 8) (s : State) : Reply :=
  if (s.stream i).state = .firing then fired i (s.moveTo i .held) else .refuse .wrongState

/-- HOLD on a link. -/
def execHold (r : Request) (s : State) : Result := takeRequest Cmd.hold r (onStream r.body hold) s

/-- RESUME for a stream (R44). -/
def resume (i : Fin 8) (s : State) : Reply :=
  if (s.stream i).state = .held ∨ (s.stream i).state = .stopping then fired i (s.moveTo i .firing)
  else .refuse .wrongState

/-- RESUME on a link. -/
def execResume (r : Request) (s : State) : Result := takeRequest Cmd.resume r (onStream r.body resume) s

/-- STOP for a stream (R45). -/
def stop (i : Fin 8) (s : State) : Reply :=
  if (s.stream i).state = .lighting then
    fired i (s.modStream i fun x => { x with state := .ready, lighting := none, output := 0, planned := 0, rate := 0 })
  else if (s.stream i).state = .firing ∨ (s.stream i).state = .held then fired i (s.moveTo i .stopping)
  else .refuse .wrongState

/-- STOP on a link. -/
def execStop (r : Request) (s : State) : Result := takeRequest Cmd.stop r (onStream r.body stop) s

/-- RELEASE for a stream (R51): TRIPPED to OFF, the cause reported and made absent, the STREAM_TRIP condition cleared. -/
def release (i : Fin 8) (s : State) : Reply :=
  if (s.stream i).state = .tripped then
    .done (clearAlarm (.streamTrip i) (s.modStream i fun x => { x with state := .off, cause := none }))
      (be8 i.val ++ be8 (firingByte .off) ++ be8 (causeOptByte (s.stream i).cause))
  else .refuse .wrongState

/-- RELEASE on a link. -/
def execRelease (r : Request) (s : State) : Result := takeRequest Cmd.release r (onStream r.body release) s

/-- MASTER_TRIP (R52): BURNING streams tripped with cause MASTER, READY streams sent to OFF, in stream order; the body
carries the two sets. -/
def masterTrip (s : State) : Reply :=
  .done (withdrawAll .master s)
    (be8 (streamSet fun i => (s.stream i).state.burning) ++ be8 (streamSet fun i => (s.stream i).state == .ready))

/-- MASTER_TRIP on a link. -/
def execMasterTrip (r : Request) (s : State) : Result := takeRequest Cmd.masterTrip r masterTrip s

/-- SET_LINK_TIMEOUT (R56): 1 to 10 s, stored, and the timer restarts at the new length. -/
def setLinkTimeout (b : List Byte) (s : State) : Reply :=
  if within 1 10 (u8 b 0) then .done { s with safeTimeout := u8 b 0, safeTimer := some (u8 b 0 * 1000) } []
  else .refuse .range

/-- SET_LINK_TIMEOUT on a link. -/
def execSetLinkTimeout (r : Request) (s : State) : Result :=
  takeRequest Cmd.setLinkTimeout r (setLinkTimeout r.body) s

/-- LIGHTING_TIMER_EXPIRY (R40): a LIGHTING stream whose timer runs out trips with cause LIGHT_FAIL; with the timer
stopped there is no expiry (log entry 3). -/
def execLightingTimerExpiry (i : Fin 8) (s : State) : Result :=
  if (s.stream i).lighting.isSome ∧ (s.stream i).state = .lighting then .next (trip i .lightFail s) else .next s

/-- NO_FLOW_REPORT (R54, R86): a report reaching a stream in FIRING or HELD trips it with cause NO_FLOW; in any other
state it has no effect. The report made at the period close is taken by this (log entry 4). -/
def execNoFlowReport (i : Fin 8) (s : State) : Result :=
  if (s.stream i).state = .firing ∨ (s.stream i).state = .held then
    .next (trip i .noFlow (s.modStream i fun x => { x with noFlowDue := false }))
  else .next (s.modStream i fun x => { x with noFlowDue := false })

/-- The raise of SAFE_LINK at P1 (R57). -/
def safeLinkRaise : Raise := ⟨.safeLink, .p1, none⟩

/-- SAFE_LINK_TIMER_EXPIRY (R55, R57): the timer stays stopped, BURNING streams trip with cause LINK_LOSS and READY
streams go to OFF in stream order, SAFE_LINK is raised, the healthy flag clears. With the timer stopped there is no
expiry (log entry 3). -/
def execSafeLinkTimerExpiry (s : State) : Result :=
  if s.safeTimer.isSome then
    .next { raiseAlarm safeLinkRaise (withdrawAll .linkLoss { s with safeTimer := none }) with safeHealthy := false }
  else .next s

end Sys2Proof.Machine
end

