-- ==== Sys2Proof/Machine/Contacts.lean ====
section
/-! DEFINITION. The Contact Scanner (08_field_contacts.md). -/

namespace Sys2Proof.Machine

/-- The priority of a CONTACT raise: the configured one under ALARM, P1 under STREAM_INTERLOCK and COOLER_STOP (R131). -/
def Contact.raisePriority (c : Contact) : Priority :=
  match c.role with
  | .alarm => c.priority
  | .streamInterlock => .p1
  | .coolerStop => .p1
  | .none => c.priority

/-- The raise of CONTACT, without detail (R131). -/
def contactRaise (k : Fin 24) (c : Contact) : Raise := ⟨.contact k, c.raisePriority, none⟩

/-- An interlock reported to the FSU for each of some streams, in stream order (R53, R131). -/
def reportInterlocks (p : Fin 8 → Bool) (s : State) : State :=
  all8.foldl (fun s i => if p i then withdraw .interlock i s else s) s

/-- The CONTACT condition comes on and CONTACT is raised (R131). -/
def raiseContact (k : Fin 24) (s : State) : State :=
  raiseAlarm (contactRaise k (s.contact k)) (s.modContact k fun c => { c with cond := true })

/-- The CONTACT condition goes off and its clear is reported (R131). -/
def clearContact (k : Fin 24) (s : State) : State :=
  clearAlarm (.contact k) (s.modContact k fun c => { c with cond := false })

/-- A contact goes abnormal, acted on by its role: the raise before the reports (R131). -/
def goesAbnormal (k : Fin 24) (s : State) : State :=
  match (s.contact k).role with
  | .none => s
  | .alarm => raiseContact k s
  | .streamInterlock => reportInterlocks (fun i => (s.contact k).mask.getLsbD i.val) (raiseContact k s)
  | .coolerStop => stopReported k (raiseContact k s)

/-- A contact returns, acted on by its role; nothing is reported to the FSU (R131). -/
def returnsNormal (k : Fin 24) (s : State) : State :=
  match (s.contact k).role with
  | .none => s
  | .alarm => clearContact k s
  | .streamInterlock => clearContact k s
  | .coolerStop => stopReturned k (clearContact k s)

/-- A change of a contact's reading acted on (R131). -/
def actOnReading (k : Fin 24) (s : State) : State :=
  if (s.contact k).abnormal then goesAbnormal k s else returnsNormal k s

/-- A contact under one sample (R130). -/
def Contact.sampled (level : Level) (c : Contact) : Contact :=
  if level = c.accepted then { c with count := 0 }
  else if c.debounce ≤ c.count + 1 then { c with accepted := level, count := 0 }
  else { c with count := c.count + 1 }

/-- One sample of a contact: where the accepted state changes on a contact that is not forced, its reading changes with
it and is acted on (R130). -/
def sampleContact (k : Fin 24) (level : Level) (s : State) : State :=
  if ((s.contact k).sampled level).accepted ≠ (s.contact k).accepted ∧ (s.contact k).forced = false then
    actOnReading k (s.modContact k (Contact.sampled level))
  else s.modContact k (Contact.sampled level)

/-- The level at a contact's input; a bit of 1 is closed. -/
def levelAt (levels : BitVec 24) (k : Fin 24) : Level := if levels.getLsbD k.val then .closed else .opened

/-- The samples of one scan, in contact order (R129, log entry 6). -/
def scanContacts (levels : BitVec 24) (s : State) : State :=
  all24.foldl
    (fun s k => if (s.contact k).slow = false ∨ s.scanCount = 0 then sampleContact k (levelAt levels k) s else s) s

/-- CONTACT_SCAN (R129): the timer restarts with 20 ms, the scan count advances, and the due contacts are sampled. -/
def execContactScan (levels : BitVec 24) (s : State) : Result :=
  .next (scanContacts levels
    { s with scanTimer := 20, scanCount := (s.scanCount + 1) % 4, contactInputs := levels })

/-- The contact state byte: bit 0 accepted, bit 1 reading, bit 2 forced, bit 3 CONTACT, bit 4 CONTACT_FORCED (R176). -/
def Contact.stateByte (c : Contact) : Nat :=
  bit 0 (c.accepted == .closed) + bit 1 (c.reading == .closed) + bit 2 c.forced + bit 3 c.cond + bit 4 c.forcedCond

/-- The two bytes of a contact answer: the number and the state byte (R132, R134, R176). -/
def contactBytes (k : Fin 24) (s : State) : List Byte := be8 k.val ++ be8 (s.contact k).stateByte

/-- A mask includes a stream in LIGHTING, FIRING, HELD, CALIB or STOPPING (R132, R134). -/
def State.masksBurning (s : State) (mask : BitVec 8) : Bool :=
  all8.any fun i => mask.getLsbD i.val && (s.stream i).state.burning

/-- A contact with the six configured fields of a SET_CONTACT body, its debounce count 0, its accepted state, forced flag
and conditions kept, or none where an encoding names no value or the debounce is outside 2 to 8 (R132, check 2; R133).
The stored mask is the carried one under STREAM_INTERLOCK and empty otherwise. -/
def Contact.rewritten (b : List Byte) (c : Contact) : Option Contact :=
  match roleOf (u8 b 1), levelOf (u8 b 2), priorityOf (u8 b 3), onOffOf (u8 b 6) with
  | some role, some normal, some priority, some slow =>
    if within 2 8 (u8 b 5) then
      some
        { c with
          role := role
          normal := normal
          priority := priority
          mask := if role = .streamInterlock then b.getD 4 0 else 0x00#8
          debounce := u8 b 5
          slow := slow
          count := 0 }
    else none
  | _, _, _, _ => none

/-- The CONTACT condition is due while the role is not NONE, the forced flag is clear and the reading is abnormal
(R133). -/
def Contact.due (c : Contact) : Bool := c.role != .none && !c.forced && c.abnormal

/-- Step 1 of R133, the condition. -/
def settleCondition (k : Fin 24) (before : Bool) (s : State) : State :=
  if before && !(s.contact k).due then clearContact k s
  else if !before && (s.contact k).due then raiseContact k s
  else s

/-- A stream was covered by a contact: role STREAM_INTERLOCK, abnormal, and the stream in the mask (R133, step 2). -/
def Contact.covers (c : Contact) (i : Fin 8) : Bool := c.guards i && c.abnormal

/-- Step 2 of R133, the interlocks: reported for each stream now covered and not covered before. -/
def settleInterlocks (old new : Contact) (s : State) : State :=
  reportInterlocks (fun i => new.covers i && !old.covers i) s

/-- A contact is abnormal under role COOLER_STOP. -/
def Contact.stops (c : Contact) : Bool := c.role == .coolerStop && c.abnormal

/-- Step 3 of R133, the cooler stop. -/
def settleStop (k : Fin 24) (old new : Contact) (s : State) : State :=
  if old.stops && !new.stops then stopReturned k s
  else if new.stops && !old.stops then stopReported k s
  else s

/-- A contact replaced, and the old and the new compared: condition, interlocks, cooler stop (R133). -/
def replaceContact (k : Fin 24) (new : Contact) (s : State) : State :=
  settleStop k (s.contact k) new
    (settleInterlocks (s.contact k) new
      (settleCondition k (s.contact k).cond (s.modContact k fun _ => new)))

/-- SET_CONTACT for a contact (R132, R133). -/
def setContact (b : List Byte) (k : Fin 24) (s : State) : Reply :=
  match (s.contact k).rewritten b with
  | none => .refuse .range
  | some new =>
    if (s.contact k).forced ∧ s.masksBurning new.mask then .refuse .wrongState
    else .done (replaceContact k new s) (contactBytes k (replaceContact k new s))

/-- SET_CONTACT on a link. -/
def execSetContact (r : Request) (s : State) : Result :=
  takeRequest Cmd.setContact r (onContact r.body (setContact r.body)) s

/-- The raise of CONTACT_FORCED at P3, without detail (R134). -/
def forcedRaise (k : Fin 24) : Raise := ⟨.contactForced k, .p3, none⟩

/-- A force taken (R134): the forced flag set; a contact that read abnormal returns; CONTACT_FORCED comes on. -/
def force (k : Fin 24) (s : State) : State :=
  let s1 := s.modContact k fun c => { c with forced := true }
  let s2 := if (s.contact k).abnormal then returnsNormal k s1 else s1
  raiseAlarm (forcedRaise k) (s2.modContact k fun c => { c with forcedCond := true })

/-- FORCE_CONTACT for a contact (R134). -/
def forceContact (k : Fin 24) (s : State) : Reply :=
  if s.masksBurning (s.contact k).mask then .refuse .wrongState
  else if (s.contact k).forced then .done s (contactBytes k s)
  else .done (force k s) (contactBytes k (force k s))

/-- FORCE_CONTACT on a link. -/
def execForceContact (r : Request) (s : State) : Result :=
  takeRequest Cmd.forceContact r (onContact r.body forceContact) s

/-- A force lifted (R135): the forced flag clear, CONTACT_FORCED cleared, and an accepted state away from the normal
state acted on as a change to abnormal. -/
def liftForce (k : Fin 24) (s : State) : State :=
  let s1 := clearAlarm (.contactForced k) (s.modContact k fun c => { c with forced := false, forcedCond := false })
  if (s1.contact k).abnormal then goesAbnormal k s1 else s1

/-- UNFORCE for a contact (R135). -/
def unforce (k : Fin 24) (s : State) : Reply :=
  if (s.contact k).forced then .done (liftForce k s) (contactBytes k (liftForce k s)) else .refuse .wrongState

/-- UNFORCE on a link. -/
def execUnforce (r : Request) (s : State) : Result := takeRequest Cmd.unforce r (onContact r.body unforce) s

/-- The contact readout of 18 bytes (R137, R177). -/
def contactReadout (k : Fin 24) (s : State) : List Byte :=
  be8 k.val ++ be8 (roleByte (s.contact k).role) ++ be8 (levelByte (s.contact k).normal) ++
  be8 (s.contact k).priority.num ++ [(s.contact k).mask] ++ be8 (s.contact k).debounce ++
  be8 (flagByte (s.contact k).slow) ++ be8 (s.contact k).stateByte ++ be8 (s.contact k).count ++
  be24 (contactSet fun j => (s.contact j).accepted == .closed) ++
  be24 (contactSet fun j => (s.contact j).abnormal) ++ be24 (contactSet fun j => (s.contact j).forced)

/-- READ_CONTACTS for a contact (R137). -/
def readContacts (k : Fin 24) (s : State) : Reply := .done s (contactReadout k s)

/-- READ_CONTACTS on a link. -/
def execReadContacts (r : Request) (s : State) : Result :=
  takeRequest Cmd.readContacts r (onContact r.body readContacts) s

end Sys2Proof.Machine
end

