-- ==== Sys2Proof/Machine/Feed.lean ====
section
/-! DEFINITION. The Feed Measurement Unit (05_feed_measurement_and_calibration.md): pulses, the period close, supervision
and the calibration window. -/

namespace Sys2Proof.Machine

/-! ### Pulses and the period close (R77 to R85) -/

/-- A calibration record with one pulse counted, saturating (R77, R88). -/
def CalRecord.count (c : CalRecord) : CalRecord :=
  if c.state = .opened then { c with pulses := satAdd 4294967295 c.pulses 1 } else c

/-- MASS_PULSE (R77): adds 1 to the period pulse count, holding at 65,535, and to an OPEN record's count. -/
def execMassPulse (i : Fin 8) (s : State) : Result :=
  .next (s.modStream i fun x => { x with pulses := satAdd 65535 x.pulses 1, cal := x.cal.map CalRecord.count })

/-- The limit of a mass or heat total (R166). -/
def totalLimit : Nat := 18446744073709551615

/-- The open record with a stream's mass and heat of one period booked (R79, R166). -/
def OpenShift.bookFeed (i : Fin 8) (grams joules : Nat) (o : OpenShift) : OpenShift :=
  { o with
    mass := o.mass.set i (satAdd totalLimit o.mass[i] grams)
    heat := o.heat.set i (satAdd totalLimit o.heat[i] joules) }

/-- The mass of the closing period, in g (R79). -/
def Stream.periodMass (x : Stream) : Nat := x.pulses * x.plan.pulseWeight

/-- The heat of the closing period, in J; 0 J where the NCV is absent (R79). -/
def Stream.periodHeat (x : Stream) : Nat := x.periodMass * x.plan.ncv.getD 0

/-- The ring with a new entry at its tail, the oldest removed where it held 8 (R80). -/
def joinRing (ring : List WindowEntry) (e : WindowEntry) : List WindowEntry :=
  (if 8 ≤ ring.length then ring.drop (ring.length - 7) else ring) ++ [e]

/-- The measured flow of a ring (R81): floor(P × g × 3,600 / T) kg/h, saturating at 65,535. -/
def measuredFlow (ring : List WindowEntry) (g periodMs : Nat) : Nat :=
  min 65535 ((ring.map WindowEntry.pulses).sum * g * 3600 / (ring.length * periodMs))

/-- The window-fill count after a close (R82). -/
def Stream.nextFill (x : Stream) : Nat :=
  match x.state with
  | .firing | .held | .calib | .stopping => satAdd 8 x.fill 1
  | .off | .ready | .lighting | .tripped => x.fill

/-- Steps 2 to 4 of a period close on the stream: the window entry, the window-fill count, the measured flow (R78). -/
def Stream.closeWindow (periodMs : Nat) (x : Stream) : Stream :=
  { x with
    ring := joinRing x.ring ⟨x.pulses, x.output⟩
    fill := x.nextFill
    flow := measuredFlow (joinRing x.ring ⟨x.pulses, x.output⟩) x.plan.pulseWeight periodMs }

/-- A stream is under supervision at a period close (R83). -/
def Stream.supervised (x : Stream) : Bool := (x.state == .firing || x.state == .held) && x.fill == 8

/-- The average setpoint A over the eight ring entries (R83). -/
def Stream.averageSetpoint (x : Stream) : Nat := (x.ring.map WindowEntry.output).sum / 8

/-- The delivery is out of band (R84). -/
def Stream.outOfBand (x : Stream) : Bool :=
  x.averageSetpoint * x.plan.band < distance x.flow x.averageSetpoint * 100

/-- The delivery is short of flow (R85). -/
def Stream.shortOfFlow (x : Stream) : Bool := x.flow < x.averageSetpoint / 10

/-- The deviation counters and condition after a close under supervision (R84). -/
def Stream.deviation (x : Stream) : Stream :=
  if x.devCond then
    if x.outOfBand then { x with retCounter := 0 }
    else if x.retCounter + 1 = 4 then { x with devCond := false, devCounter := 0, retCounter := 0 }
    else { x with retCounter := x.retCounter + 1 }
  else if x.outOfBand then
    if x.plan.devCount ≤ satAdd 60 x.devCounter 1 then { x with devCond := true, devCounter := 0, retCounter := 0 }
    else { x with devCounter := satAdd 60 x.devCounter 1 }
  else { x with devCounter := 0 }

/-- The no-flow counter after a close under supervision, and the report it makes to the FSU (R85). -/
def Stream.noFlow (x : Stream) : Stream :=
  if x.shortOfFlow then
    if x.limits.noFlowCount ≤ satAdd 60 x.noFlowCounter 1 then { x with noFlowCounter := 0, noFlowDue := true }
    else { x with noFlowCounter := satAdd 60 x.noFlowCounter 1 }
  else { x with noFlowCounter := 0 }

/-- A stream after the supervision of a close (R83 to R85). -/
def Stream.supervise (x : Stream) : Stream :=
  if x.supervised then x.deviation.noFlow
  else { x with devCounter := 0, retCounter := 0, noFlowCounter := 0, devCond := false }

/-- The raise of STREAM_DEVIATION at P2, without detail (R84). -/
def deviationRaise (i : Fin 8) : Raise := ⟨.streamDeviation i, .p2, none⟩

/-- The report of the deviation condition to the AU: a raise where it came on, a clear where it went off (R83, R84). -/
def reportDeviation (i : Fin 8) (before after : Bool) (s : State) : State :=
  if !before && after then raiseAlarm (deviationRaise i) s
  else if before && !after then clearAlarm (.streamDeviation i) s
  else s

/-- A stream after all six steps of its period close (R78). -/
def Stream.closed (periodMs : Nat) (x : Stream) : Stream := { (x.closeWindow periodMs).supervise with pulses := 0 }

/-- The period close of one stream, taken whole (R78): its mass and heat booked, its window entry, flow and supervision,
its period pulse count set to 0. -/
def periodClose (s : State) (i : Fin 8) : State :=
  reportDeviation i (s.stream i).devCond ((s.stream i).closed s.period.ms).devCond
    (State.modStream i (Stream.closed s.period.ms)
      (State.modShift (OpenShift.bookFeed i (s.stream i).periodMass (s.stream i).periodHeat) s))

/-- The period closes of the eight streams, in stream order (R78, log entry 5). -/
def periodCloses (s : State) : State := all8.foldl periodClose s

/-! ### The calibration window (R47, R87 to R95) -/

/-- The record that CAL_START opens (R87). -/
def openCal (now : ClockTime) (x : Stream) : CalRecord where
  state := .opened
  start := now
  frozen := x.output
  startWeight := x.plan.pulseWeight
  pulses := 0
  elapsed := 0

/-- CAL_START for a stream (R47, R87). -/
def calStart (i : Fin 8) (s : State) : Reply :=
  if (s.stream i).state = .firing ∧ (s.stream i).cal = none then
    fired i (s.modStream i fun x => { x with state := .calib, cal := some (openCal s.now x) })
  else .refuse .wrongState

/-- CAL_START on a link. -/
def execCalStart (r : Request) (s : State) : Result := takeRequest Cmd.calStart r (onStream r.body calStart) s

/-- The state that CAL_STOP latches: SHORT below 60,000 ms, DONE otherwise (R89). -/
def CalRecord.stopState (c : CalRecord) : CalState := if c.elapsed < 60000 then .short else .done

/-- The latched fields in a CAL_STOP answer: record state, pulse count, elapsed time (R89, R176). -/
def calStopBytes (c : CalRecord) : List Byte := be8 (calStateByte c.state) ++ be32 c.pulses ++ be32 c.elapsed

/-- CAL_STOP for a stream (R89): the OPEN record latched SHORT or DONE, CAL set on all links, the stream back to FIRING
with its frozen output. A CALIB stream has an OPEN record in every run; without one there is nothing to latch and no CAL
(log entry 15). -/
def calStop (i : Fin 8) (s : State) : Reply :=
  if (s.stream i).state = .calib then
    match (s.stream i).cal with
    | some c =>
      if c.state = .opened then
        .done
          (State.setFactors (calIf true)
            (s.modStream i fun x => { x with state := .firing, cal := some { c with state := c.stopState } }))
          (be8 i.val ++ be8 (firingByte .firing) ++ calStopBytes { c with state := c.stopState })
      else .done (s.moveTo i .firing) (be8 i.val ++ be8 (firingByte .firing) ++ calStopBytes c)
    | none => .done (s.moveTo i .firing) (be8 i.val ++ be8 (firingByte .firing) ++ List.replicate 9 0x00#8)
  else .refuse .wrongState

/-- CAL_STOP on a link. -/
def execCalStop (r : Request) (s : State) : Result := takeRequest Cmd.calStop r (onStream r.body calStop) s

/-- The computed pulse weight of R93: round_half_up(R × 1,000 / N). -/
def computedWeight (reference pulses : Nat) : Nat := roundHalfUp (reference * 1000) pulses

/-- The lower bound of R93. -/
def lowerWeight (g : Nat) : Nat := roundHalfUp (g * 90) 100

/-- The upper bound of R93. -/
def upperWeight (g : Nat) : Nat := min 65535 (roundHalfUp (g * 110) 100)

/-- The new pulse weight of R93. -/
def acceptedWeight (reference pulses g : Nat) : Nat :=
  clampNat (lowerWeight g) (upperWeight g) (computedWeight reference pulses)

/-- The open record with one accepted calibration counted (R93, R166). -/
def OpenShift.countCal (o : OpenShift) : OpenShift := { o with cals := satAdd 65535 o.cals 1 }

/-- The record of a stream, where a CAL_ACCEPT may take it: DONE with pulses counted (R92, checks 4 and 5). -/
def Stream.acceptable (x : Stream) : Option CalRecord :=
  match x.cal with
  | some c => if c.state = .done ∧ c.pulses ≠ 0 then some c else none
  | none => none

/-- The answer body of a CAL_ACCEPT (R93, R176). -/
def calAcceptBytes (i : Fin 8) (reference : Nat) (c : CalRecord) (g : Nat) : List Byte :=
  be8 i.val ++ be32 reference ++ be32 c.pulses ++ be16 g ++ be32 (computedWeight reference c.pulses) ++
    be16 (acceptedWeight reference c.pulses g)

/-- CAL_ACCEPT for a stream (R92, R93). -/
def calAccept (b : List Byte) (i : Fin 8) (s : State) : Reply :=
  if !within 1 100000 (u32 b 1) then .refuse .range
  else if (s.stream i).state = .tripped then .refuse .wrongState
  else match (s.stream i).acceptable with
    | none => .refuse .wrongState
    | some c =>
      .take
        (State.modShift OpenShift.countCal
          (s.modStream i fun x =>
            { x with
              plan := { x.plan with pulseWeight := acceptedWeight (u32 b 1) c.pulses x.plan.pulseWeight }
              cal := none }))
        (if acceptedWeight (u32 b 1) c.pulses (s.stream i).plan.pulseWeight = computedWeight (u32 b 1) c.pulses
          then .ok else .okClamped)
        (calAcceptBytes i (u32 b 1) c (s.stream i).plan.pulseWeight)

/-- CAL_ACCEPT on a link. -/
def execCalAccept (r : Request) (s : State) : Result :=
  takeRequest Cmd.calAccept r (onStream r.body (calAccept r.body)) s

/-- CAL_DISCARD for a stream (R94). -/
def calDiscard (i : Fin 8) (s : State) : Reply :=
  match (s.stream i).cal with
  | none => .refuse .wrongState
  | some c =>
    if c.state = .opened then .refuse .wrongState
    else .done (s.modStream i fun x => { x with cal := none }) (be8 i.val ++ be8 (calStateByte c.state))

/-- CAL_DISCARD on a link. -/
def execCalDiscard (r : Request) (s : State) : Result :=
  takeRequest Cmd.calDiscard r (onStream r.body calDiscard) s

/-- CAL_WINDOW_TIMEOUT (R90): an OPEN record reaches 3,600,000 ms and is latched DONE, CAL is set, the stream returns to
FIRING. Without an OPEN record there is no timeout (log entry 3). -/
def execCalWindowTimeout (i : Fin 8) (s : State) : Result :=
  match (s.stream i).cal with
  | some c =>
    if c.state = .opened then
      .next (State.setFactors (calIf true)
        (s.modStream i fun x =>
          { x with
            state := if x.state = .calib then .firing else x.state
            cal := some { c with state := .done, elapsed := 3600000 } }))
    else .next s
  | none => .next s

/-- The bytes of the six record fields, zeros where the record is absent (R177). -/
def calRecordBytes : Option CalRecord → List Byte
  | some c => c.start.bytes ++ be16 c.frozen ++ be16 c.startWeight ++ be32 c.pulses ++ be32 c.elapsed
  | none => List.replicate 17 0x00#8

/-- The four bytes of a window entry; zeros beyond the ring's length (R177). -/
def windowBytes (ring : List WindowEntry) (k : Fin 8) : List Byte :=
  match ring[k.val]? with
  | some e => be16 e.pulses ++ be16 e.output
  | none => be32 0

/-- The calibration readout of 55 bytes (R95, R177). -/
def calReadout (x : Stream) : List Byte :=
  be8 (calOptByte x.cal + 16 * x.retCounter + bit 7 x.devCond) ++ calRecordBytes x.cal ++ be16 x.plan.pulseWeight ++
  be8 (16 * x.fill + x.ring.length) ++ be8 x.devCounter ++ be8 x.noFlowCounter ++ all8.flatMap (windowBytes x.ring)

/-- READ_CAL for a stream (R95). -/
def readCal (i : Fin 8) (s : State) : Reply := .done s (calReadout (s.stream i))

/-- READ_CAL on a link. -/
def execReadCal (r : Request) (s : State) : Result := takeRequest Cmd.readCal r (onStream r.body readCal) s

end Sys2Proof.Machine
end

