-- ==== Sys2Proof/Machine/Heat.lean ====
section
/-! DEFINITION. The Dosing Engine (04_heat_allocation.md): its commands, and the dosing computation of one site. -/

namespace Sys2Proof.Machine

/-! ### Commands -/

/-- A site record under a SET_DEMAND taken: the demand clamped at 200,000 kW and the effective demand recomputed from
the present largest cut (R63, R64). -/
def SiteRec.takeDemand (d : Nat) (x : SiteRec) : SiteRec := { x with demand := min d 200000 }.recompute

/-- SET_DEMAND (R63). -/
def setDemand (b : List Byte) (s : State) : Reply :=
  match siteOf (u8 b 0) with
  | none => .refuse .range
  | some x =>
    .take (s.modSite x (SiteRec.takeDemand (u32 b 1))) (if 200000 < u32 b 1 then .okClamped else .ok)
      (be8 (siteByte x) ++ be24 (min (u32 b 1) 200000) ++
        be24 ((s.siteRec x).takeDemand (u32 b 1)).effective)

/-- SET_DEMAND on a link. -/
def execSetDemand (r : Request) (s : State) : Result := takeRequest Cmd.setDemand r (setDemand r.body) s

/-- Every stream is OFF or READY (R62, check 2). -/
def State.allOffOrReady (s : State) : Bool := s.streams.toList.all fun x => x.state == .off || x.state == .ready

/-- SET_PERIOD (R62): the period is stored; the timer period in progress keeps its remaining time. -/
def setPeriod (b : List Byte) (s : State) : Reply :=
  match periodOf (u8 b 0) with
  | none => .refuse .range
  | some p => if s.allOffOrReady then .done { s with period := p } (be8 (periodByte p)) else .refuse .wrongState

/-- SET_PERIOD on a link. -/
def execSetPeriod (r : Request) (s : State) : Result := takeRequest Cmd.setPeriod r (setPeriod r.body) s

/-- An offer place in a readout: its percentage, or 0xFF absent (R177). -/
def offerByte (v : Option Nat) : List Byte := be8 (v.getD 0xFF)

/-- The four bytes of a stream in the site readout (R75, R177): role byte with bit 7 for membership, and the heat. -/
def partBytes : Option RoleHeat → List Byte
  | some p => be8 (bit 7 true + roleHeatByte p.role) ++ beS24 p.heat
  | none => be8 0 ++ beS24 0

/-- The site readout of 56 bytes (R75, R177). -/
def siteReadout (x : Site) (s : State) : List Byte :=
  be8 (siteByte x) ++ be24 (s.siteRec x).demand ++ be24 (s.siteRec x).effective ++
  offerByte (s.siteRec x).setOffers[0] ++ offerByte (s.siteRec x).setOffers[1] ++
  offerByte (s.siteRec x).setOffers[2] ++ offerByte (s.siteRec x).setOffers[3] ++
  offerByte (s.siteRec x).holdbackOffer ++ be8 (s.siteRec x).largest ++
  be8 (bit 0 (s.siteRec x).capActive + bit 1 (s.siteRec x).unplacedCond + 16 * periodByte s.period) ++
  beS24 (s.siteRec x).unplaced ++ be8 (s.siteRec x).unplacedCount ++ be16 (s.siteRec x).compCount ++
  be8 (s.siteRec x).record.passes ++ beS24 (s.siteRec x).record.lastM ++
  (s.siteRec x).record.parts.toList.flatMap partBytes

/-- READ_SITE (R75). -/
def readSite (b : List Byte) (s : State) : Reply :=
  match siteOf (u8 b 0) with
  | none => .refuse .range
  | some x => .done s (siteReadout x s)

/-- READ_SITE on a link. -/
def execReadSite (r : Request) (s : State) : Result := takeRequest Cmd.readSite r (readSite r.body) s

/-! ### The dosing computation (R65 to R72) -/

/-- The NCV that the heat arithmetic uses: the stream's, or a free value where it is absent (log entry 8). -/
def Plan.heatNcv (p : Plan) : Nat := p.ncv.getD Config.absentNcv

/-- The heat of a fixed stream, in kW (R66). -/
def heatOf (output ncv : Nat) : Nat := roundHalfUp (output * ncv) 3600

/-- The mass of a share, in kg/h (R67, step 6). -/
def massOf (heat : Int) (ncv : Nat) : Int := roundHalfUpInt (heat * 3600) ncv

/-- A stream's part in one computation: what the computation reads of it, and its role, heat and mass so far. -/
structure Share where
  idx : Fin 8
  ncv : Nat
  weight : Nat
  rank : Nat
  min : Nat
  max : Nat
  role : Role
  heat : Int
  mass : Int
deriving DecidableEq, Repr

/-- A STOPPING stream lowered by its ramp, to READY where that leaves 0 (R46, R65). A no-flow report made while it was
FIRING or HELD finds it out of both, and so has no effect any more (R54, log entry 4). -/
def Stream.lowered (x : Stream) : Stream :=
  if x.state = .stopping then
    if x.output ≤ x.limits.ramp then
      { x with state := .ready, output := 0, planned := 0, rate := 0, noFlowDue := false }
    else x.withOutput (x.output - x.limits.ramp)
  else x

/-- The streams of a site with the STOPPING ones lowered; the streams of the other site as they are (R65). -/
def lowerStreams (x : Site) (v : Vector Stream 8) : Vector Stream 8 :=
  mapStreams (fun _ st => if st.limits.site = x then st.lowered else st) v

/-- The part that a stream takes at the opening of a computation (R65): none for OFF, READY and TRIPPED. -/
def Stream.share (i : Fin 8) (x : Stream) : Option Share :=
  match x.state with
  | .off | .ready | .tripped => none
  | .firing => some ⟨i, x.plan.heatNcv, x.plan.weight, x.plan.rank, x.limits.min, x.limits.max, .unfixed, 0, 0⟩
  | .lighting | .held | .calib | .stopping =>
    some ⟨i, x.plan.heatNcv, x.plan.weight, x.plan.rank, x.limits.min, x.limits.max, .fixedStart,
      heatOf x.output x.plan.heatNcv, x.output⟩

/-- The parts of the streams of a site, in stream order (R65). -/
def openShares (x : Site) (v : Vector Stream 8) : List Share :=
  all8.filterMap fun i => if v[i].limits.site = x then v[i].share i else none

/-- A part is still UNFIXED. -/
def Share.unfixed (p : Share) : Bool := p.role == .unfixed

/-- The remaining heat M (R67, step 1). -/
def remainingHeat (e : Nat) (l : List Share) : Int := e - ((l.filter fun p => !p.unfixed).map Share.heat).sum

/-- The sum W of the weights of the UNFIXED streams (R67, step 3). -/
def weightSum (l : List Share) : Nat := ((l.filter Share.unfixed).map Share.weight).sum

/-- The floor of the share of a weight w in M (R67, step 5): toward minus infinity, W being positive. -/
def floorShare (m : Int) (w total : Nat) : Int := (m * w) / (total : Int)

/-- The better receiver of the remainder: the lower rank number, ties to the lower stream number (R67, step 5). -/
def betterRank (a b : Share) : Share := if b.rank < a.rank then b else a

/-- The receiver of the remainder: among all UNFIXED streams, in stream order, the first of the lowest rank number. -/
def receiver (l : List Share) : Option (Fin 8) :=
  match l.filter Share.unfixed with
  | [] => none
  | p :: rest => some (rest.foldl betterRank p).idx

/-- The remainder M minus the sum of the floored shares (R67, step 5). -/
def remainder (m : Int) (l : List Share) : Int :=
  m - ((l.filter Share.unfixed).map fun p => floorShare m p.weight (weightSum l)).sum

/-- The share H of an UNFIXED stream, remainder included (R67, step 5). -/
def shareHeat (m : Int) (l : List Share) (p : Share) : Int :=
  floorShare m p.weight (weightSum l) + if receiver l = some p.idx then remainder m l else 0

/-- Every UNFIXED stream with its share and the mass of it (R67, steps 5 and 6). -/
def giveShares (m : Int) (l : List Share) : List Share :=
  l.map fun p =>
    if p.unfixed then { p with heat := shareHeat m l p, mass := massOf (shareHeat m l p) p.ncv } else p

/-- A part fixed at its max flow (R66, R67). -/
def Share.fixMax (p : Share) : Share := { p with role := .fixedMax, heat := heatOf p.max p.ncv, mass := p.max }

/-- A part fixed at its min flow (R66, R67). -/
def Share.fixMin (p : Share) : Share := { p with role := .fixedMin, heat := heatOf p.min p.ncv, mass := p.min }

/-- An UNFIXED stream whose mass is above its max flow (R67, step 7). -/
def Share.above (p : Share) : Bool := p.unfixed && (p.max : Int) < p.mass

/-- An UNFIXED stream whose mass is below its min flow (R67, step 8). -/
def Share.below (p : Share) : Bool := p.unfixed && p.mass < (p.min : Int)

/-- What a computation ends with: the parts, the number of passes, the M of the last pass, and whether that pass was
final (R67, step 9) or found no UNFIXED stream (step 2). -/
structure Allocation where
  parts : List Share
  passes : Nat
  lastM : Int
  final : Bool
deriving DecidableEq, Repr

/-- The passes of a computation (R67), `k` of them already made, at most `fuel` more. A pass that does not end the
computation fixes at least one stream, so one more than the number of parts always suffices. -/
def runPasses (e : Nat) : Nat → Nat → List Share → Allocation
  | 0, k, l => ⟨l, k, remainingHeat e l, false⟩
  | fuel + 1, k, l =>
    if l.all fun p => !p.unfixed then ⟨l, k + 1, remainingHeat e l, false⟩
    else if weightSum l = 0 then
      runPasses e fuel (k + 1) (l.map fun p => if p.unfixed then p.fixMin else p)
    else if (giveShares (remainingHeat e l) l).any Share.above then
      runPasses e fuel (k + 1) ((giveShares (remainingHeat e l) l).map fun p => if p.above then p.fixMax else p)
    else if (giveShares (remainingHeat e l) l).any Share.below then
      runPasses e fuel (k + 1) ((giveShares (remainingHeat e l) l).map fun p => if p.below then p.fixMin else p)
    else ⟨giveShares (remainingHeat e l) l, k + 1, remainingHeat e l, true⟩

/-- The allocation of a heat e among the parts (R67). -/
def allocate (e : Nat) (l : List Share) : Allocation := runPasses e (l.length + 1) 0 l

/-- The part of a stream in an allocation. -/
def Allocation.part (a : Allocation) (i : Fin 8) : Option Share := a.parts.find? fun p => p.idx == i

/-- The output step of a FIRING stream: toward the planned setpoint by at most the ramp, then clamped into the limits
(R69). -/
def ramped (x : Limits) (output planned : Nat) : Nat := clampNat x.min x.max (moveToward output planned x.ramp)

/-- A stream under the results of a computation (R68, R69): the planned setpoint of its part, and for a stream that was
FIRING the ramped output and its rate. -/
def Stream.dosed (p : Option Share) (x : Stream) : Stream :=
  match p with
  | none => x
  | some p =>
    if x.state = .firing then
      { x with planned := p.mass.toNat }.withOutput (ramped x.limits x.output p.mass.toNat)
    else { x with planned := p.mass.toNat }

/-- What the record holds for a stream of the site: its role and heat at the end, NONE and 0 without a part (R68). -/
def recordPart (p : Option Share) : RoleHeat :=
  match p with
  | some p => ⟨p.role, p.heat⟩
  | none => ⟨.none, 0⟩

/-- The record of a computation (R68): one part for each stream of the site. -/
def recordOf (x : Site) (v : Vector Stream 8) (a : Allocation) : CompRecord where
  passes := a.passes
  lastM := a.lastM
  parts :=
    #v[if v[0].limits.site = x then some (recordPart (a.part 0)) else none,
       if v[1].limits.site = x then some (recordPart (a.part 1)) else none,
       if v[2].limits.site = x then some (recordPart (a.part 2)) else none,
       if v[3].limits.site = x then some (recordPart (a.part 3)) else none,
       if v[4].limits.site = x then some (recordPart (a.part 4)) else none,
       if v[5].limits.site = x then some (recordPart (a.part 5)) else none,
       if v[6].limits.site = x then some (recordPart (a.part 6)) else none,
       if v[7].limits.site = x then some (recordPart (a.part 7)) else none]

/-- The unplaced heat that an allocation leaves (R68). -/
def Allocation.unplaced (a : Allocation) : Int := if a.final then 0 else a.lastM

/-- At least one stream of the site is FIRING. -/
def siteFiring (x : Site) (v : Vector Stream 8) : Bool :=
  v.toList.any fun st => st.limits.site == x && st.state == .firing

/-- The unplaced count after a computation (R72). -/
def nextUnplacedCount (firing : Bool) (unplaced : Int) (count : Nat) : Nat :=
  if firing ∧ unplaced ≠ 0 then satAdd 10 count 1 else 0

/-- A site record under the results of a computation (R61, R68, R72): the count advanced modulo 65,536, unplaced heat,
record, unplaced count, and the SITE_UNPLACED condition, raised when the count becomes 10. -/
def SiteRec.dosed (firing : Bool) (record : CompRecord) (unplaced : Int) (x : SiteRec) : SiteRec :=
  { x with
    compCount := (x.compCount + 1) % 65536
    unplaced := unplaced
    record := record
    unplacedCount := nextUnplacedCount firing unplaced x.unplacedCount
    unplacedCond :=
      if firing ∧ unplaced ≠ 0 then x.unplacedCond || nextUnplacedCount firing unplaced x.unplacedCount == 10
      else false }

/-- The raise of SITE_UNPLACED at P2, detail SHORT or SURPLUS by the sign of the unplaced heat (R72). -/
def unplacedRaise (x : Site) (unplaced : Int) : Raise :=
  ⟨.siteUnplaced x, .p2, some (if 0 < unplaced then .short else .surplus)⟩

/-- The report of the SITE_UNPLACED condition to the AU: a raise where it came on, a clear where it went off (R72). -/
def reportUnplaced (x : Site) (before after : Bool) (unplaced : Int) (s : State) : State :=
  if !before && after then raiseAlarm (unplacedRaise x unplaced) s
  else if before && !after then clearAlarm (.siteUnplaced x) s
  else s

/-- The allocation of a site in a state whose STOPPING streams have been lowered. -/
def State.allocation (x : Site) (s : State) : Allocation :=
  allocate (s.siteRec x).effective (openShares x s.streams)

/-- Writes the results of an allocation: the streams' setpoints and outputs, and the site record (R68, R69, R72). -/
def writeResults (x : Site) (a : Allocation) (s : State) : State :=
  State.modSite x (SiteRec.dosed (siteFiring x s.streams) (recordOf x s.streams a) a.unplaced)
    { s with streams := mapStreams (fun i st => if st.limits.site = x then st.dosed (a.part i) else st) s.streams }

/-- The computation of a site whose STOPPING streams have been lowered (R66 to R72). -/
def computeSite (x : Site) (s : State) : State :=
  reportUnplaced x (s.siteRec x).unplacedCond
    ((writeResults x (s.allocation x) s).siteRec x).unplacedCond (s.allocation x).unplaced
    (writeResults x (s.allocation x) s)

/-- One dosing computation of a site, taken whole (R61, R65 to R72). -/
def dose (x : Site) (s : State) : State := computeSite x { s with streams := lowerStreams x s.streams }

end Sys2Proof.Machine
end

