-- ==== Sys2Proof/Machine/Dosing.lean ====
section
/-! DEFINITION. The expiry of the dosing period timer, which the FMU and the DE share (R61, R78). -/

namespace Sys2Proof.Machine

/-- DOSING_PERIOD_EXPIRY (R61, R78): the timer restarts with the period stored, the FMU's eight period closes read the
outputs that stood over the period just ended, and then one dosing computation is taken for MAIN and one for CALC (log
entry 5). -/
def execDosingPeriodExpiry (s : State) : Result :=
  .next (dose .calc (dose .main (periodCloses { s with dosingTimer := s.period.ms })))

end Sys2Proof.Machine
end

