-- ==== Sys2Proof/Machine/LinkCommands.lean ====
section
/-! DEFINITION. The commands and events of the link units (01_links_and_commands.md): resets, bad frames, NOP, STATUS,
the attention commands and LINK_RESET. -/

namespace Sys2Proof.Machine

/-- POWER_ON_RESET (R15): every block and every link unit at its reset values, cause POWER, a RESET answer pending on
each link. The arguments are the whole bytes already shifted in transfers in progress. -/
def execPowerOnReset (proc safe desk : Option Nat) (s : State) : Result :=
  .next (resetAll .power proc safe desk s)

/-- FRAME_ERR (R2, R6): a transfer whose bytes fail the frame checks is answered FRAME_ERR, echoing the first byte or
0x00, with no effect on any block and no SAFE link activity. -/
def execFrameErr (l : Link) (bytes : List Byte) (s : State) : Result :=
  if (parseFrame bytes).isSome then .refused .notThisRow
  else if (s.link l).abandoned.isSome then .next (endAbandoned l bytes.length s)
  else .next (giveAnswer l (bytes.getD 0 0x00#8) .frameErr [] (shiftOut l bytes.length s))

/-- UNKNOWN_CMD (R7, check 1): a good frame whose command code names no command. -/
def execUnknownCmd (code : Byte) (r : Request) (s : State) : Result :=
  if 60 < r.body.length ∨ knownCode code then .refused .notThisRow
  else if (s.link r.link).abandoned.isSome then .next (endAbandoned r.link (wireLength r) s)
  else .next (giveAnswer r.link code .unknownCmd [] (openRequest r s))

/-- NOP (R7): no effect, OK, empty body. -/
def nop (s : State) : Reply := .done s []

/-- NOP on a link. -/
def execNop (r : Request) (s : State) : Result := takeRequest Cmd.nop r nop s

/-- STATUS (R13): the reset cause, the link's reset-seen flag as it stood, its mask; then the flag is cleared. -/
def status (l : Link) (s : State) : Reply :=
  .done (s.modLink l fun u => { u with resetSeen := false })
    (be8 (resetCauseByte s.resetCause) ++ be8 (flagByte (s.link l).resetSeen) ++ be8 (s.link l).mask.byte)

/-- STATUS on a link. -/
def execStatus (r : Request) (s : State) : Result := takeRequest Cmd.status r (status r.link) s

/-- ATTN_MASK (R11): writes the requesting link's four enables. -/
def attnMask (l : Link) (body : List Byte) (s : State) : Reply :=
  .done (s.modLink l fun u => { u with mask := Factors.ofByte (body.getD 0 0) }) []

/-- ATTN_MASK on a link. -/
def execAttnMask (r : Request) (s : State) : Result := takeRequest Cmd.attnMask r (attnMask r.link r.body) s

/-- ATTN_CLEAR (R12): clears exactly the named factors of the requesting link. -/
def attnClear (l : Link) (body : List Byte) (s : State) : Reply :=
  .done (s.modLink l fun u => { u with factors := u.factors.without (Factors.ofByte (body.getD 0 0)) }) []

/-- ATTN_CLEAR on a link. -/
def execAttnClear (r : Request) (s : State) : Result := takeRequest Cmd.attnClear r (attnClear r.link r.body) s

/-- LINK_RESET (R14): clears the link's factors, disables its mask and sets its reset-seen flag. -/
def linkReset (l : Link) (s : State) : Reply :=
  .done (s.modLink l fun u => { u with factors := Factors.clear, mask := Factors.clear, resetSeen := true }) []

/-- LINK_RESET on a link. -/
def execLinkReset (r : Request) (s : State) : Result := takeRequest Cmd.linkReset r (linkReset r.link) s

/-- Every stream is OFF or TRIPPED (R16). -/
def State.allOffOrTripped (s : State) : Bool :=
  s.streams.toList.all fun x => x.state == .off || x.state == .tripped

/-- FULL_RESET (R16): refused WRONG_STATE unless every stream is OFF or TRIPPED; otherwise the effect of power-on reset
with cause COMMAND, its own answer the RESET answer on SAFE. -/
def fullReset (proc desk : Option Nat) (s : State) : Reply :=
  if s.allOffOrTripped then
    .take (resetAll .command proc none desk s) .resetDone (be8 (resetCauseByte .command))
  else .refuse .wrongState

/-- FULL_RESET on a link, with the bytes already shifted in transfers in progress on PROC and DESK. -/
def execFullReset (r : Request) (proc desk : Option Nat) (s : State) : Result :=
  takeRequest Cmd.fullReset r (fullReset proc desk) s

/-- ABANDONED_TRANSFER (R15): the request bytes are discarded and the RESET answer stays pending. -/
def execAbandonedTransfer (l : Link) (bytes : List Byte) (s : State) : Result :=
  if (s.link l).abandoned.isSome then .next (endAbandoned l bytes.length s)
  else .refused .noTransferAbandoned

end Sys2Proof.Machine
end

