-- ==== Sys2Proof/Machine/Measure.lean ====
section
/-! DEFINITION. The Measurement Store and the Cutback Monitor (06_measurement_words_and_firing_cutback.md). -/

namespace Sys2Proof.Machine

/-! ### Cutback sets (R103 to R110) -/

/-- The condition of a set on a slot value (R103). -/
def CutSet.condition (c : CutSet) (v : Int) : Bool :=
  match c.sense with
  | .above => c.threshold < v
  | .below => v < c.threshold

/-- The release point of a set, formed exactly (R103). -/
def CutSet.releasePoint (c : CutSet) : Int :=
  match c.sense with
  | .above => c.threshold - c.hysteresis
  | .below => c.threshold + c.hysteresis

/-- A value has passed the release point (R108). -/
def CutSet.released (c : CutSet) (v : Int) : Bool :=
  match c.sense with
  | .above => v < c.releasePoint
  | .below => c.releasePoint < v

/-- The raise of CUTBACK at P2, without detail (R107). -/
def cutbackRaise (k : Fin 4) : Raise := ⟨.cutback k, .p2, none⟩

/-- A set entering ACTIVE (R107): timer stopped, CUTBACK raised, its cut offered to each site it names. -/
def activate (k : Fin 4) (s : State) : State :=
  offerCut (s.cutSet k).sites (.set k) (some (s.cutSet k).cut)
    (raiseAlarm (cutbackRaise k) (s.modSet k fun c => { c with state := .active, timer := .stopped }))

/-- The withdrawal of an ACTIVE set: its offer withdrawn from each site it named, its CUTBACK condition cleared, the
set IDLE (R105, step 1; R108). -/
def deactivate (k : Fin 4) (s : State) : State :=
  State.modSet k (fun c => { c with state := .idle, timer := .stopped })
    (clearAlarm (.cutback k) (offerCut (s.cutSet k).sites (.set k) none s))

/-- A set IDLE tested on a fresh value (R106): TIMING with its delay started, or ACTIVE at once with delay 0 s. -/
def testIdle (k : Fin 4) (v : Int) (s : State) : State :=
  if (s.cutSet k).condition v then
    if (s.cutSet k).delay = 0 then activate k s
    else s.modSet k fun c => { c with state := .timing, timer := .running (c.delay * 1000) }
  else s

/-- A frozen delay timer resumes with its remaining time (R106, R109). -/
def DelayTimer.resumed : DelayTimer → DelayTimer
  | .frozen ms => .running ms
  | .running ms => .running ms
  | .stopped => .stopped

/-- A running delay timer freezes with its remaining time (R109). -/
def DelayTimer.froze : DelayTimer → DelayTimer
  | .running ms => .frozen ms
  | .frozen ms => .frozen ms
  | .stopped => .stopped

/-- A fresh value handed to a set that is enabled and watches its slot (R106, R108, R109). -/
def freshValue (v : Int) (k : Fin 4) (s : State) : State :=
  match (s.cutSet k).state with
  | .disabled => s
  | .idle => testIdle k v s
  | .timing =>
    if (s.cutSet k).condition v then s.modSet k fun c => { c with timer := c.timer.resumed }
    else s.modSet k fun c => { c with state := .idle, timer := .stopped }
  | .active => if (s.cutSet k).released v then deactivate k s else s

/-- A set is enabled and watches a slot. -/
def CutSet.watches (c : CutSet) (n : Fin 8) : Bool := c.enable && c.slot == n

/-- A slot's fresh value handed to each watching set, in set order 0 to 3 (R99, step 5). -/
def handFresh (n : Fin 8) (s : State) : State :=
  all4.foldl (fun s k => if (s.cutSet k).watches n then freshValue (s.slot n).value k s else s) s

/-- A slot's change to stale handed to each watching set: a running delay timer freezes (R100, R109). -/
def handStale (n : Fin 8) (s : State) : State :=
  all4.foldl
    (fun s k => if (s.cutSet k).watches n then s.modSet k fun c => { c with timer := c.timer.froze } else s) s

/-! ### Measurement slots (R97 to R102) -/

/-- PUT_MEAS for a slot (R99). -/
def putMeas (b : List Byte) (s : State) : Reply :=
  match index8 (u8 b 0) with
  | none => .refuse .badIndex
  | some n =>
    .take
      (handFresh n
        (if (s.slot n).alarm then clearAlarm (.measStale n) (s.modSlot n fun x =>
            { x with value := clampInt x.low x.high (s16 b 1), timer := some (x.staleTime * 1000), isStale := false,
                     alarm := false })
         else s.modSlot n fun x =>
            { x with value := clampInt x.low x.high (s16 b 1), timer := some (x.staleTime * 1000), isStale := false }))
      (if clampInt (s.slot n).low (s.slot n).high (s16 b 1) = s16 b 1 then .ok else .okClamped)
      (be8 n.val ++ beS16 (clampInt (s.slot n).low (s.slot n).high (s16 b 1)) ++ be8 (flagByte false))

/-- PUT_MEAS on a link. -/
def execPutMeas (r : Request) (s : State) : Result := takeRequest Cmd.putMeas r (putMeas r.body) s

/-- A slot under a SET_MEAS_CONFIG taken: range and stale time replaced, the value clamped into the range (R98). -/
def Slot.configured (low high : Int) (staleTime : Nat) (x : Slot) : Slot :=
  { x with low := low, high := high, staleTime := staleTime, value := clampInt low high x.value }

/-- SET_MEAS_CONFIG (R98). -/
def setMeasConfig (b : List Byte) (s : State) : Reply :=
  match index8 (u8 b 0) with
  | none => .refuse .badIndex
  | some n =>
    if s16 b 3 < s16 b 1 then .refuse .range
    else if !within 2 30 (u8 b 5) then .refuse .range
    else
      .take
        (if clampInt (s16 b 1) (s16 b 3) (s.slot n).value ≠ (s.slot n).value ∧ (s.slot n).isStale = false then
          handFresh n (s.modSlot n (Slot.configured (s16 b 1) (s16 b 3) (u8 b 5)))
         else s.modSlot n (Slot.configured (s16 b 1) (s16 b 3) (u8 b 5)))
        (if clampInt (s16 b 1) (s16 b 3) (s.slot n).value = (s.slot n).value then .ok else .okClamped)
        (be8 n.val ++ beS16 (clampInt (s16 b 1) (s16 b 3) (s.slot n).value))

/-- SET_MEAS_CONFIG on a link. -/
def execSetMeasConfig (r : Request) (s : State) : Result :=
  takeRequest Cmd.setMeasConfig r (setMeasConfig r.body) s

/-- The raise of MEAS_STALE at P3, without detail (R100). -/
def staleRaise (n : Fin 8) : Raise := ⟨.measStale n, .p3, none⟩

/-- STALE_TIMER_EXPIRY (R100): the stale flag set with the value held, the timer stopped, MEAS_STALE raised, and the
change to stale handed to the watching sets. With the timer stopped there is no expiry (log entry 3). -/
def execStaleTimerExpiry (n : Fin 8) (s : State) : Result :=
  if (s.slot n).timer.isSome then
    .next (handStale n (raiseAlarm (staleRaise n)
      (s.modSlot n fun x => { x with isStale := true, timer := none, alarm := true })))
  else .next s

/-- The fields that a SET_CUTBACK body writes, in a set DISABLED or IDLE by its enable, or none where an encoding names
no value or a field is out of range (R105, check 3; steps 2 to 4). -/
def cutSetOf (b : List Byte) (slot : Fin 8) : Option CutSet :=
  match onOffOf (u8 b 1), cutSenseOf (u8 b 3), cutSitesOf (u8 b 9) with
  | some enable, some sense, some sites =>
    if u16 b 6 ≤ 10000 && u8 b 8 ≤ 60 && u8 b 10 ≤ 50 then
      some
        { enable := enable, slot := slot, sense := sense, threshold := s16 b 4, hysteresis := u16 b 6, delay := u8 b 8,
          sites := sites, cut := u8 b 10, state := if enable then .idle else .disabled, timer := .stopped }
    else none
  | _, _, _ => none

/-- A set rewritten whole (R105): an ACTIVE set withdrawn first, the fields and state replaced, and an enabled set
tested on its slot's present value where that slot is fresh. -/
def rewriteSet (k : Fin 4) (c : CutSet) (s : State) : State :=
  let s1 := if (s.cutSet k).state = .active then deactivate k s else s
  let s2 := s1.modSet k fun _ => c
  if c.enable ∧ (s.slot c.slot).isStale = false then testIdle k (s.slot c.slot).value s2 else s2

/-- SET_CUTBACK (R105). -/
def setCutback (b : List Byte) (s : State) : Reply :=
  match index4 (u8 b 0), index8 (u8 b 2) with
  | some k, some slot =>
    match cutSetOf b slot with
    | none => .refuse .range
    | some c => .done (rewriteSet k c s) (be8 k.val ++ be8 (setStateByte ((rewriteSet k c s).cutSet k).state))
  | _, _ => .refuse .badIndex

/-- SET_CUTBACK on a link. -/
def execSetCutback (r : Request) (s : State) : Result := takeRequest Cmd.setCutback r (setCutback r.body) s

/-- DELAY_TIMER_EXPIRY (R107): a TIMING set whose running timer runs out becomes ACTIVE. With the timer stopped or frozen
there is no expiry (R109, log entry 3). -/
def execDelayTimerExpiry (k : Fin 4) (s : State) : Result :=
  match (s.cutSet k).state, (s.cutSet k).timer with
  | .timing, .running _ => .next (activate k s)
  | _, _ => .next s

/-- The slot readout of 13 bytes (R102, R177). -/
def slotReadout (n : Fin 8) (s : State) : List Byte :=
  be8 0x00 ++ be8 n.val ++ beS16 (s.slot n).low ++ beS16 (s.slot n).high ++ be8 (s.slot n).staleTime ++
  beS16 (s.slot n).value ++ be8 (bit 0 (s.slot n).isStale + bit 1 (s.slot n).alarm) ++ be16 (timerMs (s.slot n).timer) ++
  be8 (streamSet fun k => (s.slot k).isStale)

/-- The set readout of 19 bytes (R102, R177). -/
def setReadout (k : Fin 4) (s : State) : List Byte :=
  be8 0x01 ++ be8 k.val ++ be8 (flagByte (s.cutSet k).enable) ++ be8 (s.cutSet k).slot.val ++
  be8 (cutSenseByte (s.cutSet k).sense) ++ beS16 (s.cutSet k).threshold ++ be16 (s.cutSet k).hysteresis ++
  be8 (s.cutSet k).delay ++ be8 (cutSitesByte (s.cutSet k).sites) ++ be8 (s.cutSet k).cut ++
  be8 (setStateByte (s.cutSet k).state) ++ be8 (delayTimerByte (s.cutSet k).timer) ++
  be16 (delayTimerMs (s.cutSet k).timer) ++ beS16 (s.slot (s.cutSet k).slot).value ++
  be8 (flagByte (s.slot (s.cutSet k).slot).isStale)

/-- READ_MEAS (R102): the kind first, then the index. -/
def readMeas (b : List Byte) (s : State) : Reply :=
  match u8 b 0 with
  | 0x00 =>
    match index8 (u8 b 1) with
    | some n => .done s (slotReadout n s)
    | none => .refuse .badIndex
  | 0x01 =>
    match index4 (u8 b 1) with
    | some k => .done s (setReadout k s)
    | none => .refuse .badIndex
  | _ => .refuse .range

/-- READ_MEAS on a link. -/
def execReadMeas (r : Request) (s : State) : Result := takeRequest Cmd.readMeas r (readMeas r.body) s

end Sys2Proof.Machine
end

