-- ==== Sys2Proof/Machine/Shift.lean ====
section
/-! DEFINITION. The Shift Accounting Unit (10_shift_accounting.md): the clock, the change times, the close of a shift and
the reading of the books. -/

namespace Sys2Proof.Machine

/-- The last shift number; a shift that carries it cannot be closed (R165). -/
def lastShift : Nat := 4294967295

/-! ### Closing a shift (R167 to R169) -/

/-- A mass total reduced to kg, holding at 281,474,976,710,655 (R167, step 1). -/
def massKg (grams : Nat) : Nat := min 281474976710655 (grams / 1000)

/-- A heat total reduced to MJ (R167, step 1). -/
def heatMj (joules : Nat) : Nat := joules / 1000000

/-- The total heat Q in J (R168). -/
def OpenShift.totalHeat (o : OpenShift) : Nat := o.heat.toList.sum

/-- The specific heat consumption in kJ/kg; absent below 1,000 kg of clinker (R168). -/
def OpenShift.shc (o : OpenShift) : Option Nat :=
  if 1000 ≤ o.clinker then some (min 4294967295 (roundHalfUp o.totalHeat (o.clinker * 1000))) else none

/-- The latched record of a close (R167, steps 1 and 2). -/
def OpenShift.latched (o : OpenShift) (closed : ClockTime) (cause : CloseCause) : ClosedShift where
  number := o.number
  opened := o.opened
  closed := closed
  cause := cause
  mass := o.mass.toList.map massKg
  heat := o.heat.toList.map heatMj
  burnMain := o.burnMain
  burnCalc := o.burnCalc
  strokes := o.strokes
  clinker := o.clinker
  alarmsP1 := o.alarmsP1
  alarmsP2 := o.alarmsP2
  alarmsP3 := o.alarmsP3
  trips := o.trips
  cals := o.cals
  shc := o.shc

/-- The history ring with a record at its tail, the oldest removed where it held 8 (R169). -/
def joinHistory (h : List ClosedShift) (c : ClosedShift) : List ClosedShift :=
  (if 8 ≤ h.length then h.drop (h.length - 7) else h) ++ [c]

/-- The Shift Accounting Unit after a close at its clock (R167, steps 1 to 4). -/
def ShiftUnit.close (u : ShiftUnit) (cause : CloseCause) : ShiftUnit :=
  { u with
    history := joinHistory u.history (u.shift.latched u.clock cause)
    shift := OpenShift.fresh (u.shift.number + 1) u.clock }

/-- The close of the open shift, with SHIFT on all links (R167). -/
def closeOpenShift (cause : CloseCause) (s : State) : State :=
  State.setFactors shiftFactor { s with su := s.su.close cause }

/-- CLOSE_SHIFT (R165, R167): the number closed, the close time, the number opened. -/
def closeShift (s : State) : Reply :=
  if s.su.shift.number = lastShift then .refuse .wrongState
  else .done (closeOpenShift .desk s)
    (be32 s.su.shift.number ++ s.su.clock.bytes ++ be32 (s.su.shift.number + 1))

/-- CLOSE_SHIFT on a link. -/
def execCloseShift (r : Request) (s : State) : Result := takeRequest Cmd.closeShift r closeShift s

/-! ### The shift clock (R162 to R164) -/

/-- The clock one second on (R162, step 2). -/
def ClockTime.advance (t : ClockTime) : ClockTime :=
  if t.second = 86399 then ⟨(t.day + 1) % 65536, 0⟩ else { t with second := t.second + 1 }

/-- Some stream whose site field names a site is FIRING (R162, step 1). -/
def State.siteBurns (s : State) (x : Site) : Bool :=
  s.streams.toList.any fun st => st.limits.site == x && st.state == .firing

/-- The open record with the burning seconds of a clock advance added, saturating (R162, step 1; R166). -/
def OpenShift.burn (atMain atCalc : Bool) (o : OpenShift) : OpenShift :=
  { o with
    burnMain := if atMain then satAdd 4294967295 o.burnMain 1 else o.burnMain
    burnCalc := if atCalc then satAdd 4294967295 o.burnCalc 1 else o.burnCalc }

/-- Steps 1 and 2 of a clock advance at the Shift Accounting Unit, its second timer restarted (R162). -/
def ShiftUnit.tickSecond (atMain atCalc : Bool) (u : ShiftUnit) : ShiftUnit :=
  { u with clock := u.clock.advance, secondTimer := 1000, shift := u.shift.burn atMain atCalc }

/-- The second reached is a change time and the open shift can be closed (R162, step 3). -/
def ShiftUnit.reachesChange (u : ShiftUnit) : Bool :=
  u.changeTimes.contains u.clock.second && decide (u.shift.number < lastShift)

/-- CLOCK_ADVANCE (R162): burning seconds, the clock, and the close of the shift where a change time is reached. -/
def execClockAdvance (s : State) : Result :=
  if (s.su.tickSecond (s.siteBurns .main) (s.siteBurns .calc)).reachesChange then
    .next (closeOpenShift .clock { s with su := s.su.tickSecond (s.siteBurns .main) (s.siteBurns .calc) })
  else .next { s with su := s.su.tickSecond (s.siteBurns .main) (s.siteBurns .calc) }

/-- SET_CLOCK (R163): the clock loaded and the second timer restarted with 1 s. -/
def setClock (b : List Byte) (s : State) : Reply :=
  if 86399 < u24 b 2 then .refuse .range
  else .done { s with su := { s.su with clock := ⟨u16 b 0, u24 b 2⟩, secondTimer := 1000 } }
    (ClockTime.bytes ⟨u16 b 0, u24 b 2⟩)

/-- SET_CLOCK on a link. -/
def execSetClock (r : Request) (s : State) : Result := takeRequest Cmd.setClock r (setClock r.body) s

/-- `n` change times of a body, the first at position `k` (R164). -/
def timesAt (b : List Byte) : Nat → Nat → List Nat
  | 0, _ => []
  | n + 1, k => u32 b k :: timesAt b n (k + 4)

/-- Strictly increasing in the order carried. -/
def increasing : List Nat → Bool
  | a :: b :: rest => a < b && increasing (b :: rest)
  | _ => true

/-- The change times that a SET_SHIFTS body carries, or none where its length differs from what its count calls for, the
count is above 4, a time is above 86,399 or the times do not strictly increase (R164). -/
def changeTimesOf (b : List Byte) : Option (List Nat) :=
  if b.length = 1 + 4 * u8 b 0 ∧ u8 b 0 ≤ 4 ∧ (timesAt b (u8 b 0) 1).all (fun t => t ≤ 86399) ∧
      increasing (timesAt b (u8 b 0) 1) then
    some (timesAt b (u8 b 0) 1)
  else none

/-- A table of change times as a body carries it: the count and the times of 4 bytes each (R164, R176). -/
def changeTimesBytes (l : List Nat) : List Byte := be8 l.length ++ l.flatMap be32

/-- SET_SHIFTS (R164): the table replaced whole. -/
def setShifts (b : List Byte) (s : State) : Reply :=
  match changeTimesOf b with
  | some l => .done { s with su := { s.su with changeTimes := l } } (changeTimesBytes l)
  | none => .refuse .range

/-- SET_SHIFTS on a link. -/
def execSetShifts (r : Request) (s : State) : Result := takeRequest Cmd.setShifts r (setShifts r.body) s

/-! ### Reading the books (R170) -/

/-- The state byte of an open shift part: OPEN, no close cause, no SHC (R177). -/
def openStateByte : List Byte := be8 0

/-- The state byte of a closed shift part: bit 0 CLOSED, bit 1 close cause, bit 2 SHC present (R177). -/
def closedStateByte (c : ClosedShift) : List Byte :=
  be8 (bit 0 true + 2 * closeCauseByte c.cause + bit 2 c.shc.isSome)

/-- The end of every HEADER part: the present open shift number and the shift clock (R170, R177). -/
def headerEnd (u : ShiftUnit) : List Byte := be32 u.shift.number ++ u.clock.bytes

/-- The HEADER part of the open shift, 54 bytes (R170, R177). -/
def openHeader (u : ShiftUnit) : List Byte :=
  be32 u.shift.number ++ openStateByte ++ u.shift.opened.bytes ++ List.replicate 5 0x00#8 ++ be32 u.shift.burnMain ++
  be32 u.shift.burnCalc ++ be32 u.shift.strokes ++ be32 u.shift.clinker ++ be16 u.shift.alarmsP1 ++
  be16 u.shift.alarmsP2 ++ be16 u.shift.alarmsP3 ++ be16 u.shift.trips ++ be16 u.shift.cals ++
  List.replicate 4 0x00#8 ++ headerEnd u

/-- The HEADER part of a closed shift, 54 bytes (R170, R177). -/
def closedHeader (u : ShiftUnit) (c : ClosedShift) : List Byte :=
  be32 c.number ++ closedStateByte c ++ c.opened.bytes ++ c.closed.bytes ++ be32 c.burnMain ++
  be32 c.burnCalc ++ be32 c.strokes ++ be32 c.clinker ++ be16 c.alarmsP1 ++ be16 c.alarmsP2 ++ be16 c.alarmsP3 ++
  be16 c.trips ++ be16 c.cals ++ be32 (c.shc.getD 0) ++ headerEnd u

/-- The mass and heat fields of four streams, 6 bytes each (R177). -/
def feedBytes (mass heat : List Nat) (first : Nat) : List Byte :=
  [first, first + 1, first + 2, first + 3].flatMap fun i => be48 (mass.getD i 0) ++ be48 (heat.getD i 0)

/-- A STREAMS part of the open shift, 53 bytes: the totals reduced as a close would reduce them (R170, R177). -/
def openFeed (u : ShiftUnit) (first : Nat) : List Byte :=
  be32 u.shift.number ++ openStateByte ++
  feedBytes (u.shift.mass.toList.map massKg) (u.shift.heat.toList.map heatMj) first

/-- A STREAMS part of a closed shift, 53 bytes (R170, R177). -/
def closedFeed (c : ClosedShift) (first : Nat) : List Byte :=
  be32 c.number ++ closedStateByte c ++ feedBytes c.mass c.heat first

/-- The record of the history ring with a shift number. -/
def ShiftUnit.closedShift (u : ShiftUnit) (n : Nat) : Option ClosedShift := u.history.find? fun c => c.number == n

/-- A part of a shift: selector 0 the HEADER, 1 STREAMS_0_3, 2 STREAMS_4_7 (R170, R173). -/
def shiftPart (u : ShiftUnit) (selector : Nat) (c : Option ClosedShift) : List Byte :=
  match selector, c with
  | 0, some c => closedHeader u c
  | 0, none => openHeader u
  | k + 1, some c => closedFeed c (4 * k)
  | k + 1, none => openFeed u (4 * k)

/-- READ_SHIFT (R170): the selector is checked before the shift number. -/
def readShift (b : List Byte) (s : State) : Reply :=
  if 2 < u8 b 4 then .refuse .badIndex
  else if u32 b 0 = s.su.shift.number then .done s (shiftPart s.su (u8 b 4) none)
  else match s.su.closedShift (u32 b 0) with
    | some c => .done s (shiftPart s.su (u8 b 4) (some c))
    | none => .refuse .noEntry

/-- READ_SHIFT on a link. -/
def execReadShift (r : Request) (s : State) : Result := takeRequest Cmd.readShift r (readShift r.body) s

end Sys2Proof.Machine
end

