-- ==== Sys2Proof/Machine/Dispatch.lean ====
section
/-! DEFINITION. The effect of each command on everything but the queue: one arm per row of the opcode table. -/

namespace Sys2Proof.Machine

def exec (i : Instr) (s : State) : Host.Outcome State Fault Refusal :=
  match i with
  | .powerOnReset proc safe desk => Sys2Proof.Machine.execPowerOnReset proc safe desk s
  | .frameErr l bytes => Sys2Proof.Machine.execFrameErr l bytes s
  | .unknownCmd code r => Sys2Proof.Machine.execUnknownCmd code r s
  | .nop r => Sys2Proof.Machine.execNop r s
  | .status r => Sys2Proof.Machine.execStatus r s
  | .readStream r => Sys2Proof.Machine.execReadStream r s
  | .readSite r => Sys2Proof.Machine.execReadSite r s
  | .poll r => Sys2Proof.Machine.execPoll r s
  | .listRead r => Sys2Proof.Machine.execListRead r s
  | .readFirstout r => Sys2Proof.Machine.execReadFirstout r s
  | .readShift r => Sys2Proof.Machine.execReadShift r s
  | .readMeas r => Sys2Proof.Machine.execReadMeas r s
  | .readCooler r => Sys2Proof.Machine.execReadCooler r s
  | .readContacts r => Sys2Proof.Machine.execReadContacts r s
  | .readCal r => Sys2Proof.Machine.execReadCal r s
  | .attnMask r => Sys2Proof.Machine.execAttnMask r s
  | .attnClear r => Sys2Proof.Machine.execAttnClear r s
  | .linkReset r => Sys2Proof.Machine.execLinkReset r s
  | .setDemand r => Sys2Proof.Machine.execSetDemand r s
  | .setPlan r => Sys2Proof.Machine.execSetPlan r s
  | .setPeriod r => Sys2Proof.Machine.execSetPeriod r s
  | .light r => Sys2Proof.Machine.execLight r s
  | .hold r => Sys2Proof.Machine.execHold r s
  | .resume r => Sys2Proof.Machine.execResume r s
  | .stop r => Sys2Proof.Machine.execStop r s
  | .calStart r => Sys2Proof.Machine.execCalStart r s
  | .calStop r => Sys2Proof.Machine.execCalStop r s
  | .calAccept r => Sys2Proof.Machine.execCalAccept r s
  | .calDiscard r => Sys2Proof.Machine.execCalDiscard r s
  | .putMeas r => Sys2Proof.Machine.execPutMeas r s
  | .setMeasConfig r => Sys2Proof.Machine.execSetMeasConfig r s
  | .setCutback r => Sys2Proof.Machine.execSetCutback r s
  | .setCooler r => Sys2Proof.Machine.execSetCooler r s
  | .coolerModeManual r => Sys2Proof.Machine.execCoolerModeManual r s
  | .coolerModeAuto r => Sys2Proof.Machine.execCoolerModeAuto r s
  | .setLimits r => Sys2Proof.Machine.execSetLimits r s
  | .setCheck r => Sys2Proof.Machine.execSetCheck r s
  | .grant r => Sys2Proof.Machine.execGrant r s
  | .revoke r => Sys2Proof.Machine.execRevoke r s
  | .flameProven r => Sys2Proof.Machine.execFlameProven r s
  | .flameLost r => Sys2Proof.Machine.execFlameLost r s
  | .release r => Sys2Proof.Machine.execRelease r s
  | .masterTrip r => Sys2Proof.Machine.execMasterTrip r s
  | .setContact r => Sys2Proof.Machine.execSetContact r s
  | .setPoll r => Sys2Proof.Machine.execSetPoll r s
  | .setLinkTimeout r => Sys2Proof.Machine.execSetLinkTimeout r s
  | .fullReset r proc desk => Sys2Proof.Machine.execFullReset r proc desk s
  | .ack r => Sys2Proof.Machine.execAck r s
  | .ackAll r => Sys2Proof.Machine.execAckAll r s
  | .shelve r => Sys2Proof.Machine.execShelve r s
  | .unshelve r => Sys2Proof.Machine.execUnshelve r s
  | .silence r => Sys2Proof.Machine.execSilence r s
  | .firstoutClear r => Sys2Proof.Machine.execFirstoutClear r s
  | .firstoutMode r => Sys2Proof.Machine.execFirstoutMode r s
  | .forceContact r => Sys2Proof.Machine.execForceContact r s
  | .unforce r => Sys2Proof.Machine.execUnforce r s
  | .setClock r => Sys2Proof.Machine.execSetClock r s
  | .setShifts r => Sys2Proof.Machine.execSetShifts r s
  | .closeShift r => Sys2Proof.Machine.execCloseShift r s
  | .massPulse k => Sys2Proof.Machine.execMassPulse k s
  | .strokePulse n => Sys2Proof.Machine.execStrokePulse n s
  | .dosingPeriodExpiry => Sys2Proof.Machine.execDosingPeriodExpiry s
  | .noFlowReport k => Sys2Proof.Machine.execNoFlowReport k s
  | .lightingTimerExpiry k => Sys2Proof.Machine.execLightingTimerExpiry k s
  | .safeLinkTimerExpiry => Sys2Proof.Machine.execSafeLinkTimerExpiry s
  | .calWindowTimeout k => Sys2Proof.Machine.execCalWindowTimeout k s
  | .staleTimerExpiry k => Sys2Proof.Machine.execStaleTimerExpiry k s
  | .delayTimerExpiry k => Sys2Proof.Machine.execDelayTimerExpiry k s
  | .coolerPeriod => Sys2Proof.Machine.execCoolerPeriod s
  | .stallTimerExpiry n => Sys2Proof.Machine.execStallTimerExpiry n s
  | .contactScan levels => Sys2Proof.Machine.execContactScan levels s
  | .shelfExpiry code => Sys2Proof.Machine.execShelfExpiry code s
  | .hornBIntervalExpiry => Sys2Proof.Machine.execHornBIntervalExpiry s
  | .clockAdvance => Sys2Proof.Machine.execClockAdvance s
  | .abandonedTransfer l bytes => Sys2Proof.Machine.execAbandonedTransfer l bytes s

end Sys2Proof.Machine
end

