-- ==== Sys2Proof/Safety.lean ====
section
/-! DEFINITION. What a sound state of the part is: for each block, the relations that the manual says its records keep.
Each is true after reset and kept by every step. Behind them stand the words that the claims share, the arithmetic
of an allocation, and where the fields of each answer and readout lie. -/

namespace Sys2Proof.Machine

/-! ### Alarm Unit -/

/-- A list entry agrees with itself (R140, R141): the condition-active flag fits the state, a shelf time is present
exactly while SHELVED, no P1 entry is SHELVED, and the count is 1 to 255. -/
structure EntrySound (e : Entry) : Prop where
  active : e.state = .activeUnack ∨ e.state = .activeAck → e.active = true
  cleared : e.state = .clearedUnack → e.active = false
  shelf : e.shelf.isSome = true ↔ e.state = .shelved
  shelved : e.state = .shelved → e.priority ≠ .p1
  count : 1 ≤ e.count ∧ e.count ≤ 255

/-- The alarm list holds at most 64 entries, no two with the same code (R141), each sound; the overflow flag stands only
over more than 48 entries (R145); the horns sound as R151 and R152 say, with the interval timer running exactly while
horn B sounds. -/
structure AlarmSound (a : AlarmUnit) : Prop where
  length : a.list.length ≤ 64
  codes : (a.list.map Entry.code).Nodup
  entries : ∀ e ∈ a.list, EntrySound e
  overflow : a.overflow = true → 48 < a.list.length
  hornA : a.hornA = a.wantsA
  hornB : a.hornB.sounding = a.wantsB
  timer : a.hornBTimer.isSome = a.hornB.sounding

/-! ### Streams -/

/-- The limits half lies in its ranges and order (R17, R18). -/
structure LimitsSound (x : Limits) : Prop where
  scale : 1000 ≤ x.scale ∧ x.scale ≤ 60000
  ordered : x.min ≤ x.max ∧ x.max ≤ x.scale

/-- A stream agrees with itself: a cause exactly while TRIPPED (R35), a lighting timer exactly while LIGHTING (R40), an
OPEN calibration record exactly while CALIB (R87), setpoints 0 outside the BURNING states, the output within max flow
and the planned setpoint within the scale (R59, R70), the rate output that of the output setpoint (R70), an NCV present
once the stream has left OFF or its plan is marked (4.3, R25), and a ring of at most 8 entries that the window-fill
count does not exceed (R80, R82). -/
structure StreamSound (x : Stream) : Prop where
  limits : LimitsSound x.limits
  cause : x.cause.isSome = true ↔ x.state = .tripped
  lighting : x.lighting.isSome = true ↔ x.state = .lighting
  calib : x.calOpen = true ↔ x.state = .calib
  resting : x.state.burning = false → x.output = 0 ∧ x.planned = 0
  output : x.output ≤ x.limits.max
  planned : x.planned ≤ x.limits.scale
  rate : x.rate = rateOf x.output x.limits.scale
  ncv : x.planSet = true ∨ x.state ≠ .off → x.plan.ncv.isSome = true
  fill : x.fill ≤ x.ring.length
  ring : x.ring.length ≤ 8

/-- Every stream is sound. -/
def StreamsSound (s : State) : Prop := ∀ i : Fin 8, StreamSound (s.stream i)

/-- The computed check word is the CRC-16 over the stored limits of all eight streams (R28). -/
def WordSound (s : State) : Prop := s.computedWord = checkWord s.streams

/-! ### Sites, slots and cutback sets -/

/-- A slot agrees with itself: its value in its range (R98, R99), its stale timer running exactly while it is fresh, and
the stale alarm condition active only while it is stale (R99, R100). -/
structure SlotSound (x : Slot) : Prop where
  range : x.low ≤ x.value ∧ x.value ≤ x.high
  timer : x.timer.isSome = true ↔ x.isStale = false
  alarm : x.alarm = true → x.isStale = true

/-- Every slot is sound. -/
def SlotsSound (s : State) : Prop := ∀ n : Fin 8, SlotSound (s.slot n)

/-- A cutback set agrees with itself (06, 6.2): DISABLED exactly while its enable is off, a delay timer exactly while
TIMING, a cut of at most 50 %. -/
structure SetSound (c : CutSet) : Prop where
  enable : c.state = .disabled ↔ c.enable = false
  timer : c.timer = .stopped ↔ c.state ≠ .timing
  cut : c.cut ≤ 50

/-- The offer of a set to a site: its cut while it is ACTIVE and names the site (R107, R108). -/
def CutSet.offer (c : CutSet) (x : Site) : Option Nat :=
  if c.state = .active ∧ c.sites.has x = true then some c.cut else none

/-- The offer of the cooler: the holdback cut while holdback is active (R125). -/
def Cooler.offer (c : Cooler) : Option Nat := if c.holdback then some c.settings.holdbackCut else none

/-- A site record agrees with the blocks that offer it cuts: each place holds the present offer of its source, and the
largest cut, the effective demand and the cap-active flag follow from the places and the demand (R64). -/
structure SiteSound (s : State) (x : Site) : Prop where
  sets : ∀ k : Fin 4, (s.siteRec x).setOffers[k] = (s.cutSet k).offer x
  holdback : (s.siteRec x).holdbackOffer = s.cooler.offer
  computed : (s.siteRec x).recompute = s.siteRec x
  demand : (s.siteRec x).demand ≤ 200000

/-- The cutback sets and the two sites are sound. -/
structure CutsSound (s : State) : Prop where
  sets : ∀ k : Fin 4, SetSound (s.cutSet k)
  sites : ∀ x : Site, SiteSound s x

/-! ### Cooler -/

/-- A grate section agrees with itself: its stall timer runs exactly while it drives and is not stalled (R121). -/
structure SectionSound (x : Section) : Prop where
  stall : x.stall.isSome = true ↔ (x.stalled = false ∧ x.output ≠ 0)

/-- The cooler agrees with itself: sound sections, the stall cause from the stalled flags (R123), holdback active exactly
while a cause stands (R125), every output 0 while the stop cause stands (R124), no contact twice in the stop contacts
set, and in MANUAL no pressure cause and, without a stop cause, the manual rates at the outputs (R115, R119). -/
structure CoolerSound (c : Cooler) : Prop where
  sections : ∀ n : Fin 4, SectionSound c.sections[n]
  stallCause : c.stallCause = c.anyStalled
  holdback : c.holdback = c.anyCause
  stopped : c.stopCause = true → ∀ n : Fin 4, c.sections[n].output = 0
  stops : c.stopContacts.Nodup
  manual : c.mode = .manual →
    c.pressureCause = false ∧ (c.stopCause = false → ∀ n : Fin 4, c.sections[n].output = c.sections[n].manual)

/-! ### Contacts -/

/-- A contact agrees with itself: a mask only under STREAM_INTERLOCK (R133), the CONTACT condition exactly while it is
due (R131, R133), the CONTACT_FORCED condition exactly while forced (R134, R135), a debounce count below the debounce
setting (R130). -/
structure ContactSound (c : Contact) : Prop where
  mask : c.role ≠ .streamInterlock → c.mask = 0
  cond : c.cond = c.due
  forced : c.forcedCond = c.forced
  count : c.count < c.debounce

/-- Every contact is sound, and the stop contacts set holds exactly the contacts that stop the cooler (R124, R133). -/
structure ContactsSound (s : State) : Prop where
  contacts : ∀ k : Fin 24, ContactSound (s.contact k)
  stops : ∀ k : Fin 24, k ∈ s.cooler.stopContacts ↔ (s.contact k).stops = true

/-- No contact is forced that guards a BURNING stream (R39, R132, R134). -/
structure ForcesSound (s : State) : Prop where
  mask : ∀ k : Fin 24, (s.contact k).role ≠ .streamInterlock → (s.contact k).mask = 0
  guards : ∀ (k : Fin 24) (i : Fin 8), (s.contact k).forced = true → (s.contact k).mask.getLsbD i.val = true →
    (s.stream i).state.burning = false

/-! ### Shift books -/

/-- The history ring holds at most 8 records, their numbers are the ones just before the open shift's, and it is empty
only while the open shift is number 1 (R169). -/
structure HistorySound (u : ShiftUnit) : Prop where
  length : u.history.length = min 8 (u.shift.number - 1)
  number : 1 ≤ u.shift.number ∧ u.shift.number ≤ 4294967295
  consecutive :
    u.history.map ClosedShift.number = List.range' (u.shift.number - u.history.length) u.history.length

/-! ### Answers -/

/-- Every pending answer has a body of at most 56 bytes (01, 1.3), and a first-out capture holds the states of eight
streams (R154). -/
structure AnswersSound (s : State) : Prop where
  body : ∀ l : Link, (s.link l).answer.body.length ≤ 56
  states : ∀ c : Capture, s.au.firstOut.captured = some c → c.states.length = 8

/-! ### All together -/

/-- The conditions together. -/
structure Sound (s : State) : Prop where
  answers : AnswersSound s
  alarms : AlarmSound s.au
  streams : StreamsSound s
  word : WordSound s
  slots : SlotsSound s
  cuts : CutsSound s
  cooler : CoolerSound s.cooler
  contacts : ContactsSound s
  forces : ForcesSound s
  history : HistorySound s.su

/-! ### Words that the claims share -/

/-- A request that passes the checks before its command's own: it comes on one of some links, its body has a length, and
no reset abandoned the transfer that carries it (R7, R15). -/
structure Sent (links : List Link) (n : Nat) (r : Request) (s : State) : Prop where
  link : r.link ∈ links
  length : r.body.length = n
  whole : (s.link r.link).abandoned = none

/-- Some contact with role STREAM_INTERLOCK whose mask includes a stream reads away from its normal state (R37). -/
def Interlocked (s : State) (i : Fin 8) : Prop :=
  ∃ k : Fin 24, (s.contact k).role = .streamInterlock ∧ (s.contact k).mask.getLsbD i.val = true ∧
    (s.contact k).reading ≠ (s.contact k).normal

/-- Some contact with role STREAM_INTERLOCK whose mask includes a stream is forced (R39). -/
def GuardForced (s : State) (i : Fin 8) : Prop :=
  ∃ k : Fin 24, (s.contact k).role = .streamInterlock ∧ (s.contact k).mask.getLsbD i.val = true ∧
    (s.contact k).forced = true

/-- A mask of streams includes one that is BURNING (R132, R134). -/
def MasksBurning (s : State) (mask : BitVec 8) : Prop :=
  ∃ i : Fin 8, mask.getLsbD i.val = true ∧ (s.stream i).state.burning = true

/-- Outside the records that a trip or an alarm touches (the streams, the Alarm Unit, the shift books and the link
units), two states agree. -/
def SameBlocks (s t : State) : Prop :=
  t = { s with
    streams := t.streams, au := t.au, su := t.su, procLink := t.procLink, safeLink := t.safeLink, deskLink := t.deskLink }

/-- From `s` to `t` a cause reaches the streams that `p` names in stream order, 0 to 7, and nothing else happens: a
BURNING stream is tripped, each trip whole before the next stream is reached, a READY one enters OFF with no trip, and
an OFF or TRIPPED one is left as it is (R52, R53, R57). -/
def WithdrawnInOrder (c : TripCause) (p : Fin 8 → Prop) (s t : State) : Prop :=
  ∃ w : Nat → State, w 0 = s ∧ w 8 = t ∧ ∀ i : Fin 8,
    (p i → ((w i.val).stream i).state.burning = true → w (i.val + 1) = trip i c (w i.val)) ∧
    (p i → ((w i.val).stream i).state = .ready →
      w (i.val + 1) = (w i.val).modStream i fun x => { x with state := .off }) ∧
    (¬p i ∨ ((w i.val).stream i).state = .off ∨ ((w i.val).stream i).state = .tripped → w (i.val + 1) = w i.val)

/-- From `u` to `v` a reset abandons the transfer in progress on a link, of which `busy` bytes had passed, or finds none
in progress: the bytes that had gone out are those of the pending answer and then fill, or, in a transfer that an earlier
reset had abandoned, those out before it and then fill (R5, R15, log entry 12). -/
def AbandonsTransfer (busy : Option Nat) (u v : LinkUnit) : Prop :=
  (busy = none → v.abandoned = none) ∧
  ∀ n, busy = some n →
    (u.abandoned = none →
      v.abandoned = some (u.answer.bytes.take n ++ List.replicate (n - u.answer.bytes.length) 0x00#8)) ∧
    ∀ out, u.abandoned = some out → v.abandoned = some (out ++ List.replicate (n - out.length) 0x00#8)

/-- From `x` to `y` a section's output is brought to `v`, and its stall timer follows it by R121: on a section not
stalled it stops at 0, starts with 30 s when the output leaves 0, and runs on otherwise; on a stalled one it is left. -/
def DrivenTo (v : Nat) (x y : Section) : Prop :=
  y = { x with
    output := v
    stall :=
      if x.stalled = true then x.stall
      else if v = 0 then none
      else if x.output = 0 then some 30000 else x.stall }

/-- Some entry of a priority is ACTIVE_UNACK or CLEARED_UNACK. -/
def Unacked (p : Priority) (a : AlarmUnit) : Prop :=
  ∃ e ∈ a.list, e.priority = p ∧ (e.state = .activeUnack ∨ e.state = .clearedUnack)

/-- From `a` to `b` the horns follow the list and the silence flag of `b` (R151, R152): horn A sounds exactly on an
unacknowledged P1 entry with the silence flag clear; horn B exactly on a P2 one with horn A silent, starting with an on
half and 1 s when it comes to sound and going on as it was when it sounded before. -/
structure HornsFollow (a b : AlarmUnit) : Prop where
  hornA : b.hornA = true ↔ Unacked .p1 b ∧ b.silence = false
  silent : ¬(Unacked .p2 b ∧ b.silence = false ∧ b.hornA = false) → b.hornB = .silent ∧ b.hornBTimer = none
  starts : Unacked .p2 b → b.silence = false → b.hornA = false → a.hornB = .silent →
    b.hornB = .onHalf ∧ b.hornBTimer = some 1000
  goesOn : Unacked .p2 b → b.silence = false → b.hornA = false → a.hornB ≠ .silent →
    b.hornB = a.hornB ∧ b.hornBTimer = a.hornBTimer

/-! ### The arithmetic of an allocation (R66, R67) -/

/-- The heat of a fixed stream: round half up of output × NCV / 3,600 (R66). -/
def fixedHeat (output ncv : Nat) : Int := (2 * (output * ncv) + 3600) / 7200

/-- The mass of a share: round half up of H × 3,600 / NCV, ties away from zero (R67, step 6). -/
def sharedMass (h : Int) (ncv : Nat) : Int :=
  if 0 ≤ h then Int.fdiv (2 * (h * 3600) + ncv) (2 * ncv) else -Int.fdiv (2 * (-h * 3600) + ncv) (2 * ncv)

/-- The parts that are still UNFIXED. -/
def unfixedOf (l : List Share) : List Share := l.filter fun p => p.role = .unfixed

/-- M × w / W, rounded toward minus infinity, W being the sum of the weights of the UNFIXED parts (R67, steps 3 and 5). -/
def flooredShare (m : Int) (l : List Share) (p : Share) : Int :=
  Int.fdiv (m * p.weight) ((unfixedOf l).map Share.weight).sum

/-- The share H of an UNFIXED part: its floored share, and for the one of the lowest rank number, ties to the lowest
stream number, the remainder besides (R67, step 5). -/
def sharedHeat (m : Int) (l : List Share) (p : Share) : Int :=
  flooredShare m l p +
    if ∀ q ∈ unfixedOf l, p.rank < q.rank ∨ p.rank = q.rank ∧ p.idx ≤ q.idx then
      m - ((unfixedOf l).map (flooredShare m l)).sum
    else 0

/-- The remaining heat M: E less the heats of the fixed parts (R67, step 1). -/
def heatLeft (e : Nat) (l : List Share) : Int := e - ((l.filter fun p => p.role ≠ .unfixed).map Share.heat).sum

/-- The part of stream `i` at the opening of a computation (R65): none in OFF, READY and TRIPPED, UNFIXED in FIRING, and
FIXED_START with the heat of its output in LIGHTING, HELD, CALIB and STOPPING. A burning stream without an NCV counts
with the free value of log entry 8. -/
def openingPart (i : Fin 8) (x : Stream) : Option Share :=
  if x.state = .firing then
    some ⟨i, x.plan.ncv.getD Config.absentNcv, x.plan.weight, x.plan.rank, x.limits.min, x.limits.max, .unfixed, 0, 0⟩
  else if x.state = .lighting ∨ x.state = .held ∨ x.state = .calib ∨ x.state = .stopping then
    some ⟨i, x.plan.ncv.getD Config.absentNcv, x.plan.weight, x.plan.rank, x.limits.min, x.limits.max, .fixedStart,
      fixedHeat x.output (x.plan.ncv.getD Config.absentNcv), x.output⟩
  else none

/-! ### Where the fields of an answer and of a readout lie (R173 to R175, R177)

Each condition says of a readout `b`, byte by byte, which field a position holds; a field wider than its bytes is cut to
them, and a signed one is in two's complement. `Bool.toNat` is 1 for a flag that is set. -/

/-- The unsigned field of six bytes at position `k` of a body. -/
def u48 (b : List Byte) (k : Nat) : Nat := u16 b k * 4294967296 + u32 b (k + 2)

/-- The fields of two, three and four bytes have their high byte first, and a signed one is in two's complement (R173):
what `be16` and its like write, `u16` and its like read. -/
structure FieldsHighFirst : Prop where
  read : ∀ (b : List Byte) (k : Nat),
    u16 b k = 256 * (b.getD k 0).toNat + (b.getD (k + 1) 0).toNat ∧
    u24 b k = 65536 * (b.getD k 0).toNat + 256 * (b.getD (k + 1) 0).toNat + (b.getD (k + 2) 0).toNat ∧
    u32 b k = 16777216 * (b.getD k 0).toNat + 65536 * (b.getD (k + 1) 0).toNat + 256 * (b.getD (k + 2) 0).toNat +
      (b.getD (k + 3) 0).toNat
  written : ∀ v : Nat, u8 (be8 v) 0 = v % 256 ∧ u16 (be16 v) 0 = v % 65536 ∧ u24 (be24 v) 0 = v % 16777216 ∧
    u32 (be32 v) 0 = v % 4294967296
  signed : ∀ v : Int, (u16 (beS16 v) 0 : Int) = v % 65536 ∧ (-32768 ≤ v → v ≤ 32767 → s16 (beS16 v) 0 = v)

/-- The status summary at position `k`, three bytes (R175). -/
structure SummaryLies (m : Summary) (b : List Byte) (k : Nat) : Prop where
  first : u8 b k =
    128 * m.factors.news.toNat + 64 * m.factors.trip.toNat + 32 * m.factors.shift.toNat + 16 * m.factors.cal.toNat +
      8 * m.resetSeen.toNat
  second : u8 b (k + 1) =
    (16 * m.unack + 8 * m.hornA.toNat + 4 * m.hornB.toNat + 2 * m.firstOut.toNat + m.overflow.toNat) % 256
  third : u8 b (k + 2) =
    128 * m.mainCap.toNat + 64 * m.calcCap.toNat + 32 * m.safeHealthy.toNat + 16 * m.holdoff.toNat

/-- The bytes of an answer frame (R174): the answer length, the echoed code, the result code, the summary, the body, and
the CRC-8 over all before it. -/
structure AnswerLies (a : Answer) (b : List Byte) : Prop where
  bytes : b.length = 7 + a.body.length
  length : u8 b 0 = (6 + a.body.length) % 256
  echo : b.getD 1 0 = a.echo
  result : u8 b 2 = resultByte a.result
  summary : SummaryLies a.summary b 3
  body : ∀ k < a.body.length, b.getD (6 + k) 0 = a.body.getD k 0
  crc : b.getD (6 + a.body.length) 0 = crc8 (b.take (6 + a.body.length))

/-- A clock time at position `k`: the day in 2 bytes, then the second of day in 3 (R173). -/
structure TimeLies (t : ClockTime) (b : List Byte) (k : Nat) : Prop where
  day : u16 b k = t.day % 65536
  second : u24 b (k + 2) = t.second % 16777216

/-- An alarm code at position `k`: the kind, then the index (R139, R173). -/
def CodeLies (c : AlarmCode) (b : List Byte) (k : Nat) : Prop :=
  match c with
  | .streamTrip i => u8 b k = 0x01 ∧ u8 b (k + 1) = i.val
  | .streamDeviation i => u8 b k = 0x02 ∧ u8 b (k + 1) = i.val
  | .siteUnplaced x => u8 b k = 0x03 ∧ u8 b (k + 1) = siteByte x
  | .safeLink => u8 b k = 0x04 ∧ u8 b (k + 1) = 0
  | .measStale n => u8 b k = 0x05 ∧ u8 b (k + 1) = n.val
  | .cutback n => u8 b k = 0x06 ∧ u8 b (k + 1) = n.val
  | .sectionStalled n => u8 b k = 0x07 ∧ u8 b (k + 1) = n.val + 1
  | .coolerHoldback => u8 b k = 0x08 ∧ u8 b (k + 1) = 0
  | .contact n => u8 b k = 0x09 ∧ u8 b (k + 1) = n.val
  | .contactForced n => u8 b k = 0x0A ∧ u8 b (k + 1) = n.val

/-- The site readout of READ_SITE. -/
structure SiteLies (x : Site) (s : State) (b : List Byte) : Prop where
  site : u8 b 0 = siteByte x
  demand : u24 b 1 = (s.siteRec x).demand % 16777216
  effective : u24 b 4 = (s.siteRec x).effective % 16777216
  setOffers : ∀ k : Fin 4, u8 b (7 + k.val) = (s.siteRec x).setOffers[k].getD 0xFF % 256
  holdbackOffer : u8 b 11 = (s.siteRec x).holdbackOffer.getD 0xFF % 256
  largest : u8 b 12 = (s.siteRec x).largest % 256
  flags : u8 b 13 =
    (s.siteRec x).capActive.toNat + 2 * (s.siteRec x).unplacedCond.toNat + 16 * periodByte s.period
  unplaced : (u24 b 14 : Int) = (s.siteRec x).unplaced % 16777216
  unplacedCount : u8 b 17 = (s.siteRec x).unplacedCount % 256
  compCount : u16 b 18 = (s.siteRec x).compCount % 65536
  passes : u8 b 20 = (s.siteRec x).record.passes % 256
  lastM : (u24 b 21 : Int) = (s.siteRec x).record.lastM % 16777216
  foreign : ∀ i : Fin 8, (s.siteRec x).record.parts[i] = none →
    u8 b (24 + 4 * i.val) = 0 ∧ u24 b (25 + 4 * i.val) = 0
  own : ∀ (i : Fin 8) (p : RoleHeat), (s.siteRec x).record.parts[i] = some p →
    u8 b (24 + 4 * i.val) = 128 + roleHeatByte p.role ∧ (u24 b (25 + 4 * i.val) : Int) = p.heat % 16777216

/-- The alarm entry of LIST_READ at position `k`, 12 bytes. -/
structure EntryLies (e : Entry) (b : List Byte) (k : Nat) : Prop where
  code : CodeLies e.code b k
  flags : u8 b (k + 2) = 64 * e.priority.num + 16 * entryStateByte e.state + e.active.toNat
  raised : TimeLies e.raised b (k + 3)
  count : u8 b (k + 8) = e.count % 256
  detail : u8 b (k + 9) = detailByte e.detail
  shelf : ∀ ms, e.shelf = some ms → u16 b (k + 10) = (ms + 999) / 1000 % 65536
  noShelf : e.shelf = none → u16 b (k + 10) = 0xFFFF

/-- The body of LIST_READ from a start position: up to 4 entries of the list. -/
structure ListLies (a : AlarmUnit) (start : Nat) (b : List Byte) : Prop where
  length : u8 b 0 = a.list.length % 256
  flags : u8 b 1 = a.overflow.toNat + 2 * a.silence.toNat
  number : u8 b 2 = min 4 (a.list.length - start)
  entries : ∀ (j : Fin 4) (e : Entry), a.list[start + j.val]? = some e → EntryLies e b (3 + 12 * j.val)

/-- The first-out record of READ_FIRSTOUT. -/
structure FirstOutLies (f : FirstOut) (b : List Byte) : Prop where
  state : u8 b 0 = f.captured.isSome.toNat + 2 * firstOutModeByte f.mode
  empty : f.captured = none → ∀ k, 1 ≤ k → u8 b k = 0
  holding : ∀ c, f.captured = some c →
    CodeLies c.code b 1 ∧ u8 b 3 = c.priority.num ∧ u8 b 4 = detailByte c.detail ∧ TimeLies c.time b 5 ∧
    ∀ (i : Fin 8) (x : FiringState), c.states[i.val]? = some x → u8 b (10 + i.val) = firingByte x

/-- The totals of a HEADER part of READ_SHIFT, and the open shift number and the shift clock at its end. -/
structure TotalsLie (u : ShiftUnit) (burnMain burnCalc strokes clinker p1 p2 p3 trips cals : Nat) (b : List Byte) :
    Prop where
  burnMain : u32 b 15 = burnMain % 4294967296
  burnCalc : u32 b 19 = burnCalc % 4294967296
  strokes : u32 b 23 = strokes % 4294967296
  clinker : u32 b 27 = clinker % 4294967296
  alarms : u16 b 31 = p1 % 65536 ∧ u16 b 33 = p2 % 65536 ∧ u16 b 35 = p3 % 65536
  trips : u16 b 37 = trips % 65536
  cals : u16 b 39 = cals % 65536
  openNumber : u32 b 45 = u.shift.number % 4294967296
  clock : TimeLies u.clock b 49

/-- The HEADER part of the open shift: not CLOSED, and zeros for the close time and the SHC. -/
structure OpenHeaderLies (u : ShiftUnit) (b : List Byte) : Prop where
  number : u32 b 0 = u.shift.number % 4294967296
  state : u8 b 4 = 0
  opened : TimeLies u.shift.opened b 5
  closed : TimeLies ⟨0, 0⟩ b 10
  totals : TotalsLie u u.shift.burnMain u.shift.burnCalc u.shift.strokes u.shift.clinker u.shift.alarmsP1
    u.shift.alarmsP2 u.shift.alarmsP3 u.shift.trips u.shift.cals b
  shc : u32 b 41 = 0

/-- The HEADER part of a closed shift. -/
structure ClosedHeaderLies (u : ShiftUnit) (c : ClosedShift) (b : List Byte) : Prop where
  number : u32 b 0 = c.number % 4294967296
  state : u8 b 4 = 1 + 2 * closeCauseByte c.cause + 4 * c.shc.isSome.toNat
  opened : TimeLies c.opened b 5
  closed : TimeLies c.closed b 10
  totals : TotalsLie u c.burnMain c.burnCalc c.strokes c.clinker c.alarmsP1 c.alarmsP2 c.alarmsP3 c.trips c.cals b
  shc : u32 b 41 = c.shc.getD 0 % 4294967296

/-- A STREAMS part of the open shift for four streams from `first` on: mass in kg and heat in MJ, reduced as a close
would reduce them (R167, R170). -/
structure OpenFeedLies (u : ShiftUnit) (first : Nat) (b : List Byte) : Prop where
  number : u32 b 0 = u.shift.number % 4294967296
  state : u8 b 4 = 0
  feed : ∀ (j : Fin 4) (i : Fin 8), i.val = first + j.val →
    u48 b (5 + 12 * j.val) = min 281474976710655 (u.shift.mass[i] / 1000) ∧
    u48 b (11 + 12 * j.val) = u.shift.heat[i] / 1000000 % 281474976710656

/-- A STREAMS part of a closed shift for four streams from `first` on. -/
structure ClosedFeedLies (c : ClosedShift) (first : Nat) (b : List Byte) : Prop where
  number : u32 b 0 = c.number % 4294967296
  state : u8 b 4 = 1 + 2 * closeCauseByte c.cause + 4 * c.shc.isSome.toNat
  feed : ∀ j : Fin 4,
    u48 b (5 + 12 * j.val) = c.mass.getD (first + j.val) 0 % 281474976710656 ∧
    u48 b (11 + 12 * j.val) = c.heat.getD (first + j.val) 0 % 281474976710656

/-- The calibration readout of READ_CAL. -/
structure CalLies (x : Stream) (b : List Byte) : Prop where
  state : u8 b 0 = (calOptByte x.cal + 16 * x.retCounter + 128 * x.devCond.toNat) % 256
  absent : x.cal = none → ∀ k, 1 ≤ k → k ≤ 17 → u8 b k = 0
  record : ∀ c, x.cal = some c →
    TimeLies c.start b 1 ∧ u16 b 6 = c.frozen % 65536 ∧ u16 b 8 = c.startWeight % 65536 ∧
    u32 b 10 = c.pulses % 4294967296 ∧ u32 b 14 = c.elapsed % 4294967296
  weight : u16 b 18 = x.plan.pulseWeight % 65536
  fill : u8 b 20 = (16 * x.fill + x.ring.length) % 256
  devCounter : u8 b 21 = x.devCounter % 256
  noFlowCounter : u8 b 22 = x.noFlowCounter % 256
  ring : ∀ (k : Fin 8) (e : WindowEntry), x.ring[k.val]? = some e →
    u16 b (23 + 4 * k.val) = e.pulses % 65536 ∧ u16 b (25 + 4 * k.val) = e.output % 65536
  beyond : ∀ k : Fin 8, x.ring.length ≤ k.val → u32 b (23 + 4 * k.val) = 0

/-- The SLOT readout of READ_MEAS. -/
structure SlotLies (n : Fin 8) (s : State) (b : List Byte) : Prop where
  kind : u8 b 0 = 0x00 ∧ u8 b 1 = n.val
  low : (u16 b 2 : Int) = (s.slot n).low % 65536
  high : (u16 b 4 : Int) = (s.slot n).high % 65536
  staleTime : u8 b 6 = (s.slot n).staleTime % 256
  value : (u16 b 7 : Int) = (s.slot n).value % 65536
  flags : u8 b 9 = (s.slot n).isStale.toNat + 2 * (s.slot n).alarm.toNat
  timer : u16 b 10 = (s.slot n).timer.getD 0 % 65536
  stales : ∀ m : Fin 8, (u8 b 12).testBit m.val = (s.slot m).isStale

/-- The SET readout of READ_MEAS. -/
structure SetLies (k : Fin 4) (s : State) (b : List Byte) : Prop where
  kind : u8 b 0 = 0x01 ∧ u8 b 1 = k.val
  enable : u8 b 2 = (s.cutSet k).enable.toNat
  slot : u8 b 3 = (s.cutSet k).slot.val
  sense : u8 b 4 = cutSenseByte (s.cutSet k).sense
  threshold : (u16 b 5 : Int) = (s.cutSet k).threshold % 65536
  hysteresis : u16 b 7 = (s.cutSet k).hysteresis % 65536
  delay : u8 b 9 = (s.cutSet k).delay % 256
  sites : u8 b 10 = cutSitesByte (s.cutSet k).sites
  cut : u8 b 11 = (s.cutSet k).cut % 256
  state : u8 b 12 = setStateByte (s.cutSet k).state
  stopped : (s.cutSet k).timer = .stopped → u8 b 13 = 0 ∧ u16 b 14 = 0
  running : ∀ ms, (s.cutSet k).timer = .running ms → u8 b 13 = 1 ∧ u16 b 14 = ms % 65536
  frozen : ∀ ms, (s.cutSet k).timer = .frozen ms → u8 b 13 = 2 ∧ u16 b 14 = ms % 65536
  value : (u16 b 16 : Int) = (s.slot (s.cutSet k).slot).value % 65536
  stale : u8 b 18 = (s.slot (s.cutSet k).slot).isStale.toNat

/-- The GENERAL readout of READ_COOLER. -/
structure GeneralLies (s : State) (b : List Byte) : Prop where
  selector : u8 b 0 = 0x00
  mode : u8 b 1 = coolerModeByte s.cooler.mode
  target : u16 b 2 = s.cooler.settings.target % 65536
  base : u16 b 4 = s.cooler.settings.base % 65536
  gain : u8 b 6 = s.cooler.settings.gain % 256
  holdbackPressure : u16 b 7 = s.cooler.settings.holdbackPressure % 65536
  holdbackTime : u16 b 9 = s.cooler.settings.holdbackTime % 65536
  holdbackCut : u8 b 11 = s.cooler.settings.holdbackCut % 256
  clinkerPerStroke : u16 b 12 = s.cooler.settings.clinkerPerStroke % 65536
  slot : u8 b 14 = s.cooler.settings.slot.val
  value : (u16 b 15 : Int) = (s.slot s.cooler.settings.slot).value % 65536
  flags : u8 b 17 =
    (s.slot s.cooler.settings.slot).isStale.toNat + 2 * s.cooler.pressureCause.toNat +
      4 * s.cooler.stallCause.toNat + 8 * s.cooler.stopCause.toNat + 16 * s.cooler.holdback.toNat
  lastRaw : (u32 b 18 : Int) = s.cooler.lastRaw % 4294967296
  pressureCount : u16 b 22 = s.cooler.pressureCount % 65536
  stops : u8 b 24 = s.cooler.stopContacts.length % 256
  offered : u8 b 25 = (if s.cooler.holdback = true then s.cooler.settings.holdbackCut else 0) % 256
  strokes : u32 b 26 = s.cooler.strokes % 4294967296
  clinker : u32 b 30 = s.cooler.clinker % 4294967296

/-- The 13 bytes of a section at position `k` of the SECTIONS readout. -/
structure SectionLies (ratio : Nat) (x : Section) (b : List Byte) (k : Nat) : Prop where
  smin : u16 b k = x.smin % 65536
  smax : u16 b (k + 2) = x.smax % 65536
  step : u8 b (k + 4) = x.step % 256
  ratio : u8 b (k + 5) = ratio % 256
  manual : u16 b (k + 6) = x.manual % 65536
  output : u16 b (k + 8) = x.output % 65536
  stalled : u8 b (k + 10) = x.stalled.toNat
  stall : u16 b (k + 11) = x.stall.getD 0 % 65536

/-- The SECTIONS readout of READ_COOLER; section 1 has no ratio. -/
structure SectionsLie (c : Cooler) (b : List Byte) : Prop where
  selector : u8 b 0 = 0x01
  first : SectionLies 0 c.sections[0] b 1
  second : SectionLies c.ratios[0] c.sections[1] b 14
  third : SectionLies c.ratios[1] c.sections[2] b 27
  fourth : SectionLies c.ratios[2] c.sections[3] b 40

/-- The contact readout of READ_CONTACTS. -/
structure ContactLies (k : Fin 24) (s : State) (b : List Byte) : Prop where
  contact : u8 b 0 = k.val
  role : u8 b 1 = roleByte (s.contact k).role
  normal : u8 b 2 = levelByte (s.contact k).normal
  priority : u8 b 3 = (s.contact k).priority.num
  mask : u8 b 4 = (s.contact k).mask.toNat
  debounce : u8 b 5 = (s.contact k).debounce % 256
  slow : u8 b 6 = (s.contact k).slow.toNat
  state : u8 b 7 =
    levelByte (s.contact k).accepted + 2 * levelByte (s.contact k).reading + 4 * (s.contact k).forced.toNat +
      8 * (s.contact k).cond.toNat + 16 * (s.contact k).forcedCond.toNat
  count : u8 b 8 = (s.contact k).count % 256
  accepted : ∀ j : Fin 24, (u24 b 9).testBit j.val = ((s.contact j).accepted == .closed)
  abnormal : ∀ j : Fin 24, (u24 b 12).testBit j.val = ((s.contact j).reading != (s.contact j).normal)
  forced : ∀ j : Fin 24, (u24 b 15).testBit j.val = (s.contact j).forced

/-- The encodings of the enumerated values (R173, R174, R177), each in the order of its table, and the byte of four
factors (R175). -/
structure EncodingsListed : Prop where
  result : [ResultCode.ok, .okClamped, .frameErr, .unknownCmd, .notOwner, .badIndex, .range, .wrongState, .notArmed,
    .checkMismatch, .interlock, .forced, .heldOff, .tooLate, .noEntry, .resetDone].map resultByte =
    [0x00, 0x01, 0x10, 0x11, 0x12, 0x20, 0x21, 0x22, 0x30, 0x31, 0x32, 0x33, 0x34, 0x35, 0x40, 0x50]
  factors : ∀ f : Factors, f.byte = 8 * f.news.toNat + 4 * f.trip.toNat + 2 * f.shift.toNat + f.cal.toNat
  resetCause : [ResetCause.power, .command].map resetCauseByte = [0, 1]
  code : ∀ c : AlarmCode, (codeBytes c).length = 2 ∧ CodeLies c (codeBytes c) 0
  cooler : ∀ c : Cooler, (coolerBytes c).length = 9 ∧ u8 (coolerBytes c) 0 = coolerModeByte c.mode ∧
    ∀ n : Fin 4, u16 (coolerBytes c) (1 + 2 * n.val) = c.sections[n].output % 65536
  site : [Site.main, .calc].map siteByte = [0, 1]
  holdoff : [Holdoff.none, .flame, .all].map holdoffByte = [0, 1, 2]
  firing : [FiringState.off, .ready, .lighting, .firing, .held, .calib, .stopping, .tripped].map firingByte =
    [0, 1, 2, 3, 4, 5, 6, 7]
  cause : [none, some TripCause.flameLost, some .lightFail, some .noFlow, some .interlock, some .revoke, some .linkLoss,
    some .master].map causeOptByte = [0, 1, 2, 3, 4, 5, 6, 7]
  detail : [none, some (Detail.cause .flameLost), some (.cause .lightFail), some (.cause .noFlow),
    some (.cause .interlock), some (.cause .revoke), some (.cause .linkLoss), some (.cause .master), some .short,
    some .surplus].map detailByte = [0, 1, 2, 3, 4, 5, 6, 7, 8, 9]
  period : [Period.ms250, .ms500, .ms1000, .ms2000].map periodByte = [0, 1, 2, 3]
  calState : [CalState.opened, .short, .done, .aborted].map calStateByte = [1, 2, 3, 4]
  calRecord : calOptByte none = 0 ∧ ∀ c, calOptByte (some c) = calStateByte c.state
  pollLine : pollLineByte none = 0xFF ∧ ∀ k, pollLineByte (some k) = k.val
  priority : [Priority.p1, .p2, .p3].map Priority.num = [1, 2, 3]
  entry : [EntryState.activeUnack, .activeAck, .clearedUnack, .shelved].map entryStateByte = [0, 1, 2, 3]
  cutSense : [CutSense.above, .below].map cutSenseByte = [0, 1]
  cutSites : [CutSites.main, .calc, .both].map cutSitesByte = [0, 1, 2]
  setState : [SetState.disabled, .idle, .timing, .active].map setStateByte = [0, 1, 2, 3]
  coolerMode : [CoolerMode.manual, .auto].map coolerModeByte = [0, 1]
  role : [ContactRole.none, .alarm, .streamInterlock, .coolerStop].map roleByte = [0, 1, 2, 3]
  level : [Level.opened, .closed].map levelByte = [0, 1]
  firstOutMode : [FirstOutMode.trip, .any].map firstOutModeByte = [0, 1]
  closeCause : [CloseCause.clock, .desk].map closeCauseByte = [0, 1]
  computation : [Role.none, .fixedStart, .fixedMax, .fixedMin, .unfixed].map roleHeatByte = [0, 1, 2, 3, 4]

end Sys2Proof.Machine
end

