-- ==== Sys2Proof/WellFormed.lean ====
section
/-! DEFINITION. The well-formed commands: those whose operands a transfer of their row could carry. -/

namespace Sys2Proof

open Sys2Proof.Machine

/-- A body that a good frame can carry: at most 60 bytes (R2, check 2). -/
def Request.fits (r : Request) : Bool := r.body.length ≤ 60

/-- Whether a command's operands are ones its row can carry (R2, R7, log entry 9). Indices are bounded by their types. -/
def Instr.wellFormed : Instr → Bool
  | .frameErr _ bytes => (parseFrame bytes).isNone
  | .unknownCmd code r => r.fits && !knownCode code
  | .nop r => r.fits
  | .status r => r.fits
  | .readStream r => r.fits
  | .readSite r => r.fits
  | .poll r => r.fits
  | .listRead r => r.fits
  | .readFirstout r => r.fits
  | .readShift r => r.fits
  | .readMeas r => r.fits
  | .readCooler r => r.fits
  | .readContacts r => r.fits
  | .readCal r => r.fits
  | .attnMask r => r.fits
  | .attnClear r => r.fits
  | .linkReset r => r.fits
  | .setDemand r => r.fits
  | .setPlan r => r.fits
  | .setPeriod r => r.fits
  | .light r => r.fits
  | .hold r => r.fits
  | .resume r => r.fits
  | .stop r => r.fits
  | .calStart r => r.fits
  | .calStop r => r.fits
  | .calAccept r => r.fits
  | .calDiscard r => r.fits
  | .putMeas r => r.fits
  | .setMeasConfig r => r.fits
  | .setCutback r => r.fits
  | .setCooler r => r.fits
  | .coolerModeManual r => r.fits && !saysAuto r.body
  | .coolerModeAuto r => r.fits && saysAuto r.body
  | .setLimits r => r.fits
  | .setCheck r => r.fits
  | .grant r => r.fits
  | .revoke r => r.fits
  | .flameProven r => r.fits && !saysLost r.body
  | .flameLost r => r.fits && saysLost r.body
  | .release r => r.fits
  | .masterTrip r => r.fits
  | .setContact r => r.fits
  | .setPoll r => r.fits
  | .setLinkTimeout r => r.fits
  | .fullReset r _ _ => r.fits
  | .ack r => r.fits
  | .ackAll r => r.fits
  | .shelve r => r.fits
  | .unshelve r => r.fits
  | .silence r => r.fits
  | .firstoutClear r => r.fits
  | .firstoutMode r => r.fits
  | .forceContact r => r.fits
  | .unforce r => r.fits
  | .setClock r => r.fits
  | .setShifts r => r.fits
  | .closeShift r => r.fits
  | .powerOnReset _ _ _ => true
  | .massPulse _ => true
  | .strokePulse _ => true
  | .dosingPeriodExpiry => true
  | .noFlowReport _ => true
  | .lightingTimerExpiry _ => true
  | .safeLinkTimerExpiry => true
  | .calWindowTimeout _ => true
  | .staleTimerExpiry _ => true
  | .delayTimerExpiry _ => true
  | .coolerPeriod => true
  | .stallTimerExpiry _ => true
  | .contactScan _ => true
  | .shelfExpiry _ => true
  | .hornBIntervalExpiry => true
  | .clockAdvance => true
  | .abandonedTransfer _ _ => true

end Sys2Proof
end

