-- ==== Sys2Proof/Certificates/Slice0/Obligations.lean ====
section
/-! DEFINITION. The statements for the provers. Where a statement gives a state whole, as an update of `openRequest r s`
or of `s`, everything the update does not name is unchanged: the update is the frame. -/

open Sys2Proof Sys2Proof.Machine

/-! ### The queue -/

/-- A step with a command waiting takes the front one (the model's queue, log entry 1). -/
def Obligations.StepTakesFrontCommand : Prop :=
  ∀ (s : State) (c : Instr) (rest : List Instr), s.pending = c :: rest →
    step s = exec c { s with pending := rest }

/-- With no command waiting, an event that has fallen due joins the queue, and with none due one millisecond passes
(the model's choice, log entries 1 and 2). A timer is due when it runs and has no time left, a calibration window when
its record is OPEN at 3,600,000 ms; a no-flow report waits in the model's own flag (log entry 4) and a scan samples the
levels held at the pins (log entry 7); nothing else is ever due. One millisecond takes 1 from every running timer, adds
1 to the elapsed time of an OPEN record, holding at 3,600,000 ms, and changes nothing else: stopped and frozen timers
stay as they are. -/
def Obligations.IdleStepQueuesDueEvent : Prop :=
  ∀ s : State, s.pending = [] →
    (s.due = [] → step s = .next s.tick) ∧
    (s.due ≠ [] → ∃ c ∈ s.due, step s = .next { s with pending := [c], raceSeed := s.raceSeed + 1 }) ∧
    (.dosingPeriodExpiry ∈ s.due ↔ s.dosingTimer = 0) ∧
    (.coolerPeriod ∈ s.due ↔ s.cooler.timer = 0) ∧
    (.clockAdvance ∈ s.due ↔ s.su.secondTimer = 0) ∧
    (.safeLinkTimerExpiry ∈ s.due ↔ s.safeTimer = some 0) ∧
    (.hornBIntervalExpiry ∈ s.due ↔ s.au.hornBTimer = some 0) ∧
    (∀ i, .noFlowReport i ∈ s.due ↔ (s.stream i).noFlowDue = true) ∧
    (∀ i, .lightingTimerExpiry i ∈ s.due ↔ (s.stream i).lighting = some 0) ∧
    (∀ n, .staleTimerExpiry n ∈ s.due ↔ (s.slot n).timer = some 0) ∧
    (∀ k, .delayTimerExpiry k ∈ s.due ↔ (s.cutSet k).timer = .running 0) ∧
    (∀ n, .stallTimerExpiry n ∈ s.due ↔ s.cooler.sections[n].stall = some 0) ∧
    (∀ x, .contactScan x ∈ s.due ↔ s.scanTimer = 0 ∧ x = s.contactInputs) ∧
    (∀ i, .calWindowTimeout i ∈ s.due ↔ ∃ c, (s.stream i).cal = some c ∧ c.state = .opened ∧ 3600000 ≤ c.elapsed) ∧
    (∀ c, .shelfExpiry c ∈ s.due ↔ ∃ e ∈ s.au.list, e.code = c ∧ e.state = .shelved ∧ e.shelf = some 0) ∧
    (∀ c ∈ s.due, c.request = none ∧ (∀ i, c ≠ .massPulse i) ∧ (∀ n, c ≠ .strokePulse n) ∧
      (∀ p q d, c ≠ .powerOnReset p q d) ∧ (∀ l b, c ≠ .frameErr l b) ∧ (∀ v r, c ≠ .unknownCmd v r) ∧
      ∀ l b, c ≠ .abandonedTransfer l b) ∧
    s.tick =
      { s with
        streams := s.tick.streams
        safeTimer := s.safeTimer.map fun ms => ms - 1
        dosingTimer := s.dosingTimer - 1
        slots := s.tick.slots
        sets := s.tick.sets
        cooler := { s.cooler with timer := s.cooler.timer - 1, sections := s.tick.cooler.sections }
        scanTimer := s.scanTimer - 1
        au :=
          { s.au with
            list := s.au.list.map fun e => { e with shelf := e.shelf.map fun ms => ms - 1 }
            hornBTimer := s.au.hornBTimer.map fun ms => ms - 1 }
        su := { s.su with secondTimer := s.su.secondTimer - 1 } } ∧
    (∀ i, s.tick.stream i =
      { s.stream i with
        lighting := (s.stream i).lighting.map fun ms => ms - 1
        cal :=
          match (s.stream i).cal with
          | some c => some (if c.state = .opened then { c with elapsed := min 3600000 (c.elapsed + 1) } else c)
          | none => none }) ∧
    (∀ n, s.tick.slot n = { s.slot n with timer := (s.slot n).timer.map fun ms => ms - 1 }) ∧
    (∀ k, s.tick.cutSet k =
      { s.cutSet k with
        timer :=
          match (s.cutSet k).timer with
          | .running ms => .running (ms - 1)
          | .frozen ms => .frozen ms
          | .stopped => .stopped }) ∧
    ∀ n : Fin 4, s.tick.cooler.sections[n] =
      { s.cooler.sections[n] with stall := s.cooler.sections[n].stall.map fun ms => ms - 1 }

/-- A command leaves the queue to the step (the model's queue, log entry 1). -/
def Obligations.ExecKeepsQueue : Prop :=
  ∀ (c : Instr) (s t : State), exec c s = .next t → t.pending = s.pending ∧ t.raceSeed = s.raceSeed

/-- Every well-formed command runs in every state, but for the release of a transfer that no reset abandoned (log
entry 10). -/
def Obligations.WellFormedCommandCompletes : Prop :=
  ∀ (c : Instr) (s : State), c.wellFormed = true →
    (∀ l bytes, c = .abandonedTransfer l bytes → (s.link l).abandoned ≠ none) → ∃ t, exec c s = .next t

/-! ### Frames and answers -/

/-- Decoding the transfer that carries a well-formed row gives the row back; every transfer decodes to a well-formed
row, and no byte of it is lost: with no other transfer in progress, writing the row gives the transfer back (R2, R7,
R174, R176). Which of the two FLAME and the two COOLER_MODE rows a malformed frame falls under is the model's choice
(log entry 9). -/
def Obligations.TransfersDecodeAndEncode : Prop :=
  (∀ (i : Instr) (t : Transfer), i.wellFormed = true → transferOf i = some t → decodeTransfer t = i) ∧
  (∀ t : Transfer, (decodeTransfer t).wellFormed = true ∧
      (t.procBusy = none → t.deskBusy = none → transferOf (decodeTransfer t) = some t))

/-- The CRC-8 taken over a whole good frame, its CRC byte included, is 0 (R3, note 1). -/
def Obligations.WholeFrameCrcIsZero : Prop :=
  (∀ a : Answer, crc8 a.bytes = 0x00#8) ∧
  ∀ (code : Byte) (body : List Byte), crc8 (frameBytes code body) = 0x00#8

/-- Every answer has a body of at most 56 bytes, so 7 to 63 bytes in all with a length byte of 6 to 62 (01, 1.3;
R174): every step keeps this, from any state where it holds. -/
def Obligations.AnswersStayWithinFrame : Prop :=
  (∀ s t : State, AnswersSound s → step s = .next t → AnswersSound t) ∧
  ∀ (s : State) (l : Link), AnswersSound s →
    (s.link l).answer.bytes.length = 7 + (s.link l).answer.body.length ∧
    u8 (s.link l).answer.bytes 0 = 6 + (s.link l).answer.body.length

/-- Opening a request: the pending answer is shifted out with fill behind it (R5). On PROC and DESK nothing else
happens. On SAFE the link timer restarts at its full length, and the first activity after an expiry sets the healthy
flag and clears SAFE_LINK, with the streams left where they were; of the link units, only the bytes shifted out on SAFE
change, and NEWS where that clear sets it (R6, R55, R58). Forming an answer changes the pending
answer of its link and nothing else; the summary is sampled then (R1, R4, R9, R158). The bytes shifted out are kept in
the model's own field lastOut (log entry 11). -/
def Obligations.TakingOpensAndAnswers : Prop :=
  (∀ (r : Request) (s : State),
      ((openRequest r s).link r.link).lastOut =
        (s.link r.link).answer.bytes.take (3 + r.body.length + r.tail.length) ++
          List.replicate (3 + r.body.length + r.tail.length - (s.link r.link).answer.bytes.length) 0x00#8 ∧
      (r.link ≠ .safe →
        openRequest r s =
          s.modLink r.link fun u => { u with lastOut := ((openRequest r s).link r.link).lastOut }) ∧
      (r.link = .safe →
        (openRequest r s).safeTimer = some (s.safeTimeout * 1000) ∧
        (openRequest r s).safeHealthy = true ∧
        (openRequest r s).au = (if s.safeHealthy then s.au else s.au.clear .safeLink) ∧
        (∀ l, (openRequest r s).link l =
          { s.link l with
            lastOut := if l = .safe then ((openRequest r s).link .safe).lastOut else (s.link l).lastOut
            factors :=
              { (s.link l).factors with
                news :=
                  if s.safeHealthy then (s.link l).factors.news
                  else ((clearAlarm .safeLink s).link l).factors.news } }) ∧
        openRequest r s =
          { s with
            safeTimer := (openRequest r s).safeTimer
            safeHealthy := true
            au := (openRequest r s).au
            procLink := (openRequest r s).procLink
            safeLink := (openRequest r s).safeLink
            deskLink := (openRequest r s).deskLink })) ∧
  (∀ (l : Link) (code : Byte) (c : ResultCode) (body : List Byte) (s : State),
      ((giveAnswer l code c body s).link l).answer =
        { echo := code, result := c, body := body,
          summary :=
            { factors := (s.link l).factors
              resetSeen := (s.link l).resetSeen
              unack := min 15 (s.au.list.filter fun e => e.state == .activeUnack || e.state == .clearedUnack).length
              hornA := s.au.hornA
              hornB := s.au.hornB != .silent
              firstOut := s.au.firstOut.captured.isSome
              overflow := s.au.overflow
              mainCap := s.mainSite.capActive
              calcCap := s.calcSite.capActive
              safeHealthy := s.safeHealthy
              holdoff := all8.any fun i => (s.stream i).state == .tripped } } ∧
      (∀ l', l' ≠ l → (giveAnswer l code c body s).link l' = s.link l') ∧
      (giveAnswer l code c body s).link l =
        { s.link l with answer := ((giveAnswer l code c body s).link l).answer } ∧
      giveAnswer l code c body s =
        { s with
          procLink := (giveAnswer l code c body s).procLink
          safeLink := (giveAnswer l code c body s).safeLink
          deskLink := (giveAnswer l code c body s).deskLink })

/-- A request of any row on a link that does not own its command is answered NOT_OWNER whatever its length, and on an
owner with a length the command does not accept RANGE, both with an empty body and no effect but the opening (R7, R8).
A command that names a stream or a slot in its first byte is refused BAD_INDEX for a number above 7 (R36). -/
def Obligations.RefusedRequestHasNoEffect : Prop :=
  ∀ (c : Instr) (row : CommandRow) (r : Request) (s : State),
    c.commandRow = some row → c.request = some r → r.body.length ≤ 60 → (s.link r.link).abandoned = none →
    (r.link ∉ row.owners → exec c s = .next (giveAnswer r.link row.code .notOwner [] (openRequest r s))) ∧
    (r.link ∈ row.owners → r.body.length ∉ row.lengths →
      exec c s = .next (giveAnswer r.link row.code .range [] (openRequest r s))) ∧
    (r.link ∈ row.owners → r.body.length ∈ row.lengths → 7 < u8 r.body 0 →
      c ∈ [.readStream r, .readCal r, .setLimits r, .setPlan r, .setPoll r, .grant r, .revoke r, .light r,
        .flameProven r, .flameLost r, .hold r, .resume r, .stop r, .release r, .calStart r, .calStop r, .calAccept r,
        .calDiscard r, .putMeas r, .setMeasConfig r] →
      exec c s = .next (giveAnswer r.link row.code .badIndex [] (openRequest r s)))

/-- A transfer that fails the frame checks is answered FRAME_ERR, echoing its first byte or 0x00, and is no SAFE link
activity (R6); a good frame whose code names no command is answered UNKNOWN_CMD (R7). A transfer that a reset
abandoned shifts out fill bytes from the reset on, its request is discarded at its release, and the RESET answer stays
pending (R15). That any first release on the link is the abandoned transfer's, whichever row it is presented under, is
the model's choice (log entry 12). -/
def Obligations.BadTransfersTaken : Prop :=
  ((∀ (l : Link) (bytes : List Byte) (s : State),
      parseFrame bytes = none → (s.link l).abandoned = none →
      exec (.frameErr l bytes) s = .next (giveAnswer l (bytes.getD 0 0x00#8) .frameErr [] (shiftOut l bytes.length s)) ∧
      (shiftOut l bytes.length s).safeTimer = s.safeTimer) ∧
    ∀ (code : Byte) (r : Request) (s : State),
      knownCode code = false → r.body.length ≤ 60 → (s.link r.link).abandoned = none →
      exec (.unknownCmd code r) s = .next (giveAnswer r.link code .unknownCmd [] (openRequest r s))) ∧
  (∀ (l : Link) (bytes out : List Byte) (s : State), (s.link l).abandoned = some out →
      ∃ t, exec (.abandonedTransfer l bytes) s = .next t ∧
        t = s.modLink l (fun u =>
          { u with lastOut := out ++ List.replicate bytes.length 0x00#8, abandoned := none }) ∧
        (t.link l).answer = (s.link l).answer) ∧
  (∀ (c : Instr) (row : CommandRow) (r : Request) (out : List Byte) (s : State),
      c.commandRow = some row → c.request = some r → r.body.length ≤ 60 → (s.link r.link).abandoned = some out →
      exec c s = .next (s.modLink r.link fun u =>
        { u with
          lastOut := out ++ List.replicate (3 + r.body.length + r.tail.length) 0x00#8, abandoned := none })) ∧
  (∀ (code : Byte) (r : Request) (out : List Byte) (s : State),
      knownCode code = false → r.body.length ≤ 60 → (s.link r.link).abandoned = some out →
      exec (.unknownCmd code r) s = .next (s.modLink r.link fun u =>
        { u with
          lastOut := out ++ List.replicate (3 + r.body.length + r.tail.length) 0x00#8, abandoned := none })) ∧
  ∀ (l : Link) (bytes out : List Byte) (s : State), parseFrame bytes = none → (s.link l).abandoned = some out →
    exec (.frameErr l bytes) s = .next (s.modLink l fun u =>
      { u with lastOut := out ++ List.replicate bytes.length 0x00#8, abandoned := none })

/-! ### Link commands and resets -/

/-- NOP has no effect (R7), STATUS reports the reset cause, the reset-seen flag and the mask and clears the flag
(R13), ATTN_MASK writes the link's mask alone, and a link's attention output is asserted exactly while one of its
factors is both set and enabled (R11). ATTN_CLEAR clears exactly the named factors of its link;
LIST_READ at position 0 clears the link's NEWS besides returning the list; a LIST_READ that is refused clears nothing
(R12, R157). -/
def Obligations.LinkFlagsTaken : Prop :=
  ((∀ (r : Request) (s : State), Sent [.proc, .safe, .desk] 0 r s →
      exec (.nop r) s = .next (giveAnswer r.link 0x01#8 .ok [] (openRequest r s)) ∧
      exec (.status r) s =
        .next (giveAnswer r.link 0x02#8 .ok
          (be8 (resetCauseByte s.resetCause) ++ be8 (if ((openRequest r s).link r.link).resetSeen then 1 else 0) ++
            be8 ((openRequest r s).link r.link).mask.byte)
          ((openRequest r s).modLink r.link fun u => { u with resetSeen := false }))) ∧
    ∀ (r : Request) (s : State), Sent [.proc, .safe, .desk] 1 r s →
      exec (.attnMask r) s =
        .next (giveAnswer r.link 0x0D#8 .ok []
          ((openRequest r s).modLink r.link fun u =>
            { u with
              mask := ⟨(u8 r.body 0).testBit 3, (u8 r.body 0).testBit 2, (u8 r.body 0).testBit 1, (u8 r.body 0).testBit 0⟩ }))) ∧
  (∀ u : LinkUnit, u.attention = true ↔
    u.factors.news = true ∧ u.mask.news = true ∨ u.factors.trip = true ∧ u.mask.trip = true ∨
    u.factors.shift = true ∧ u.mask.shift = true ∨ u.factors.cal = true ∧ u.mask.cal = true) ∧
  ((∀ (r : Request) (s : State), Sent [.proc, .safe, .desk] 1 r s →
      exec (.attnClear r) s =
        .next (giveAnswer r.link 0x0E#8 .ok []
          ((openRequest r s).modLink r.link fun u =>
            { u with
              factors :=
                ⟨u.factors.news && !(u8 r.body 0).testBit 3, u.factors.trip && !(u8 r.body 0).testBit 2,
                 u.factors.shift && !(u8 r.body 0).testBit 1, u.factors.cal && !(u8 r.body 0).testBit 0⟩ }))) ∧
    ∀ (r : Request) (s : State), Sent [.proc, .safe, .desk] 1 r s →
      (u8 r.body 0 = 0 →
        exec (.listRead r) s =
          .next (giveAnswer r.link 0x06#8 .ok (listReadBytes 0 (openRequest r s).au)
            ((openRequest r s).modLink r.link fun u => { u with factors := { u.factors with news := false } }))) ∧
      (0 < u8 r.body 0 → u8 r.body 0 ≤ 63 →
        exec (.listRead r) s =
          .next (giveAnswer r.link 0x06#8 .ok (listReadBytes (u8 r.body 0) (openRequest r s).au) (openRequest r s))) ∧
      (63 < u8 r.body 0 →
        exec (.listRead r) s = .next (giveAnswer r.link 0x06#8 .badIndex [] (openRequest r s))))

/-- LINK_RESET clears its link's factors, disables its mask, which releases its attention output, and sets its
reset-seen flag; it touches no other block and no other link; a factor set after it is set, disabled, and leaves the
output released (R14). -/
def Obligations.LinkResetActsOnItsLink : Prop :=
  ∀ (r : Request) (s : State), Sent [.proc, .safe, .desk] 0 r s →
    ∃ t, exec (.linkReset r) s = .next t ∧
      t = giveAnswer r.link 0x0F#8 .ok []
        ((openRequest r s).modLink r.link fun u =>
          { u with factors := ⟨false, false, false, false⟩, mask := ⟨false, false, false, false⟩, resetSeen := true }) ∧
      (t.link r.link).answer.summary.factors = ⟨false, false, false, false⟩ ∧
      (t.link r.link).answer.summary.resetSeen = true ∧
      ∀ f : Factors, ((t.setFactors f).link r.link).factors = f ∧ ((t.setFactors f).link r.link).attention = false

/-- Power-on reset puts every block to the reset values of its chapter, whatever the state (R15, R17, R35, R60, R76,
R97, R104, R111, R128, R138, R161). The last computation record holds M 0 kW, and for every stream of the site, which is
MAIN for all eight, role NONE and heat 0; that the record of CALC then holds no stream is the model's reading (log entry
13). On each link the transfer that the command's operand says is in progress is abandoned, and no other is (R15, log
entry 12); no no-flow report waits (log entry 4), and the bytes shifted out last and the levels at the contact inputs,
which are no block's, stay (log entries 7 and 11). -/
def Obligations.PowerOnResetValues : Prop :=
  ∀ (p q d : Option Nat) (s : State), ∃ t, exec (.powerOnReset p q d) s = .next t ∧
    t.resetCause = .power ∧
    AbandonsTransfer p s.procLink t.procLink ∧ AbandonsTransfer q s.safeLink t.safeLink ∧
    AbandonsTransfer d s.deskLink t.deskLink ∧
    (∀ l, (t.link l).lastOut = (s.link l).lastOut) ∧ t.contactInputs = s.contactInputs ∧
    (∀ i, (t.stream i).noFlowDue = false) ∧
    (∀ l, (t.link l).factors = ⟨false, false, false, false⟩ ∧ (t.link l).mask = ⟨false, false, false, false⟩ ∧
      (t.link l).resetSeen = true ∧ (t.link l).answer.result = .resetDone ∧ (t.link l).answer.echo = 0x01#8 ∧
      (t.link l).answer.body = [0x00#8] ∧ (t.link l).answer.summary = t.summary l) ∧
    (∀ i, (t.stream i).limits = ⟨.main, 1000, 0, 0, 1, 15, .all, 8⟩ ∧ (t.stream i).plan = ⟨none, 0, 8, 1000, 20, 10⟩ ∧
      (t.stream i).limitsSet = false ∧ (t.stream i).planSet = false ∧
      (t.stream i).poll = ⟨none, .setWhenTrue, .burning⟩ ∧ (t.stream i).state = .off ∧ (t.stream i).lighting = none ∧
      (t.stream i).cause = none ∧ (t.stream i).planned = 0 ∧ (t.stream i).output = 0 ∧ (t.stream i).rate = 0 ∧
      (t.stream i).pulses = 0 ∧ (t.stream i).ring = [] ∧ (t.stream i).flow = 0 ∧ (t.stream i).fill = 0 ∧
      (t.stream i).devCounter = 0 ∧ (t.stream i).retCounter = 0 ∧ (t.stream i).devCond = false ∧
      (t.stream i).noFlowCounter = 0 ∧ (t.stream i).cal = none) ∧
    t.expectedWord = 0x0000#16 ∧ t.safeTimer = some 3000 ∧ t.safeTimeout = 3 ∧ t.safeHealthy = true ∧
    t.period = .ms1000 ∧ t.dosingTimer = 1000 ∧
    (∀ x, (t.siteRec x).demand = 0 ∧ (t.siteRec x).effective = 0 ∧ (t.siteRec x).largest = 0 ∧
      (t.siteRec x).capActive = false ∧ (∀ k : Fin 4, (t.siteRec x).setOffers[k] = none) ∧
      (t.siteRec x).holdbackOffer = none ∧ (t.siteRec x).unplaced = 0 ∧ (t.siteRec x).unplacedCount = 0 ∧
      (t.siteRec x).unplacedCond = false ∧ (t.siteRec x).compCount = 0 ∧ (t.siteRec x).record.passes = 0 ∧
      (t.siteRec x).record.lastM = 0) ∧
    (∀ i : Fin 8, t.mainSite.record.parts[i] = some ⟨.none, 0⟩ ∧ t.calcSite.record.parts[i] = none) ∧
    (∀ n, t.slot n = ⟨-32768, 32767, 10, 0, true, none, false⟩) ∧
    (∀ k, t.cutSet k = ⟨false, 0, .above, 0, 0, 0, .both, 0, .disabled, .stopped⟩) ∧
    t.cooler.settings = ⟨0, 0, 0, 0, 60, 0, 100, 0⟩ ∧ (∀ k : Fin 3, t.cooler.ratios[k] = 100) ∧
    (∀ n : Fin 4, t.cooler.sections[n] = ⟨0, 0, 1, 0, 0, none, false⟩) ∧ t.cooler.mode = .manual ∧
    t.cooler.timer = 1000 ∧ t.cooler.lastRaw = 0 ∧ t.cooler.pressureCount = 0 ∧ t.cooler.pressureCause = false ∧
    t.cooler.stallCause = false ∧ t.cooler.stopContacts = [] ∧ t.cooler.holdback = false ∧ t.cooler.strokes = 0 ∧
    t.cooler.clinker = 0 ∧
    (∀ k, t.contact k = ⟨.none, .closed, .p2, 0x00#8, 4, false, .closed, 0, false, false, false⟩) ∧
    t.scanTimer = 20 ∧ t.scanCount = 0 ∧
    t.au = ⟨[], false, false, false, .silent, none, ⟨.trip, none⟩⟩ ∧
    t.su.clock = ⟨0, 0⟩ ∧ t.su.secondTimer = 1000 ∧ t.su.changeTimes = [] ∧ t.su.history = [] ∧
    t.su.shift = ⟨1, ⟨0, 0⟩, Vector.replicate 8 0, Vector.replicate 8 0, 0, 0, 0, 0, 0, 0, 0, 0, 0⟩ ∧
    t.computedWord = checkWord t.streams

/-- FULL_RESET is refused WRONG_STATE with no effect while any stream is in READY, LIGHTING, FIRING, HELD, CALIB or
STOPPING; otherwise it leaves what power-on reset leaves, with cause COMMAND and a SAFE answer that echoes FULL_RESET;
a transfer in progress on PROC or DESK, as its operands say, is abandoned, and on SAFE none is (R15, R16, log entry
12). -/
def Obligations.FullResetOnlyAtRest : Prop :=
  ∀ (r : Request) (p d : Option Nat) (s : State), Sent [.safe] 0 r s →
    ((∀ i, (s.stream i).state = .off ∨ (s.stream i).state = .tripped) →
      ∃ t u, exec (.fullReset r p d) s = .next t ∧ exec (.powerOnReset p none d) s = .next u ∧
        t.resetCause = .command ∧
        AbandonsTransfer p s.procLink t.procLink ∧ t.safeLink.abandoned = none ∧
        AbandonsTransfer d s.deskLink t.deskLink ∧ t.safeLink.lastOut = (openRequest r s).safeLink.lastOut ∧
        t = { u with
          resetCause := .command
          procLink := { u.procLink with answer := { u.procLink.answer with body := [0x01#8] } }
          safeLink := { u.safeLink with
            answer := { u.safeLink.answer with echo := 0x4A#8, body := [0x01#8] }, lastOut := t.safeLink.lastOut }
          deskLink := { u.deskLink with answer := { u.deskLink.answer with body := [0x01#8] } } }) ∧
    ((∃ i, (s.stream i).state ≠ .off ∧ (s.stream i).state ≠ .tripped) →
      exec (.fullReset r p d) s = .next (giveAnswer .safe 0x4A#8 .wrongState [] (openRequest r s)))

/-! ### The Stream Table -/

/-- SET_LIMITS: the body carries the eight fields at the positions and in the ranges given. A field out of range, or
min above max, or max above scale, is refused RANGE; a new site outside OFF is refused WRONG_STATE; otherwise the
eight fields are replaced, the pair rule applied in OFF, a BURNING stream's output clamped at once with its rate
recomputed, and the check word taken over all eight limits (R18 to R20, R25, R28). -/
def Obligations.SetLimitsReplacesHalf : Prop :=
  (∀ (b : List Byte) (x : Limits), limitsOf b = some x ↔
    u8 b 1 = siteByte x.site ∧ x.scale = u16 b 2 ∧ x.min = u16 b 4 ∧ x.max = u16 b 6 ∧ x.ramp = u16 b 8 ∧
    x.lightOff = u8 b 10 ∧ u8 b 11 = holdoffByte x.holdoff ∧ x.noFlowCount = u8 b 12 ∧
    1000 ≤ x.scale ∧ x.scale ≤ 60000 ∧ 1 ≤ x.ramp ∧ x.ramp ≤ 60000 ∧ 5 ≤ x.lightOff ∧ x.lightOff ≤ 60 ∧
    4 ≤ x.noFlowCount ∧ x.noFlowCount ≤ 60) ∧
  ∀ (r : Request) (s : State) (i : Fin 8), Sent [.safe] 13 r s → u8 r.body 0 = i.val →
    (limitsOf r.body = none → exec (.setLimits r) s = .next (giveAnswer .safe 0x40#8 .range [] (openRequest r s))) ∧
    ∀ x, limitsOf r.body = some x →
      (x.min > x.max ∨ x.max > x.scale →
        exec (.setLimits r) s = .next (giveAnswer .safe 0x40#8 .range [] (openRequest r s))) ∧
      (x.min ≤ x.max → x.max ≤ x.scale → x.site ≠ (s.stream i).limits.site → (s.stream i).state ≠ .off →
        exec (.setLimits r) s = .next (giveAnswer .safe 0x40#8 .wrongState [] (openRequest r s))) ∧
      (x.min ≤ x.max → x.max ≤ x.scale → (x.site = (s.stream i).limits.site ∨ (s.stream i).state = .off) →
        ∃ u, exec (.setLimits r) s =
            .next (giveAnswer .safe 0x40#8 .ok (be8 (u.computedWord.toNat / 256) ++ be8 u.computedWord.toNat) u) ∧
          u = { openRequest r s with streams := u.streams, computedWord := checkWord u.streams } ∧
          (∀ j, j ≠ i → u.stream j = s.stream j) ∧
          u.stream i =
            { s.stream i with
              limits := x
              limitsSet := true
              planSet := (u.stream i).planSet
              output := (u.stream i).output
              rate := if (s.stream i).state.burning then rateOf (u.stream i).output x.scale else (s.stream i).rate
              planned :=
                if (s.stream i).state.burning then min (s.stream i).planned x.scale else (s.stream i).planned } ∧
          ((u.stream i).planSet = true ↔
            (s.stream i).planSet = true ∧ ¬((s.stream i).state = .off ∧ (s.stream i).limitsSet = true)) ∧
          (((s.stream i).state = .lighting ∨ (s.stream i).state = .firing ∨ (s.stream i).state = .held ∨
              (s.stream i).state = .calib) →
            (u.stream i).output = max x.min (min x.max (s.stream i).output)) ∧
          ((s.stream i).state = .stopping → (u.stream i).output = min x.max (s.stream i).output) ∧
          ((s.stream i).state.burning = false → (u.stream i).output = (s.stream i).output))

/-- SET_PLAN: the body carries the six fields at the positions and in the ranges given. A field out of range is
refused RANGE; a new pulse weight outside OFF is refused WRONG_STATE; otherwise the six fields are replaced, the
plan-set marker is set, and an armed OFF stream loses its limits-set marker (R22 to R25). -/
def Obligations.SetPlanReplacesHalf : Prop :=
  (∀ (b : List Byte) (p : Plan), planOf b = some p ↔
    p.ncv = some (u16 b 1) ∧ p.weight = u8 b 3 ∧ p.rank = u8 b 4 ∧ p.pulseWeight = u16 b 5 ∧ p.band = u8 b 7 ∧
    p.devCount = u8 b 8 ∧ 5000 ≤ u16 b 1 ∧ u16 b 1 ≤ 40000 ∧ p.weight ≤ 100 ∧ 1 ≤ p.rank ∧ p.rank ≤ 8 ∧
    1 ≤ p.pulseWeight ∧ p.pulseWeight ≤ 65535 ∧ 5 ≤ p.band ∧ p.band ≤ 50 ∧ 4 ≤ p.devCount ∧ p.devCount ≤ 60) ∧
  ∀ (r : Request) (s : State) (i : Fin 8), Sent [.proc] 9 r s → u8 r.body 0 = i.val →
    (planOf r.body = none → exec (.setPlan r) s = .next (giveAnswer .proc 0x21#8 .range [] (openRequest r s))) ∧
    ∀ p, planOf r.body = some p →
      p.ncv = some (u16 r.body 1) ∧
      ((s.stream i).state ≠ .off → p.pulseWeight ≠ (s.stream i).plan.pulseWeight →
        exec (.setPlan r) s = .next (giveAnswer .proc 0x21#8 .wrongState [] (openRequest r s))) ∧
      (((s.stream i).state = .off ∨ p.pulseWeight = (s.stream i).plan.pulseWeight) →
        exec (.setPlan r) s =
          .next (giveAnswer .proc 0x21#8 .ok []
            ((openRequest r s).modStream i fun x =>
              { x with
                plan := p
                planSet := true
                limitsSet := if x.state = .off ∧ x.planSet = true then false else x.limitsSet })))

/-- A stream's pulse weight changes only by SET_PLAN while the stream is OFF, by CAL_ACCEPT, and at the two resets
(R24, R93). -/
def Obligations.PulseWeightKept : Prop :=
  ∀ (c : Instr) (s t : State) (i : Fin 8), exec c s = .next t →
    (t.stream i).plan.pulseWeight ≠ (s.stream i).plan.pulseWeight →
    (∃ r, c = .setPlan r ∧ r.link = .proc ∧ (s.stream i).state = .off) ∨
    (∃ r, c = .calAccept r ∧ r.link = .proc ∧ (s.stream i).state ≠ .tripped) ∨
    (∃ p q d, c = .powerOnReset p q d) ∨ (∃ r p d, c = .fullReset r p d)

/-- SET_CHECK stores the 16-bit word it carries, whatever it is and whatever the firing states, and answers with that
word, the computed word and whether the two are equal; a link other than SAFE is answered NOT_OWNER and stores nothing
(R29). -/
def Obligations.SetCheckStoresWord : Prop :=
  (∀ (r : Request) (s : State), Sent [.safe] 2 r s →
    exec (.setCheck r) s =
      .next (giveAnswer .safe 0x41#8 .ok
        ([r.body.getD 0 0, r.body.getD 1 0] ++ be16 s.computedWord.toNat ++
          be8 (if u16 r.body 0 = s.computedWord.toNat then 1 else 0))
        { openRequest r s with expectedWord := BitVec.ofNat 16 (u16 r.body 0) })) ∧
  ∀ (r : Request) (s : State), Sent [.proc, .desk] 2 r s →
    exec (.setCheck r) s = .next (giveAnswer r.link 0x41#8 .notOwner [] (openRequest r s))

/-- SET_POLL replaces the three poll fields of a stream together, line, sense and condition in this order, or is
refused RANGE where an encoding names no value (R31); POLL answers one byte whose line n is 1 exactly when some stream
on that line has value one: its condition true under SET_WHEN_TRUE or false under SET_WHEN_FALSE (R32). -/
def Obligations.PollLinesFollowStreams : Prop :=
  (∀ (b : List Byte) (p : Poll), pollOf b = some p ↔
    u8 b 1 = pollLineByte p.line ∧ u8 b 2 = (if p.sense = .setWhenTrue then 0x00 else 0x01) ∧
    u8 b 3 = (if p.cond = .burning then 0x00 else 0x01)) ∧
  (∀ (r : Request) (s : State) (i : Fin 8), Sent [.safe] 4 r s → u8 r.body 0 = i.val →
    (∀ p, pollOf r.body = some p →
      exec (.setPoll r) s =
        .next (giveAnswer .safe 0x48#8 .ok [] ((openRequest r s).modStream i fun x => { x with poll := p }))) ∧
    (pollOf r.body = none →
      exec (.setPoll r) s = .next (giveAnswer .safe 0x48#8 .range [] (openRequest r s)))) ∧
  ∀ (r : Request) (s : State), Sent [.proc, .safe, .desk] 0 r s →
    ∃ v : Byte, exec (.poll r) s = .next (giveAnswer r.link 0x05#8 .ok [v] (openRequest r s)) ∧
      ∀ line : Fin 8, v.getLsbD line.val = true ↔
        ∃ i : Fin 8, (s.stream i).poll.line = some line ∧
          (((s.stream i).poll.sense = .setWhenTrue) ↔
            (if (s.stream i).poll.cond = .burning then (s.stream i).state.burning = true
             else ∃ e, (((openRequest r s).au.find (.streamTrip i) = some e ∨
                (openRequest r s).au.find (.streamDeviation i) = some e) ∧
                (e.state = .activeUnack ∨ e.state = .clearedUnack))))

/-! ### Reading -/

/-- Each READ command is answered OK on any link with the readout of the state as it stands, and changes nothing: the
answer apart, the state is the opened one (R30, R75, R95, R102, R127, R137, R156, R170). A byte that names no site, and
in READ_MEAS no kind, is refused RANGE; a slot, set, contact or selector out of its range BAD_INDEX; a shift that is not
held NO_ENTRY; READ_SHIFT looks at its selector first. -/
def Obligations.ReadsChangeNothing : Prop :=
  (∀ (r : Request) (s : State) (i : Fin 8), Sent [.proc, .safe, .desk] 1 r s → u8 r.body 0 = i.val →
    exec (.readStream r) s =
      .next (giveAnswer r.link 0x03#8 .ok (streamReadout i (openRequest r s)) (openRequest r s)) ∧
    exec (.readCal r) s =
      .next (giveAnswer r.link 0x0C#8 .ok (calReadout (s.stream i)) (openRequest r s))) ∧
  (∀ (r : Request) (s : State) (x : Site), Sent [.proc, .safe, .desk] 1 r s → u8 r.body 0 = siteByte x →
    exec (.readSite r) s = .next (giveAnswer r.link 0x04#8 .ok (siteReadout x s) (openRequest r s))) ∧
  (∀ (r : Request) (s : State), Sent [.proc, .safe, .desk] 1 r s →
    (1 < u8 r.body 0 → exec (.readSite r) s = .next (giveAnswer r.link 0x04#8 .range [] (openRequest r s))) ∧
    (23 < u8 r.body 0 →
      exec (.readContacts r) s = .next (giveAnswer r.link 0x0B#8 .badIndex [] (openRequest r s)))) ∧
  (∀ (r : Request) (s : State) (k : Fin 24), Sent [.proc, .safe, .desk] 1 r s → u8 r.body 0 = k.val →
    exec (.readContacts r) s = .next (giveAnswer r.link 0x0B#8 .ok (contactReadout k s) (openRequest r s))) ∧
  (∀ (r : Request) (s : State), Sent [.proc, .safe, .desk] 1 r s →
    (u8 r.body 0 = 0 →
      exec (.readCooler r) s = .next (giveAnswer r.link 0x0A#8 .ok (generalReadout s) (openRequest r s))) ∧
    (u8 r.body 0 = 1 →
      exec (.readCooler r) s = .next (giveAnswer r.link 0x0A#8 .ok (sectionsReadout s.cooler) (openRequest r s))) ∧
    (1 < u8 r.body 0 →
      exec (.readCooler r) s = .next (giveAnswer r.link 0x0A#8 .badIndex [] (openRequest r s)))) ∧
  (∀ (r : Request) (s : State), Sent [.proc, .safe, .desk] 2 r s →
    (∀ n : Fin 8, u8 r.body 0 = 0 → u8 r.body 1 = n.val →
      exec (.readMeas r) s = .next (giveAnswer r.link 0x09#8 .ok (slotReadout n s) (openRequest r s))) ∧
    (∀ k : Fin 4, u8 r.body 0 = 1 → u8 r.body 1 = k.val →
      exec (.readMeas r) s = .next (giveAnswer r.link 0x09#8 .ok (setReadout k s) (openRequest r s))) ∧
    (u8 r.body 0 = 0 ∧ 7 < u8 r.body 1 ∨ u8 r.body 0 = 1 ∧ 3 < u8 r.body 1 →
      exec (.readMeas r) s = .next (giveAnswer r.link 0x09#8 .badIndex [] (openRequest r s))) ∧
    (1 < u8 r.body 0 →
      exec (.readMeas r) s = .next (giveAnswer r.link 0x09#8 .range [] (openRequest r s)))) ∧
  (∀ (r : Request) (s : State), Sent [.proc, .safe, .desk] 0 r s →
    exec (.readFirstout r) s =
      .next (giveAnswer r.link 0x07#8 .ok (firstOutBytes s.au.firstOut) (openRequest r s))) ∧
  (∀ (r : Request) (s : State), Sent [.proc, .safe, .desk] 5 r s → 2 < u8 r.body 4 →
    exec (.readShift r) s = .next (giveAnswer r.link 0x08#8 .badIndex [] (openRequest r s))) ∧
  ∀ (r : Request) (s : State), Sent [.proc, .safe, .desk] 5 r s → u8 r.body 4 ≤ 2 →
    (u32 r.body 0 = s.su.shift.number →
      exec (.readShift r) s =
        .next (giveAnswer r.link 0x08#8 .ok (shiftPart s.su (u8 r.body 4) none) (openRequest r s))) ∧
    (u32 r.body 0 ≠ s.su.shift.number → ∀ c, s.su.history.find? (fun c => c.number == u32 r.body 0) = some c →
      exec (.readShift r) s =
        .next (giveAnswer r.link 0x08#8 .ok (shiftPart s.su (u8 r.body 4) (some c)) (openRequest r s))) ∧
    (u32 r.body 0 ≠ s.su.shift.number → (∀ c ∈ s.su.history, c.number ≠ u32 r.body 0) →
      exec (.readShift r) s = .next (giveAnswer r.link 0x08#8 .noEntry [] (openRequest r s)))

/-- Every answer frame lies as R174 and R175 give it: length, echo, result code, the three summary bytes, body and
CRC, and the four factors have their bits in the mask byte of STATUS. The answer bodies of the READ commands have the
lengths that R176 gives, and the fields of every readout (stream, site, alarm list, first-out record, shift parts,
calibration, slot, set, cooler, contact) lie at the byte positions of R177, high byte first and with the encodings of
R173. -/
def Obligations.ReadoutsLieAsLaidOut : Prop :=
  (∀ s : State,
      (∀ i, (streamReadout i s).length = 39 ∧ (calReadout (s.stream i)).length = 55) ∧
      (∀ x, (siteReadout x s).length = 56) ∧ (∀ n, (slotReadout n s).length = 13) ∧ (∀ k, (setReadout k s).length = 19) ∧
      (generalReadout s).length = 34 ∧ (sectionsReadout s.cooler).length = 53 ∧ (∀ k, (contactReadout k s).length = 18) ∧
      (∀ c, (shiftPart s.su 0 c).length = 54) ∧ (∀ k c, (shiftPart s.su (k + 1) c).length = 53) ∧
      (∀ n, (listReadBytes n s.au).length = 3 + 12 * min 4 (s.au.list.length - n)) ∧
      ∀ f : FirstOut, (∀ c, f.captured = some c → c.states.length = 8) → (firstOutBytes f).length = 18) ∧
  (∀ (i : Fin 8) (s : State),
      (streamReadout i s).length = 39 ∧ u8 (streamReadout i s) 0 = i.val ∧
      u8 (streamReadout i s) 1 = siteByte (s.stream i).limits.site ∧
      u16 (streamReadout i s) 2 = (s.stream i).limits.scale % 65536 ∧
      u16 (streamReadout i s) 4 = (s.stream i).limits.min % 65536 ∧
      u16 (streamReadout i s) 6 = (s.stream i).limits.max % 65536 ∧
      u16 (streamReadout i s) 8 = (s.stream i).limits.ramp % 65536 ∧
      u8 (streamReadout i s) 10 = (s.stream i).limits.lightOff % 256 ∧
      u8 (streamReadout i s) 11 = holdoffByte (s.stream i).limits.holdoff ∧
      u8 (streamReadout i s) 12 = (s.stream i).limits.noFlowCount % 256 ∧
      u16 (streamReadout i s) 13 = ((s.stream i).plan.ncv.getD 0) % 65536 ∧
      u8 (streamReadout i s) 15 = (s.stream i).plan.weight % 256 ∧
      u8 (streamReadout i s) 16 = (s.stream i).plan.rank % 256 ∧
      u16 (streamReadout i s) 17 = (s.stream i).plan.pulseWeight % 65536 ∧
      u8 (streamReadout i s) 19 = (s.stream i).plan.band % 256 ∧
      u8 (streamReadout i s) 20 = (s.stream i).plan.devCount % 256 ∧
      (u8 (streamReadout i s) 21).testBit 0 = (s.stream i).limitsSet ∧
      (u8 (streamReadout i s) 21).testBit 1 = (s.stream i).planSet ∧
      (u8 (streamReadout i s) 21).testBit 2 = ((s.stream i).limitsSet && (s.stream i).planSet) ∧
      u8 (streamReadout i s) 22 = firingByte (s.stream i).state ∧
      u8 (streamReadout i s) 23 = causeOptByte (s.stream i).cause ∧
      u16 (streamReadout i s) 24 = (s.stream i).planned % 65536 ∧
      u16 (streamReadout i s) 26 = (s.stream i).output % 65536 ∧
      u16 (streamReadout i s) 28 = (s.stream i).rate % 65536 ∧
      u16 (streamReadout i s) 30 = (s.stream i).flow % 65536 ∧
      u8 (streamReadout i s) 32 = calOptByte (s.stream i).cal ∧
      u8 (streamReadout i s) 33 = pollLineByte (s.stream i).poll.line ∧
      u8 (streamReadout i s) 34 =
        (if (s.stream i).poll.sense = .setWhenTrue then 0 else 1) +
          (if (s.stream i).poll.cond = .burning then 0 else 2) ∧
      u16 (streamReadout i s) 35 = s.computedWord.toNat ∧ u16 (streamReadout i s) 37 = s.expectedWord.toNat) ∧
  (∀ (x : Site) (s : State), SiteLies x s (siteReadout x s)) ∧
  (∀ (a : AlarmUnit) (start : Nat), ListLies a start (listReadBytes start a)) ∧
  (∀ f : FirstOut, FirstOutLies f (firstOutBytes f)) ∧
  (∀ u : ShiftUnit,
      OpenHeaderLies u (shiftPart u 0 none) ∧ OpenFeedLies u 0 (shiftPart u 1 none) ∧
      OpenFeedLies u 4 (shiftPart u 2 none) ∧
      ∀ c : ClosedShift,
        ClosedHeaderLies u c (shiftPart u 0 (some c)) ∧ ClosedFeedLies c 0 (shiftPart u 1 (some c)) ∧
        ClosedFeedLies c 4 (shiftPart u 2 (some c))) ∧
  (∀ x : Stream, CalLies x (calReadout x)) ∧
  (∀ (n : Fin 8) (s : State), SlotLies n s (slotReadout n s)) ∧
  (∀ (k : Fin 4) (s : State), SetLies k s (setReadout k s)) ∧
  (∀ s : State, GeneralLies s (generalReadout s) ∧ SectionsLie s.cooler (sectionsReadout s.cooler)) ∧
  (∀ (k : Fin 24) (s : State), ContactLies k s (contactReadout k s)) ∧
  (∀ a : Answer, AnswerLies a a.bytes) ∧ FieldsHighFirst ∧ EncodingsListed

/-! ### Firing supervision -/

/-- GRANT is checked in the order TRIPPED, state, arming, check word, interlocks; a GRANT that passes moves the stream
from OFF to READY and nothing else; and a stream leaves OFF only by a GRANT taken while it is armed, its check word
matches and none of its interlock contacts is abnormal (R37). -/
def Obligations.OnlyGrantLeavesOff : Prop :=
  (∀ (r : Request) (s : State) (i : Fin 8), Sent [.safe] 1 r s → u8 r.body 0 = i.val →
    ((s.stream i).state = .tripped →
      exec (.grant r) s = .next (giveAnswer .safe 0x42#8 .heldOff [] (openRequest r s))) ∧
    ((s.stream i).state ≠ .tripped → (s.stream i).state ≠ .off →
      exec (.grant r) s = .next (giveAnswer .safe 0x42#8 .wrongState [] (openRequest r s))) ∧
    ((s.stream i).state = .off →
      (((s.stream i).limitsSet && (s.stream i).planSet) = false →
        exec (.grant r) s = .next (giveAnswer .safe 0x42#8 .notArmed [] (openRequest r s))) ∧
      (((s.stream i).limitsSet && (s.stream i).planSet) = true →
        (s.computedWord ≠ s.expectedWord →
          exec (.grant r) s = .next (giveAnswer .safe 0x42#8 .checkMismatch [] (openRequest r s))) ∧
        (s.computedWord = s.expectedWord →
          (Interlocked s i →
            exec (.grant r) s = .next (giveAnswer .safe 0x42#8 .interlock [] (openRequest r s))) ∧
          (¬Interlocked s i →
            exec (.grant r) s =
              .next (giveAnswer .safe 0x42#8 .ok (be8 i.val ++ [0x01#8])
                ((openRequest r s).modStream i fun x => { x with state := .ready }))))))) ∧
  ∀ (c : Instr) (s t : State) (i : Fin 8), exec c s = .next t →
    (s.stream i).state = .off → (t.stream i).state ≠ .off →
    ∃ r, c = .grant r ∧ r.link = .safe ∧ u8 r.body 0 = i.val ∧ (s.stream i).limitsSet = true ∧
      (s.stream i).planSet = true ∧ s.computedWord = s.expectedWord ∧ ¬Interlocked s i

/-- RELEASE is taken in TRIPPED only: the stream enters OFF, the answer reports the cause, the cause becomes absent,
the STREAM_TRIP condition is cleared, and no interlock is tested; another link is answered NOT_OWNER; a stream leaves
TRIPPED only by RELEASE from the SAFE link, or by power-on or full reset (R51). -/
def Obligations.OnlyReleaseLeavesTripped : Prop :=
  (∀ (r : Request) (s : State) (i : Fin 8), Sent [.safe] 1 r s → u8 r.body 0 = i.val →
    ((s.stream i).state = .tripped →
      exec (.release r) s =
        .next (giveAnswer .safe 0x45#8 .ok (be8 i.val ++ [0x00#8] ++ be8 (causeOptByte (s.stream i).cause))
          (clearAlarm (.streamTrip i)
            ((openRequest r s).modStream i fun x => { x with state := .off, cause := none })))) ∧
    ((s.stream i).state ≠ .tripped →
      exec (.release r) s = .next (giveAnswer .safe 0x45#8 .wrongState [] (openRequest r s)))) ∧
  (∀ (r : Request) (s : State), Sent [.proc, .desk] 1 r s →
    exec (.release r) s = .next (giveAnswer r.link 0x45#8 .notOwner [] (openRequest r s))) ∧
  ∀ (c : Instr) (s t : State) (i : Fin 8), exec c s = .next t →
    (s.stream i).state = .tripped → (t.stream i).state ≠ .tripped →
    (∃ r, c = .release r ∧ r.link = .safe ∧ u8 r.body 0 = i.val) ∨
    (∃ p q d, c = .powerOnReset p q d) ∨ (∃ r p d, c = .fullReset r p d)

/-- A trip: the setpoints and the rate go to 0, the lighting timer stops, an OPEN calibration record is latched
ABORTED with CAL set, STREAM_TRIP is raised at P1 with the cause, TRIP is set on all links, one alarm and one trip are
counted, and the first-out record is offered the raise with the state tripped from; the holdoff mode sends the stream
to TRIPPED with the cause or to OFF with the condition cleared at once. A no-flow report still on its way (the flag of
log entry 4) has no effect any more (R86). Of each link unit the factors alone change: NEWS and TRIP are set, CAL where
a record was OPEN. Other streams and blocks are untouched (R10, R48, R49, R91, R143, R154). -/
def Obligations.TripIsTakenWhole : Prop :=
  ∀ (i : Fin 8) (c : TripCause) (s : State),
    SameBlocks s (trip i c s) ∧
    (∀ j, j ≠ i → (trip i c s).stream j = s.stream j) ∧
    (trip i c s).stream i =
      { s.stream i with
        output := 0
        planned := 0
        rate := 0
        lighting := none
        noFlowDue := false
        cal :=
          match (s.stream i).cal with
          | some x => some (if x.state = .opened then { x with state := .aborted } else x)
          | none => none
        state := ((trip i c s).stream i).state
        cause := ((trip i c s).stream i).cause } ∧
    (((s.stream i).limits.holdoff = .all ∨
        ((s.stream i).limits.holdoff = .flame ∧ (c = .flameLost ∨ c = .lightFail))) →
      ((trip i c s).stream i).state = .tripped ∧ ((trip i c s).stream i).cause = some c ∧
      (trip i c s).au =
        { s.au.raise ⟨.streamTrip i, .p1, some (.cause c)⟩ s.su.clock with firstOut := (trip i c s).au.firstOut }) ∧
    (((s.stream i).limits.holdoff = .none ∨
        ((s.stream i).limits.holdoff = .flame ∧ c ≠ .flameLost ∧ c ≠ .lightFail)) →
      ((trip i c s).stream i).state = .off ∧ ((trip i c s).stream i).cause = none ∧
      (trip i c s).au =
        { (s.au.raise ⟨.streamTrip i, .p1, some (.cause c)⟩ s.su.clock).clear (.streamTrip i) with
          firstOut := (trip i c s).au.firstOut }) ∧
    (trip i c s).au.firstOut =
      { s.au.firstOut with
        captured :=
          if s.au.firstOut.captured = none then
            some ⟨.streamTrip i, .p1, some (.cause c), s.su.clock, s.streams.toList.map Stream.state⟩
          else s.au.firstOut.captured } ∧
    (∀ l, (trip i c s).link l =
      { s.link l with
        factors :=
          { news := true, trip := true, shift := (s.link l).factors.shift
            cal := (s.link l).factors.cal || (s.stream i).calOpen } }) ∧
    (trip i c s).su =
      { s.su with
        shift :=
          { s.su.shift with
            trips := min 65535 (s.su.shift.trips + 1), alarmsP1 := min 65535 (s.su.shift.alarmsP1 + 1) } }

/-- REVOKE, FLAME LOST, the lighting timer and the no-flow report trip a stream in the states that R38, R42, R40 and
R54 name, REVOKE sends a READY stream to OFF with no trip, and in the other states each is taken with no effect. An
event command of a timer that is stopped has no effect, and the no-flow report is a step of its own: the model's
readings (log entries 3 and 4). -/
def Obligations.TripCausesActByState : Prop :=
  (∀ (r : Request) (s : State) (i : Fin 8), Sent [.safe] 1 r s → u8 r.body 0 = i.val →
    ((s.stream i).state.burning = true →
      exec (.revoke r) s =
        .next (giveAnswer .safe 0x43#8 .ok
          (be8 i.val ++ be8 (firingByte ((trip i .revoke (openRequest r s)).stream i).state))
          (trip i .revoke (openRequest r s)))) ∧
    ((s.stream i).state = .ready →
      exec (.revoke r) s =
        .next (giveAnswer .safe 0x43#8 .ok (be8 i.val ++ [0x00#8])
          ((openRequest r s).modStream i fun x => { x with state := .off }))) ∧
    ((s.stream i).state = .off ∨ (s.stream i).state = .tripped →
      exec (.revoke r) s =
        .next (giveAnswer .safe 0x43#8 .ok (be8 i.val ++ be8 (firingByte (s.stream i).state)) (openRequest r s)))) ∧
  (∀ (r : Request) (s : State) (i : Fin 8), Sent [.safe] 2 r s → u8 r.body 0 = i.val → u8 r.body 1 = 0x02 →
    ((s.stream i).state.burning = true →
      exec (.flameLost r) s =
        .next (giveAnswer .safe 0x44#8 .ok
          (be8 i.val ++ be8 (firingByte ((trip i .flameLost (openRequest r s)).stream i).state))
          (trip i .flameLost (openRequest r s)))) ∧
    ((s.stream i).state.burning = false →
      exec (.flameLost r) s =
        .next (giveAnswer .safe 0x44#8 .ok (be8 i.val ++ be8 (firingByte (s.stream i).state)) (openRequest r s)))) ∧
  (∀ (s : State) (i : Fin 8),
    ((s.stream i).state = .lighting → (s.stream i).lighting ≠ none →
      exec (.lightingTimerExpiry i) s = .next (trip i .lightFail s)) ∧
    ((s.stream i).lighting = none → exec (.lightingTimerExpiry i) s = .next s)) ∧
  ∀ (s : State) (i : Fin 8),
    ((s.stream i).state = .firing ∨ (s.stream i).state = .held →
      exec (.noFlowReport i) s = .next (trip i .noFlow (s.modStream i fun x => { x with noFlowDue := false }))) ∧
    ((s.stream i).state ≠ .firing → (s.stream i).state ≠ .held →
      exec (.noFlowReport i) s = .next (s.modStream i fun x => { x with noFlowDue := false }))

/-- MASTER_TRIP and the expiry of the SAFE link timer go through all eight streams in stream order, each trip whole
before the next stream is reached and nothing else done: each BURNING stream ends as a trip
with cause MASTER or LINK_LOSS leaves it, each READY stream ends OFF, OFF and TRIPPED streams are untouched; one trip
is counted for each BURNING stream. MASTER_TRIP answers the two sets; the expiry then raises SAFE_LINK at P1 and
clears the healthy flag, its timer staying stopped (R52, R57). An event command of a timer that is stopped has no
effect: the model's reading (log entry 3). -/
def Obligations.AllStreamsWithdrawn : Prop :=
  (∀ (c : TripCause) (s : State),
    WithdrawnInOrder c (fun _ => True) s (withdrawAll c s) ∧
    SameBlocks s (withdrawAll c s) ∧
    (∀ i, ((s.stream i).state.burning = true → (withdrawAll c s).stream i = (trip i c s).stream i) ∧
      ((s.stream i).state = .ready → (withdrawAll c s).stream i = { s.stream i with state := .off }) ∧
      ((s.stream i).state = .off ∨ (s.stream i).state = .tripped → (withdrawAll c s).stream i = s.stream i)) ∧
    (s.su.shift.trips ≤ 65535 →
      (withdrawAll c s).su.shift.trips =
        min 65535 (s.su.shift.trips + (all8.filter fun i => (s.stream i).state.burning).length)) ∧
    ((∀ i, (s.stream i).state = .off ∨ (s.stream i).state = .tripped) → withdrawAll c s = s)) ∧
  (∀ (r : Request) (s : State), Sent [.safe] 0 r s →
    exec (.masterTrip r) s =
      .next (giveAnswer .safe 0x46#8 .ok
        (be8 (all8.map fun i => if (s.stream i).state.burning then 2 ^ i.val else 0).sum ++
          be8 (all8.map fun i => if (s.stream i).state = .ready then 2 ^ i.val else 0).sum)
        (withdrawAll .master (openRequest r s)))) ∧
  ∀ s : State,
    (s.safeTimer ≠ none →
      exec .safeLinkTimerExpiry s =
        .next
          { raiseAlarm ⟨.safeLink, .p1, none⟩ (withdrawAll .linkLoss { s with safeTimer := none }) with
            safeHealthy := false }) ∧
    (s.safeTimer = none → exec .safeLinkTimerExpiry s = .next s)

/-- LIGHT is taken in READY for a stream none of whose interlock contacts is forced: LIGHTING at min flow with the
rate of it, the lighting timer at the light-off time, the window ring and measured flow emptied (R39, R81, R82). FLAME
PROVEN moves a LIGHTING stream to FIRING with its timer stopped and its output kept (R41, R82). HOLD takes FIRING to
HELD, RESUME HELD and STOPPING to FIRING, STOP FIRING and HELD to STOPPING and LIGHTING to READY (R43 to R45). In
every other state each is refused as its rule says. -/
def Obligations.FiringCommandsTaken : Prop :=
  (∀ (r : Request) (s : State) (i : Fin 8), Sent [.proc] 1 r s → u8 r.body 0 = i.val →
      ((s.stream i).state ≠ .ready →
        exec (.light r) s = .next (giveAnswer .proc 0x23#8 .wrongState [] (openRequest r s))) ∧
      ((s.stream i).state = .ready → GuardForced s i →
        exec (.light r) s = .next (giveAnswer .proc 0x23#8 .forced [] (openRequest r s))) ∧
      ((s.stream i).state = .ready → ¬GuardForced s i →
        exec (.light r) s =
          .next (giveAnswer .proc 0x23#8 .ok (be8 i.val ++ [0x02#8])
            ((openRequest r s).modStream i fun x =>
              { x with
                state := .lighting
                output := x.limits.min
                rate := rateOf x.limits.min x.limits.scale
                lighting := some (x.limits.lightOff * 1000)
                ring := []
                flow := 0
                fill := 0 })))) ∧
  (∀ (r : Request) (s : State) (i : Fin 8), Sent [.safe] 2 r s → u8 r.body 0 = i.val →
      (u8 r.body 1 = 0x01 →
        ((s.stream i).state = .lighting →
          exec (.flameProven r) s =
            .next (giveAnswer .safe 0x44#8 .ok (be8 i.val ++ [0x03#8])
              ((openRequest r s).modStream i fun x => { x with state := .firing, lighting := none, fill := 0 }))) ∧
        ((s.stream i).state = .tripped →
          exec (.flameProven r) s = .next (giveAnswer .safe 0x44#8 .tooLate [] (openRequest r s))) ∧
        ((s.stream i).state ≠ .lighting → (s.stream i).state ≠ .tripped →
          exec (.flameProven r) s = .next (giveAnswer .safe 0x44#8 .wrongState [] (openRequest r s)))) ∧
      (u8 r.body 1 ≠ 0x01 → u8 r.body 1 ≠ 0x02 →
        exec (.flameProven r) s = .next (giveAnswer .safe 0x44#8 .range [] (openRequest r s)))) ∧
  (∀ (r : Request) (s : State) (i : Fin 8), Sent [.proc] 1 r s → u8 r.body 0 = i.val →
      ((s.stream i).state = .firing →
        exec (.hold r) s =
          .next (giveAnswer .proc 0x24#8 .ok (be8 i.val ++ [0x04#8])
            ((openRequest r s).modStream i fun x => { x with state := .held }))) ∧
      ((s.stream i).state ≠ .firing →
        exec (.hold r) s = .next (giveAnswer .proc 0x24#8 .wrongState [] (openRequest r s))) ∧
      ((s.stream i).state = .held ∨ (s.stream i).state = .stopping →
        exec (.resume r) s =
          .next (giveAnswer .proc 0x25#8 .ok (be8 i.val ++ [0x03#8])
            ((openRequest r s).modStream i fun x => { x with state := .firing }))) ∧
      ((s.stream i).state ≠ .held → (s.stream i).state ≠ .stopping →
        exec (.resume r) s = .next (giveAnswer .proc 0x25#8 .wrongState [] (openRequest r s))) ∧
      ((s.stream i).state = .firing ∨ (s.stream i).state = .held →
        exec (.stop r) s =
          .next (giveAnswer .proc 0x26#8 .ok (be8 i.val ++ [0x06#8])
            ((openRequest r s).modStream i fun x => { x with state := .stopping }))) ∧
      ((s.stream i).state = .lighting →
        exec (.stop r) s =
          .next (giveAnswer .proc 0x26#8 .ok (be8 i.val ++ [0x01#8])
            ((openRequest r s).modStream i fun x =>
              { x with state := .ready, lighting := none, output := 0, planned := 0, rate := 0 }))) ∧
      ((s.stream i).state ≠ .firing → (s.stream i).state ≠ .held → (s.stream i).state ≠ .lighting →
        exec (.stop r) s = .next (giveAnswer .proc 0x26#8 .wrongState [] (openRequest r s))))

/-! ### Heat allocation -/

/-- The largest cut is the greatest present offer, or 0; the effective demand is the demand less that cut, rounded
down; the cap is active while the cut is above 0 (R64). SET_DEMAND stores at most 200,000 kW, says OK_CLAMPED above,
and recomputes its site at once; an encoding that names no site is refused RANGE (R63). -/
def Obligations.DemandAndCutGiveEffective : Prop :=
  (∀ y : SiteRec,
    y.recompute =
      { y with
        largest := y.recompute.largest
        effective := y.demand * (100 - y.recompute.largest) / 100
        capActive := decide (y.recompute.largest ≠ 0) } ∧
    (∀ (k : Fin 4) v, y.setOffers[k] = some v → v ≤ y.recompute.largest) ∧
    (∀ v, y.holdbackOffer = some v → v ≤ y.recompute.largest) ∧
    (y.recompute.largest = 0 ∨ (∃ k : Fin 4, y.setOffers[k] = some y.recompute.largest) ∨
      y.holdbackOffer = some y.recompute.largest)) ∧
  ∀ (r : Request) (s : State), Sent [.proc] 5 r s →
    (∀ x : Site, u8 r.body 0 = siteByte x →
      exec (.setDemand r) s =
        .next (giveAnswer .proc 0x20#8 (if u32 r.body 1 ≤ 200000 then .ok else .okClamped)
          (be8 (siteByte x) ++ be24 (min (u32 r.body 1) 200000) ++
            be24 (min (u32 r.body 1) 200000 * (100 - (s.siteRec x).recompute.largest) / 100))
          ((openRequest r s).modSite x fun y =>
            SiteRec.recompute { y with demand := min (u32 r.body 1) 200000 }))) ∧
    (1 < u8 r.body 0 → exec (.setDemand r) s = .next (giveAnswer .proc 0x20#8 .range [] (openRequest r s)))

/-- SET_PERIOD stores one of the four periods while every stream is OFF or READY and leaves the timer period in
progress to run out; a period begun at an expiry has the length stored then (R61, R62). SET_LINK_TIMEOUT stores a
length of 1 to 10 s and restarts the timer at it, in every firing state; another length is refused RANGE; and the
length changes by no other command but the two resets (R56). -/
def Obligations.PeriodAndTimeoutStored : Prop :=
  ((∀ (r : Request) (s : State), Sent [.proc] 1 r s →
      (3 < u8 r.body 0 → exec (.setPeriod r) s = .next (giveAnswer .proc 0x22#8 .range [] (openRequest r s))) ∧
      ∀ p : Period, u8 r.body 0 = periodByte p →
        ((∃ i, (s.stream i).state ≠ .off ∧ (s.stream i).state ≠ .ready) →
          exec (.setPeriod r) s = .next (giveAnswer .proc 0x22#8 .wrongState [] (openRequest r s))) ∧
        ((∀ i, (s.stream i).state = .off ∨ (s.stream i).state = .ready) →
          exec (.setPeriod r) s =
            .next (giveAnswer .proc 0x22#8 .ok (be8 (periodByte p)) { openRequest r s with period := p }))) ∧
    ∀ s t : State, exec .dosingPeriodExpiry s = .next t → t.dosingTimer = s.period.ms ∧ t.period = s.period) ∧
  ((∀ (r : Request) (s : State), Sent [.safe] 1 r s →
      (1 ≤ u8 r.body 0 → u8 r.body 0 ≤ 10 →
        exec (.setLinkTimeout r) s =
          .next (giveAnswer .safe 0x49#8 .ok []
            { openRequest r s with safeTimeout := u8 r.body 0, safeTimer := some (u8 r.body 0 * 1000) })) ∧
      (u8 r.body 0 < 1 ∨ 10 < u8 r.body 0 →
        exec (.setLinkTimeout r) s = .next (giveAnswer .safe 0x49#8 .range [] (openRequest r s)))) ∧
    ∀ (c : Instr) (s t : State), exec c s = .next t → t.safeTimeout ≠ s.safeTimeout →
      (∃ r, c = .setLinkTimeout r ∧ r.link = .safe) ∨ (∃ p q d, c = .powerOnReset p q d) ∨
      (∃ r p d, c = .fullReset r p d))

/-- A computation takes at most 9 passes. When it reaches a final pass the heats of its parts add up to the effective
demand exactly, and each stream it left UNFIXED has its mass within its limits; otherwise no stream is left UNFIXED
and the unplaced heat is the effective demand less the sum of the heats (R67, R68). Each part carries the heat and the
mass of its role: fixed by R66 at its output, max flow or min flow, UNFIXED by R67's share of the M of the last pass. A
computation opens with the parts of R65, in stream order, and runs passes until one ends it; each pass follows the nine
steps of R67, whatever the parts it starts from. A burning stream without an NCV counts with a free value (log entry
8). -/
def Obligations.AllocationPlacesDemand : Prop :=
  (∀ (x : Site) (s : State),
    (s.allocation x).passes ≤ 9 ∧
    ((s.allocation x).final = true →
      ((s.allocation x).parts.map Share.heat).sum = ((s.siteRec x).effective : Int) ∧
      (s.allocation x).unplaced = 0 ∧
      ∀ p ∈ (s.allocation x).parts, p.role = .unfixed → (p.min : Int) ≤ p.mass ∧ p.mass ≤ (p.max : Int)) ∧
    ((s.allocation x).final = false →
      (s.allocation x).unplaced =
        ((s.siteRec x).effective : Int) - ((s.allocation x).parts.map Share.heat).sum ∧
      ∀ p ∈ (s.allocation x).parts, p.role ≠ .unfixed)) ∧
  (∀ (x : Site) (s : State) (a : Allocation), a = s.allocation x →
    a.lastM = heatLeft (s.siteRec x).effective a.parts ∧
    ∀ p ∈ a.parts,
      openingPart p.idx (s.stream p.idx) ≠ none ∧
      (∀ o, openingPart p.idx (s.stream p.idx) = some o →
        p = { o with role := p.role, heat := p.heat, mass := p.mass }) ∧
      (p.role = .fixedStart →
        p.heat = fixedHeat (s.stream p.idx).output p.ncv ∧ p.mass = (s.stream p.idx).output) ∧
      (p.role = .fixedMax → p.heat = fixedHeat p.max p.ncv ∧ p.mass = p.max) ∧
      (p.role = .fixedMin → p.heat = fixedHeat p.min p.ncv ∧ p.mass = p.min) ∧
      (p.role = .unfixed → p.heat = sharedHeat a.lastM a.parts p ∧ p.mass = sharedMass p.heat p.ncv)) ∧
  (∀ (x : Site) (s : State) (l : List Share), l = openShares x s.streams →
    l = all8.filterMap (fun i => if (s.stream i).limits.site = x then openingPart i (s.stream i) else none) ∧
    ∀ fuel, l.length < fuel → runPasses (s.siteRec x).effective fuel 0 l = s.allocation x) ∧
  ∀ (e fuel k : Nat) (l g : List Share) (m : Int) (above below : Share → Bool) (next : Allocation),
    l.Pairwise (fun p q => p.idx < q.idx) → m = heatLeft e l →
    g = l.map (fun p =>
      if p.role = .unfixed then
        { p with heat := sharedHeat m l p, mass := sharedMass (sharedHeat m l p) p.ncv }
      else p) →
    above = (fun p => decide (p.role = .unfixed ∧ (p.max : Int) < p.mass)) →
    below = (fun p => decide (p.role = .unfixed ∧ p.mass < (p.min : Int))) →
    next = runPasses e (fuel + 1) k l →
    (unfixedOf l = [] → next = ⟨l, k + 1, m, false⟩) ∧
    (unfixedOf l ≠ [] → ((unfixedOf l).map Share.weight).sum = 0 →
      next = runPasses e fuel (k + 1) (l.map fun p =>
        if p.role = .unfixed then { p with role := .fixedMin, heat := fixedHeat p.min p.ncv, mass := p.min } else p)) ∧
    (((unfixedOf l).map Share.weight).sum ≠ 0 →
      ((∃ p ∈ g, above p = true) →
        next = runPasses e fuel (k + 1) (g.map fun p =>
          if above p = true then { p with role := .fixedMax, heat := fixedHeat p.max p.ncv, mass := p.max } else p)) ∧
      ((∀ p ∈ g, above p = false) → (∃ p ∈ g, below p = true) →
        next = runPasses e fuel (k + 1) (g.map fun p =>
          if below p = true then { p with role := .fixedMin, heat := fixedHeat p.min p.ncv, mass := p.min } else p)) ∧
      ((∀ p ∈ g, above p = false) → (∀ p ∈ g, below p = false) → next = ⟨g, k + 1, m, true⟩))

/-- At the dosing period expiry the period closes come first, one for each of the eight streams, then one computation
for MAIN and one for CALC; the order among the closes and of the two sites is the model's choice (log entry 5). A
computation allocates the site's effective demand over the streams as the lowering of the STOPPING ones leaves them:
its unplaced heat, its record and the planned setpoints of FIRING streams are those of that allocation. It leaves the
streams and the record of the other site as they are and advances its count modulo 65,536; OFF, READY and TRIPPED
streams are untouched; LIGHTING, HELD and CALIB keep their output; STOPPING falls by its ramp, to READY at 0, where a
no-flow report still on its way is void (the model's reading, log entry 4); a FIRING stream's output moves toward its
planned setpoint by at most its ramp and ends within its limits (R46, R61, R65, R68 to R70, R78). -/
def Obligations.DosingMovesOutputs : Prop :=
  (∀ s : State,
    exec .dosingPeriodExpiry s =
      .next (dose .calc (dose .main (periodCloses { s with dosingTimer := s.period.ms }))) ∧
    periodCloses s =
      periodClose (periodClose (periodClose (periodClose (periodClose (periodClose (periodClose (periodClose s
        0) 1) 2) 3) 4) 5) 6) 7 ∧
    ∀ i, (periodCloses s).stream i = (periodClose s i).stream i) ∧
  ∀ (x : Site) (s : State) (a : Allocation), a = State.allocation x { s with streams := lowerStreams x s.streams } →
    (∀ i : Fin 8, (lowerStreams x s.streams)[i] =
      if (s.stream i).limits.site = x ∧ (s.stream i).state = .stopping then
        if (s.stream i).output ≤ (s.stream i).limits.ramp then
          { s.stream i with state := .ready, output := 0, planned := 0, rate := 0, noFlowDue := false }
        else
          { s.stream i with
            output := (s.stream i).output - (s.stream i).limits.ramp
            rate := rateOf ((s.stream i).output - (s.stream i).limits.ramp) (s.stream i).limits.scale }
      else s.stream i) ∧
    SameBlocks { s with mainSite := (dose x s).mainSite, calcSite := (dose x s).calcSite } (dose x s) ∧
    (∀ y, y ≠ x → (dose x s).siteRec y = s.siteRec y) ∧
    (dose x s).siteRec x =
      { s.siteRec x with
        unplaced := a.unplaced
        unplacedCount := ((dose x s).siteRec x).unplacedCount
        unplacedCond := ((dose x s).siteRec x).unplacedCond
        compCount := ((s.siteRec x).compCount + 1) % 65536
        record := ((dose x s).siteRec x).record } ∧
    ((dose x s).siteRec x).record.passes = a.passes ∧ ((dose x s).siteRec x).record.lastM = a.lastM ∧
    (∀ i : Fin 8,
      ((s.stream i).limits.site ≠ x → ((dose x s).siteRec x).record.parts[i] = none) ∧
      ((s.stream i).limits.site = x →
        (∀ p ∈ a.parts, p.idx = i → ((dose x s).siteRec x).record.parts[i] = some ⟨p.role, p.heat⟩) ∧
        ((∀ p ∈ a.parts, p.idx ≠ i) → ((dose x s).siteRec x).record.parts[i] = some ⟨.none, 0⟩))) ∧
    ((dose x s).siteRec x).compCount = ((s.siteRec x).compCount + 1) % 65536 ∧
    ((dose x s).siteRec x).effective = (s.siteRec x).effective ∧
    ∀ i : Fin 8,
      ((s.stream i).limits.site ≠ x → (dose x s).stream i = s.stream i) ∧
      ((s.stream i).limits.site = x →
        ((s.stream i).state = .off ∨ (s.stream i).state = .ready ∨ (s.stream i).state = .tripped →
          (dose x s).stream i = s.stream i) ∧
        ((s.stream i).state = .lighting ∨ (s.stream i).state = .held ∨ (s.stream i).state = .calib →
          (dose x s).stream i = { s.stream i with planned := (s.stream i).output }) ∧
        ((s.stream i).state = .stopping → (s.stream i).output ≤ (s.stream i).limits.ramp →
          (dose x s).stream i =
            { s.stream i with state := .ready, output := 0, planned := 0, rate := 0, noFlowDue := false }) ∧
        ((s.stream i).state = .stopping → (s.stream i).limits.ramp < (s.stream i).output →
          (dose x s).stream i =
            { s.stream i with
              output := (s.stream i).output - (s.stream i).limits.ramp
              planned := (s.stream i).output - (s.stream i).limits.ramp
              rate := rateOf ((s.stream i).output - (s.stream i).limits.ramp) (s.stream i).limits.scale }) ∧
        ((s.stream i).state = .firing →
          ∃ m v : Nat,
            (∃ p ∈ a.parts, p.idx = i ∧ m = p.mass.toNat) ∧ (∀ p ∈ a.parts, p.idx = i → m = p.mass.toNat) ∧
            (dose x s).stream i =
              { s.stream i with planned := m, output := v, rate := rateOf v (s.stream i).limits.scale } ∧
            v = clampNat (s.stream i).limits.min (s.stream i).limits.max
              (if (s.stream i).output ≤ m then min m ((s.stream i).output + (s.stream i).limits.ramp)
               else max m ((s.stream i).output - (s.stream i).limits.ramp)) ∧
            ((s.stream i).limits.min ≤ (s.stream i).limits.max →
              (s.stream i).limits.min ≤ v ∧ v ≤ (s.stream i).limits.max)))

/-- After a computation the unplaced count is one more, at most 10, where a stream of the site was FIRING and heat is
unplaced, and 0 otherwise; SITE_UNPLACED is raised at P2 when the count becomes 10, SHORT or SURPLUS by the sign, and
cleared when the condition ends (R72). -/
def Obligations.UnplacedHeatRaisesAlarm : Prop :=
  ∀ (x : Site) (s w : State),
    w = { s with
      streams := (dose x s).streams, mainSite := (dose x s).mainSite, calcSite := (dose x s).calcSite } →
    ((∃ i, (s.stream i).limits.site = x ∧ (s.stream i).state = .firing) → ((dose x s).siteRec x).unplaced ≠ 0 →
      ((dose x s).siteRec x).unplacedCount = min 10 ((s.siteRec x).unplacedCount + 1) ∧
      (((dose x s).siteRec x).unplacedCond = true ↔
        (s.siteRec x).unplacedCond = true ∨ ((dose x s).siteRec x).unplacedCount = 10) ∧
      ((s.siteRec x).unplacedCond = false → ((dose x s).siteRec x).unplacedCond = true →
        dose x s =
          raiseAlarm
            ⟨.siteUnplaced x, .p2, some (if 0 < ((dose x s).siteRec x).unplaced then .short else .surplus)⟩ w) ∧
      ((s.siteRec x).unplacedCond = ((dose x s).siteRec x).unplacedCond → dose x s = w)) ∧
    (((∀ i, (s.stream i).limits.site = x → (s.stream i).state ≠ .firing) ∨
        ((dose x s).siteRec x).unplaced = 0) →
      ((dose x s).siteRec x).unplacedCount = 0 ∧ ((dose x s).siteRec x).unplacedCond = false ∧
      dose x s = (if (s.siteRec x).unplacedCond then clearAlarm (.siteUnplaced x) w else w))

/-! ### Feed measurement and calibration -/

/-- A mass pulse adds 1 to its stream's period pulse count, holding at 65,535, in every firing state, and 1 to an OPEN
record's pulse count, and touches nothing else (R77, R88). A period close books the pulses at the pulse weight, and at
the NCV where one is present, to the open shift; joins a window entry to a ring of at most 8; advances the window-fill
count in FIRING, HELD, CALIB and STOPPING; reckons the measured flow afresh; and sets the period pulse count to 0,
leaving the other streams alone; it changes nothing else but the supervision fields of its stream, with STREAM_DEVIATION
raised at P2 or cleared where the deviation condition changes (R78 to R84). -/
def Obligations.PulsesCountedAndBooked : Prop :=
  (∀ (s : State) (i : Fin 8), exec (.massPulse i) s =
      .next (s.modStream i fun x =>
        { x with
          pulses := min 65535 (x.pulses + 1)
          cal :=
            match x.cal with
            | some c => some (if c.state = .opened then { c with pulses := min 4294967295 (c.pulses + 1) } else c)
            | none => none })) ∧
  (∀ (s : State) (i : Fin 8),
      (∀ j, j ≠ i → (periodClose s i).stream j = s.stream j ∧
        (periodClose s i).su.shift.mass[j] = s.su.shift.mass[j] ∧
        (periodClose s i).su.shift.heat[j] = s.su.shift.heat[j]) ∧
      (periodClose s i).su.shift.mass[i] =
        min 18446744073709551615 (s.su.shift.mass[i] + (s.stream i).pulses * (s.stream i).plan.pulseWeight) ∧
      (∀ v, (s.stream i).plan.ncv = some v →
        (periodClose s i).su.shift.heat[i] =
          min 18446744073709551615
            (s.su.shift.heat[i] + (s.stream i).pulses * (s.stream i).plan.pulseWeight * v)) ∧
      ((s.stream i).plan.ncv = none → (periodClose s i).su.shift.heat[i] = min 18446744073709551615 s.su.shift.heat[i]) ∧
      ((s.stream i).ring.length < 8 →
        ((periodClose s i).stream i).ring = (s.stream i).ring ++ [⟨(s.stream i).pulses, (s.stream i).output⟩]) ∧
      ((s.stream i).ring.length = 8 →
        ((periodClose s i).stream i).ring =
          (s.stream i).ring.tail ++ [⟨(s.stream i).pulses, (s.stream i).output⟩]) ∧
      ((periodClose s i).stream i).flow =
        min 65535 ((((periodClose s i).stream i).ring.map WindowEntry.pulses).sum * (s.stream i).plan.pulseWeight * 3600 /
          (((periodClose s i).stream i).ring.length * s.period.ms)) ∧
      ((periodClose s i).stream i).fill =
        (if (s.stream i).state = .firing ∨ (s.stream i).state = .held ∨ (s.stream i).state = .calib ∨
            (s.stream i).state = .stopping then min 8 ((s.stream i).fill + 1) else (s.stream i).fill) ∧
      ((periodClose s i).stream i).pulses = 0 ∧
      ((periodClose s i).stream i).state = (s.stream i).state ∧
      ((periodClose s i).stream i).output = (s.stream i).output) ∧
  ∀ (s w : State) (i : Fin 8) (x y : Stream), x = s.stream i → y = (periodClose s i).stream i →
    w = { s with
      streams := s.streams.set i y
      su :=
        { s.su with
          shift :=
            { s.su.shift with
              mass := s.su.shift.mass.set i
                (min 18446744073709551615 (s.su.shift.mass[i] + x.pulses * x.plan.pulseWeight))
              heat := s.su.shift.heat.set i
                (min 18446744073709551615
                  (s.su.shift.heat[i] + x.pulses * x.plan.pulseWeight * x.plan.ncv.getD 0)) } } } →
    y = { x with
      pulses := 0, ring := y.ring, fill := y.fill, flow := y.flow, devCounter := y.devCounter
      retCounter := y.retCounter, devCond := y.devCond, noFlowCounter := y.noFlowCounter, noFlowDue := y.noFlowDue } ∧
    (x.devCond = y.devCond → periodClose s i = w) ∧
    (x.devCond = false → y.devCond = true → periodClose s i = raiseAlarm ⟨.streamDeviation i, .p2, none⟩ w) ∧
    (x.devCond = true → y.devCond = false → periodClose s i = clearAlarm (.streamDeviation i) w)

/-- Supervision at a period close: outside FIRING and HELD with a full window every counter is 0 and the deviation
condition inactive; under supervision the deviation and return counters, the deviation condition and the no-flow
counter follow R84 and R85, and a no-flow count reached makes the report (R83 to R85). The report waits in the model's
own flag noFlowDue (log entry 4). -/
def Obligations.PeriodCloseSupervises : Prop :=
  ∀ (s w : State) (i : Fin 8) (x y : Stream) (a : Nat), x = s.stream i → y = (periodClose s i).stream i →
    w = { s with
      streams := s.streams.set i y
      su :=
        { s.su with
          shift :=
            { s.su.shift with mass := (periodClose s i).su.shift.mass, heat := (periodClose s i).su.shift.heat } } } →
    a = (y.ring.map WindowEntry.output).sum / 8 →
    (¬((x.state = .firing ∨ x.state = .held) ∧ y.fill = 8) →
      y.devCounter = 0 ∧ y.retCounter = 0 ∧ y.noFlowCounter = 0 ∧ y.devCond = false ∧ y.noFlowDue = x.noFlowDue) ∧
    ((x.state = .firing ∨ x.state = .held) ∧ y.fill = 8 →
      (x.devCond = false → a * x.plan.band < (max y.flow a - min y.flow a) * 100 →
        (x.plan.devCount ≤ min 60 (x.devCounter + 1) → y.devCond = true ∧ y.devCounter = 0 ∧ y.retCounter = 0) ∧
        (min 60 (x.devCounter + 1) < x.plan.devCount → y.devCond = false ∧ y.devCounter = min 60 (x.devCounter + 1))) ∧
      (x.devCond = false → (max y.flow a - min y.flow a) * 100 ≤ a * x.plan.band →
        y.devCond = false ∧ y.devCounter = 0) ∧
      (x.devCond = true → a * x.plan.band < (max y.flow a - min y.flow a) * 100 →
        y.devCond = true ∧ y.retCounter = 0) ∧
      (x.devCond = true → (max y.flow a - min y.flow a) * 100 ≤ a * x.plan.band →
        (x.retCounter = 3 → y.devCond = false ∧ y.devCounter = 0 ∧ y.retCounter = 0) ∧
        (x.retCounter ≠ 3 → y.devCond = true ∧ y.retCounter = x.retCounter + 1)) ∧
      (y.flow < a / 10 →
        (x.limits.noFlowCount ≤ min 60 (x.noFlowCounter + 1) → y.noFlowCounter = 0 ∧ y.noFlowDue = true) ∧
        (min 60 (x.noFlowCounter + 1) < x.limits.noFlowCount →
          y.noFlowCounter = min 60 (x.noFlowCounter + 1) ∧ y.noFlowDue = x.noFlowDue)) ∧
      (a / 10 ≤ y.flow → y.noFlowCounter = 0 ∧ y.noFlowDue = x.noFlowDue)) ∧
    periodClose s i =
      (if x.devCond = false ∧ y.devCond = true then raiseAlarm ⟨.streamDeviation i, .p2, none⟩ w
       else if x.devCond = true ∧ y.devCond = false then clearAlarm (.streamDeviation i) w else w)

/-- CAL_START opens a record for a FIRING stream without one; CAL_STOP and the end of the window latch it, SHORT below
60,000 ms at CAL_STOP and DONE otherwise, with CAL set on all links, the stream FIRING again with its output kept and
the pulse count kept; CAL_DISCARD removes a latched record (R47, R87, R89, R90, R94). CAL_ACCEPT on a DONE record with
pulses, outside TRIPPED, writes round_half_up(R × 1,000 / N) clamped into 90 and 110 per cent of the old weight and
65,535, removes the record and counts one accepted calibration, answering OK where the value lay within the bounds and
OK_CLAMPED otherwise; its checks refuse in the order of R92 (R92, R93). The event command of the window is its
running-out itself, so it latches an OPEN record without asking how much time is left: the model's reading (log entry
3). -/
def Obligations.CalibrationTaken : Prop :=
  ((∀ (r : Request) (s : State) (i : Fin 8), Sent [.proc] 1 r s → u8 r.body 0 = i.val →
      ((s.stream i).state = .firing → (s.stream i).cal = none →
        exec (.calStart r) s =
          .next (giveAnswer .proc 0x27#8 .ok (be8 i.val ++ [0x05#8])
            ((openRequest r s).modStream i fun x =>
              { x with
                state := .calib
                cal := some ⟨.opened, s.su.clock, x.output, x.plan.pulseWeight, 0, 0⟩ }))) ∧
      ((s.stream i).state ≠ .firing ∨ (s.stream i).cal ≠ none →
        exec (.calStart r) s = .next (giveAnswer .proc 0x27#8 .wrongState [] (openRequest r s))) ∧
      ((s.stream i).state ≠ .calib →
        exec (.calStop r) s = .next (giveAnswer .proc 0x28#8 .wrongState [] (openRequest r s))) ∧
      (∀ c, (s.stream i).state = .calib → (s.stream i).cal = some c → c.state = .opened →
        exec (.calStop r) s =
          .next (giveAnswer .proc 0x28#8 .ok
            (be8 i.val ++ [0x03#8] ++ [if c.elapsed < 60000 then 0x02#8 else 0x03#8] ++ be32 c.pulses ++ be32 c.elapsed)
            (((openRequest r s).modStream i fun x =>
              { x with
                state := .firing
                cal := some { c with state := if c.elapsed < 60000 then .short else .done } }).setFactors
                ⟨false, false, false, true⟩))) ∧
      ((s.stream i).calOpen = true ∨ (s.stream i).cal = none →
        exec (.calDiscard r) s = .next (giveAnswer .proc 0x2A#8 .wrongState [] (openRequest r s))) ∧
      (∀ c, (s.stream i).cal = some c → c.state ≠ .opened →
        exec (.calDiscard r) s =
          .next (giveAnswer .proc 0x2A#8 .ok (be8 i.val ++ be8 (calStateByte c.state))
            ((openRequest r s).modStream i fun x => { x with cal := none })))) ∧
    ∀ (s : State) (i : Fin 8) (c : CalRecord), (s.stream i).cal = some c → c.state = .opened →
      (s.stream i).state = .calib →
      exec (.calWindowTimeout i) s =
        .next ((s.modStream i fun x =>
          { x with state := .firing, cal := some { c with state := .done, elapsed := 3600000 } }).setFactors
            ⟨false, false, false, true⟩)) ∧
  (∀ (r : Request) (s : State) (i : Fin 8), Sent [.proc] 5 r s → u8 r.body 0 = i.val →
      (u32 r.body 1 < 1 ∨ 100000 < u32 r.body 1 →
        exec (.calAccept r) s = .next (giveAnswer .proc 0x29#8 .range [] (openRequest r s))) ∧
      (1 ≤ u32 r.body 1 → u32 r.body 1 ≤ 100000 →
        ((s.stream i).state = .tripped ∨ (s.stream i).cal = none ∨
            (∃ c, (s.stream i).cal = some c ∧ (c.state ≠ .done ∨ c.pulses = 0)) →
          exec (.calAccept r) s = .next (giveAnswer .proc 0x29#8 .wrongState [] (openRequest r s))) ∧
        ∀ c, (s.stream i).state ≠ .tripped → (s.stream i).cal = some c → c.state = .done → c.pulses ≠ 0 →
          ∃ v lo hi g : Nat,
            g = (s.stream i).plan.pulseWeight ∧ v = (u32 r.body 1 * 1000 * 2 + c.pulses) / (2 * c.pulses) ∧
            lo = (g * 90 + 50) / 100 ∧ hi = min 65535 ((g * 110 + 50) / 100) ∧
            exec (.calAccept r) s =
              .next (giveAnswer .proc 0x29#8 (if lo ≤ v ∧ v ≤ hi then .ok else .okClamped)
                (be8 i.val ++ be32 (u32 r.body 1) ++ be32 c.pulses ++ be16 g ++ be32 v ++
                  be16 (if v < lo then lo else if hi < v then hi else v))
                (((openRequest r s).modStream i fun x =>
                  { x with
                    plan := { x.plan with pulseWeight := if v < lo then lo else if hi < v then hi else v }
                    cal := none }).modShift fun o => { o with cals := min 65535 (o.cals + 1) }))))

/-! ### Measurement words and cutback -/

/-- PUT_MEAS stores the value clamped into the slot's range, restarts its stale timer, makes the slot fresh, clears an
active stale alarm, and hands the value to the watching sets, saying OK_CLAMPED where the clamp moved it (R99).
SET_MEAS_CONFIG replaces range and stale time and clamps the value, handing it on only where a fresh slot's value
moved; a range low above range high or a stale time outside 2 to 30 s is refused RANGE (R98). The stale timer running
out sets the stale flag with the value held, raises MEAS_STALE at P3, and freezes the running delay timers of the sets
that watch the slot (R100, R109). The event command of the stale timer is its running-out itself, taken without asking
how much time is left: the model's reading (log entry 3). -/
def Obligations.SlotsTakeAndLoseValues : Prop :=
  ((∀ (r : Request) (s : State) (n : Fin 8) (v : Int), Sent [.proc] 3 r s → u8 r.body 0 = n.val → v = s16 r.body 1 →
      exec (.putMeas r) s =
        .next (giveAnswer .proc 0x2B#8
          (if clampInt (s.slot n).low (s.slot n).high v = v then .ok else .okClamped)
          (be8 n.val ++ beS16 (clampInt (s.slot n).low (s.slot n).high v) ++ [0x00#8])
          (handFresh n
            (if (s.slot n).alarm = true then
              clearAlarm (.measStale n) ((openRequest r s).modSlot n fun x =>
                { x with
                  value := clampInt x.low x.high v, timer := some (x.staleTime * 1000), isStale := false, alarm := false })
             else (openRequest r s).modSlot n fun x =>
                { x with value := clampInt x.low x.high v, timer := some (x.staleTime * 1000), isStale := false })))) ∧
    (∀ (r : Request) (s : State), Sent [.proc] 3 r s → 7 < u8 r.body 0 →
      exec (.putMeas r) s = .next (giveAnswer .proc 0x2B#8 .badIndex [] (openRequest r s))) ∧
    ∀ (r : Request) (s : State) (n : Fin 8) (lo hi v : Int), Sent [.proc] 6 r s → u8 r.body 0 = n.val →
      lo = s16 r.body 1 → hi = s16 r.body 3 → v = clampInt lo hi (s.slot n).value →
      (hi < lo ∨ u8 r.body 5 < 2 ∨ 30 < u8 r.body 5 →
        exec (.setMeasConfig r) s = .next (giveAnswer .proc 0x2C#8 .range [] (openRequest r s))) ∧
      (lo ≤ hi → 2 ≤ u8 r.body 5 → u8 r.body 5 ≤ 30 →
        ∃ u, u = ((openRequest r s).modSlot n fun x =>
            { x with low := lo, high := hi, staleTime := u8 r.body 5, value := v }) ∧
          exec (.setMeasConfig r) s =
            .next (giveAnswer .proc 0x2C#8 (if v = (s.slot n).value then .ok else .okClamped) (be8 n.val ++ beS16 v)
              (if v ≠ (s.slot n).value ∧ (s.slot n).isStale = false then handFresh n u else u)))) ∧
  (∀ (s : State) (n : Fin 8), (s.slot n).timer ≠ none →
      ∃ t, exec (.staleTimerExpiry n) s = .next t ∧
        t.slot n = { s.slot n with isStale := true, timer := none, alarm := true } ∧
        (∀ m, m ≠ n → t.slot m = s.slot m) ∧
        t = { raiseAlarm ⟨.measStale n, .p3, none⟩
            (s.modSlot n fun x => { x with isStale := true, timer := none, alarm := true }) with sets := t.sets } ∧
        (∀ k, t.cutSet k =
          { s.cutSet k with
            timer :=
              match (s.cutSet k).timer with
              | .running ms =>
                if (s.cutSet k).enable = true ∧ (s.cutSet k).slot = n then .frozen ms else .running ms
              | other => other }) ∧
        t.streams = s.streams ∧ t.mainSite = s.mainSite ∧ t.calcSite = s.calcSite ∧ t.cooler = s.cooler ∧
        t.contacts = s.contacts)

/-- A fresh value acts on an enabled set by its state (R106, R108): IDLE with its condition true starts its delay, or
is activated at once with delay 0 s; TIMING resumes or goes IDLE; ACTIVE is released only past the release point. It
is handed to exactly the enabled sets that watch the slot, in set order 0 to 3, each acting on its own, and nothing
else happens (R99, R110). -/
def Obligations.FreshValueActsBySetState : Prop :=
  (∀ (v : Int) (k : Fin 4) (s : State) (c : CutSet) (met past : Prop), c = s.cutSet k →
    (met ↔ (c.sense = .above ∧ c.threshold < v) ∨ (c.sense = .below ∧ v < c.threshold)) →
    (past ↔ (c.sense = .above ∧ v < c.threshold - c.hysteresis) ∨ (c.sense = .below ∧ c.threshold + c.hysteresis < v)) →
    (c.state = .disabled → freshValue v k s = s) ∧
    (c.state = .idle → ¬met → freshValue v k s = s) ∧
    (c.state = .idle → met → c.delay = 0 → freshValue v k s = activate k s) ∧
    (c.state = .idle → met → c.delay ≠ 0 →
      freshValue v k s = s.modSet k fun _ => { c with state := .timing, timer := .running (c.delay * 1000) }) ∧
    (c.state = .timing → ¬met → freshValue v k s = s.modSet k fun _ => { c with state := .idle, timer := .stopped }) ∧
    (∀ ms, c.state = .timing → met → c.timer = .frozen ms →
      freshValue v k s = s.modSet k fun _ => { c with timer := .running ms }) ∧
    (∀ ms, c.state = .timing → met → c.timer = .running ms → freshValue v k s = s) ∧
    (c.state = .active → ¬past → freshValue v k s = s) ∧
    (c.state = .active → past → freshValue v k s = deactivate k s)) ∧
  ∀ (n : Fin 8) (s : State) (k : Fin 4),
    (((s.cutSet k).enable = false ∨ (s.cutSet k).slot ≠ n) → (handFresh n s).cutSet k = s.cutSet k) ∧
    (((s.cutSet k).enable = true ∧ (s.cutSet k).slot = n) →
      (handFresh n s).cutSet k = (freshValue (s.slot n).value k s).cutSet k) ∧
    (handFresh n s).slots = s.slots ∧
    ∃ w : Nat → State, w 0 = s ∧ w 4 = handFresh n s ∧ ∀ j : Fin 4,
      ((s.cutSet j).enable = true → (s.cutSet j).slot = n →
        w (j.val + 1) = freshValue (s.slot n).value j (w j.val)) ∧
      ((s.cutSet j).enable = false ∨ (s.cutSet j).slot ≠ n → w (j.val + 1) = w j.val)

/-- A set entering ACTIVE stops its timer, raises CUTBACK at P2 and offers its cut to each site it names; a release
withdraws the offers, clears the condition and makes the set IDLE; the delay timer running out on a TIMING set
activates it, and a frozen or stopped timer has no expiry (R107 to R109). A stopped or frozen timer has no expiry by
the model's reading (log entry 3). -/
def Obligations.CutIsOfferedWhileActive : Prop :=
  ∀ (k : Fin 4) (s : State) (c : CutSet), c = s.cutSet k →
    ((activate k s).cutSet k = { c with state := .active, timer := .stopped } ∧
      activate k s =
        { raiseAlarm ⟨.cutback k, .p2, none⟩ (s.modSet k fun _ => { c with state := .active, timer := .stopped }) with
          mainSite := (activate k s).mainSite, calcSite := (activate k s).calcSite } ∧
      ∀ x : Site, (activate k s).siteRec x =
        if c.sites = .both ∨ (c.sites = .main ∧ x = .main) ∨ (c.sites = .calc ∧ x = .calc) then
          SiteRec.recompute { s.siteRec x with setOffers := (s.siteRec x).setOffers.set k (some c.cut) }
        else s.siteRec x) ∧
    ((deactivate k s).cutSet k = { c with state := .idle, timer := .stopped } ∧
      deactivate k s =
        { clearAlarm (.cutback k) (s.modSet k fun _ => { c with state := .idle, timer := .stopped }) with
          mainSite := (deactivate k s).mainSite, calcSite := (deactivate k s).calcSite } ∧
      ∀ x : Site, (deactivate k s).siteRec x =
        if c.sites = .both ∨ (c.sites = .main ∧ x = .main) ∨ (c.sites = .calc ∧ x = .calc) then
          SiteRec.recompute { s.siteRec x with setOffers := (s.siteRec x).setOffers.set k none }
        else s.siteRec x) ∧
    (∀ ms, c.state = .timing → c.timer = .running ms → exec (.delayTimerExpiry k) s = .next (activate k s)) ∧
    (c.state ≠ .timing ∨ (∀ ms, c.timer ≠ .running ms) → exec (.delayTimerExpiry k) s = .next s)

/-- SET_CUTBACK: the body carries the fields at the positions and in the ranges given. A set above 3 or a slot above 7
is refused BAD_INDEX, a field out of range RANGE; otherwise an ACTIVE set is withdrawn first, the fields are replaced
with the set DISABLED or IDLE, and an enabled set on a fresh slot is tested at once (R105). -/
def Obligations.SetCutbackRewritesSet : Prop :=
  (∀ (b : List Byte) (n : Fin 8) (c : CutSet), cutSetOf b n = some c ↔
    u8 b 1 = c.enable.toNat ∧ c.slot = n ∧ u8 b 3 = cutSenseByte c.sense ∧ c.threshold = s16 b 4 ∧
    c.hysteresis = u16 b 6 ∧ c.delay = u8 b 8 ∧ u8 b 9 = cutSitesByte c.sites ∧ c.cut = u8 b 10 ∧
    c.hysteresis ≤ 10000 ∧ c.delay ≤ 60 ∧ c.cut ≤ 50 ∧ c.timer = .stopped ∧
    c.state = (if c.enable = true then .idle else .disabled)) ∧
  ∀ (r : Request) (s : State), Sent [.proc] 11 r s →
    (3 < u8 r.body 0 ∨ 7 < u8 r.body 2 →
      exec (.setCutback r) s = .next (giveAnswer .proc 0x2D#8 .badIndex [] (openRequest r s))) ∧
    ∀ (k : Fin 4) (n : Fin 8), u8 r.body 0 = k.val → u8 r.body 2 = n.val →
      (cutSetOf r.body n = none →
        exec (.setCutback r) s = .next (giveAnswer .proc 0x2D#8 .range [] (openRequest r s))) ∧
      ∀ c, cutSetOf r.body n = some c →
        c.slot = n ∧ c.timer = .stopped ∧ c.state = (if c.enable = true then .idle else .disabled) ∧
        c.threshold = s16 r.body 4 ∧ c.hysteresis = u16 r.body 6 ∧ c.delay = u8 r.body 8 ∧ c.cut = u8 r.body 10 ∧
        ∃ a b u, a = (if (s.cutSet k).state = .active then deactivate k (openRequest r s) else openRequest r s) ∧
          b = (a.modSet k fun _ => c) ∧
          u = (if c.enable = true ∧ (s.slot n).isStale = false then freshValue (s.slot n).value k b else b) ∧
          exec (.setCutback r) s =
            .next (giveAnswer .proc 0x2D#8 .ok (be8 k.val ++ be8 (setStateByte (u.cutSet k).state)) u)

/-! ### Clinker cooler -/

/-- SET_COOLER carries the settings, the section fields and the ratios at the positions and in the ranges given. It
refuses a slot above 7 BAD_INDEX, and a value out of range or an smin above its smax RANGE; taken, it replaces
settings, ratios and section fields with the manual rates clamped, brings the outputs to 0 under the stop cause, to
the manual rates in MANUAL or below the new smax in AUTO, with the stall timers following, and replaces a standing
holdback offer (R113, R114, R121). -/
def Obligations.SetCoolerReplacesSettings : Prop :=
  (∀ (b : List Byte) (n : Fin 8),
    settingsOf b n =
      { target := u16 b 0, base := u16 b 2, gain := u8 b 4, holdbackPressure := u16 b 5, holdbackTime := u16 b 7
        holdbackCut := u8 b 9, clinkerPerStroke := u16 b 10, slot := n } ∧
    (coolerInRange b n = true ↔
      u16 b 0 ≤ 32767 ∧ u16 b 2 ≤ 300 ∧ u8 b 4 ≤ 50 ∧ u16 b 5 ≤ 32767 ∧ 10 ≤ u16 b 7 ∧ u16 b 7 ≤ 300 ∧
      u8 b 9 ≤ 30 ∧ 1 ≤ u16 b 10 ∧ u16 b 10 ≤ 2000 ∧
      (∀ k : Fin 4, u16 b (13 + 5 * k.val) ≤ 300 ∧ u16 b (15 + 5 * k.val) ≤ 300 ∧ 1 ≤ u8 b (17 + 5 * k.val) ∧
        u8 b (17 + 5 * k.val) ≤ 20) ∧
      ∀ k, 33 ≤ k → k ≤ 35 → 50 ≤ u8 b k ∧ u8 b k ≤ 200) ∧
    (coolerOrdered b = true ↔ ∀ k : Fin 4, u16 b (13 + 5 * k.val) ≤ u16 b (15 + 5 * k.val))) ∧
  ∀ (r : Request) (s : State), Sent [.proc] 36 r s →
    (7 < u8 r.body 12 → exec (.setCooler r) s = .next (giveAnswer .proc 0x2E#8 .badIndex [] (openRequest r s))) ∧
    ∀ n : Fin 8, u8 r.body 12 = n.val →
      (coolerInRange r.body n = false ∨ coolerOrdered r.body = false →
        exec (.setCooler r) s = .next (giveAnswer .proc 0x2E#8 .range [] (openRequest r s))) ∧
      (coolerInRange r.body n = true → coolerOrdered r.body = true →
        ∃ u, exec (.setCooler r) s = .next (giveAnswer .proc 0x2E#8 .ok (coolerBytes u.cooler) u) ∧
          u = { openRequest r s with cooler := u.cooler, mainSite := u.mainSite, calcSite := u.calcSite } ∧
          u.cooler = { s.cooler with
            settings := settingsOf r.body n
            ratios := #v[u8 r.body 33, u8 r.body 34, u8 r.body 35]
            sections := u.cooler.sections } ∧
          (∀ x, u.siteRec x =
            if s.cooler.holdback = true then
              SiteRec.recompute { s.siteRec x with holdbackOffer := some (u8 r.body 9) }
            else s.siteRec x) ∧
          ∀ k : Fin 4,
            u.cooler.sections[k] =
              { s.cooler.sections[k] with
                smin := u16 r.body (13 + 5 * k.val)
                smax := u16 r.body (15 + 5 * k.val)
                step := u8 r.body (17 + 5 * k.val)
                manual :=
                  clampNat (u16 r.body (13 + 5 * k.val)) (u16 r.body (15 + 5 * k.val)) s.cooler.sections[k].manual
                output := u.cooler.sections[k].output
                stall := u.cooler.sections[k].stall } ∧
            u.cooler.sections[k].output =
              (if s.cooler.stopContacts ≠ [] then 0
               else if s.cooler.mode = .manual then u.cooler.sections[k].manual
               else min s.cooler.sections[k].output (u16 r.body (15 + 5 * k.val))) ∧
            DrivenTo u.cooler.sections[k].output
              { s.cooler.sections[k] with
                smin := u16 r.body (13 + 5 * k.val)
                smax := u16 r.body (15 + 5 * k.val)
                step := u8 r.body (17 + 5 * k.val)
                manual :=
                  clampNat (u16 r.body (13 + 5 * k.val)) (u16 r.body (15 + 5 * k.val)) s.cooler.sections[k].manual }
              u.cooler.sections[k])

/-- COOLER_MODE naming MANUAL clamps and stores the four rates, drops the pressure count and cause with holdback
brought up to date, and drives the outputs at the manual rates or 0 under the stop cause; naming AUTO it changes the
mode and the pressure count alone, and nothing where the mode is AUTO already; a length that does not fit the mode, and
a byte that names neither mode, are refused RANGE (R115). Nothing else changes but what holdback brought up to date
changes (R125). Which of the two rows a body falls under is the model's choice (log entry 9). -/
def Obligations.CoolerModeTaken : Prop :=
  (∀ (r : Request) (s : State), Sent [.proc] 9 r s → u8 r.body 0 = 0x00 →
    ∃ u w sections, exec (.coolerModeManual r) s =
        .next (giveAnswer .proc 0x2F#8
          (if ∀ k : Fin 4, clampNat s.cooler.sections[k].smin s.cooler.sections[k].smax (u16 r.body (1 + 2 * k.val)) =
              u16 r.body (1 + 2 * k.val) then .ok else .okClamped)
          (coolerBytes u.cooler) u) ∧
      w = refreshHoldback { openRequest r s with
        cooler :=
          { s.cooler with sections := sections, mode := .manual, pressureCount := 0, pressureCause := false } } ∧
      (∀ k : Fin 4, sections[k] =
        { s.cooler.sections[k] with
          manual := clampNat s.cooler.sections[k].smin s.cooler.sections[k].smax (u16 r.body (1 + 2 * k.val)) }) ∧
      u = { w with cooler := { w.cooler with sections := u.cooler.sections } } ∧
      (∀ k : Fin 4, u.cooler.sections[k] =
        { sections[k] with output := u.cooler.sections[k].output, stall := u.cooler.sections[k].stall }) ∧
      (∀ k : Fin 4, DrivenTo u.cooler.sections[k].output sections[k] u.cooler.sections[k]) ∧
      (∀ k : Fin 4, s.cooler.sections[k].stalled = false →
        u.cooler.sections[k].stall =
          (if u.cooler.sections[k].output = 0 then none
           else if s.cooler.sections[k].output = 0 then some 30000 else s.cooler.sections[k].stall)) ∧
      u.cooler.mode = .manual ∧ u.cooler.pressureCount = 0 ∧ u.cooler.pressureCause = false ∧
      u.cooler.settings = s.cooler.settings ∧
      u.cooler.holdback = (s.cooler.stallCause || !s.cooler.stopContacts.isEmpty) ∧
      ∀ k : Fin 4,
        u.cooler.sections[k].manual =
          clampNat s.cooler.sections[k].smin s.cooler.sections[k].smax (u16 r.body (1 + 2 * k.val)) ∧
        u.cooler.sections[k].output =
          (if s.cooler.stopContacts ≠ [] then 0 else u.cooler.sections[k].manual)) ∧
  (∀ (r : Request) (s : State), Sent [.proc] 1 r s → u8 r.body 0 = 0x01 →
    exec (.coolerModeAuto r) s =
      .next (giveAnswer .proc 0x2F#8 .ok (coolerBytes { s.cooler with mode := .auto })
        { openRequest r s with
          cooler :=
            if s.cooler.mode = .auto then s.cooler else { s.cooler with mode := .auto, pressureCount := 0 } })) ∧
  (∀ (r : Request) (s : State), Sent [.proc] 1 r s → u8 r.body 0 ≠ 0x01 →
    exec (.coolerModeManual r) s = .next (giveAnswer .proc 0x2F#8 .range [] (openRequest r s))) ∧
  (∀ (r : Request) (s : State), Sent [.proc] 9 r s → u8 r.body 0 ≠ 0x00 →
    exec (.coolerModeManual r) s = .next (giveAnswer .proc 0x2F#8 .range [] (openRequest r s))) ∧
  ∀ (r : Request) (s : State), Sent [.proc] 9 r s → u8 r.body 0 = 0x01 →
    exec (.coolerModeAuto r) s = .next (giveAnswer .proc 0x2F#8 .range [] (openRequest r s))

/-- A cooler period in MANUAL changes no output; in AUTO with the slot fresh section 1 moves toward its aim by at most
its step and into its limits and the others follow by their ratios, and with the slot stale the outputs are clamped
into their limits; under the stop cause every output is 0 (R112, R116 to R118, R124). The pressure test of a period in
AUTO with the slot fresh counts the periods at smax with the pressure reached, makes the cause stand when the count
reaches the holdback time, and drops it below the target, testing entry again; with the slot stale count and cause
hold (R122). With the slot fresh the raw rate is stored, also under the stop cause (R124), and holdback is brought up
to date (R125); with it stale the raw rate holds. The stall timers follow the outputs (R121), and nothing else
changes. -/
def Obligations.CoolerPeriodTaken : Prop :=
  (∀ s : State, ∃ t, exec .coolerPeriod s = .next t ∧
      t.cooler.timer = 1000 ∧ t.cooler.mode = s.cooler.mode ∧ t.cooler.settings = s.cooler.settings ∧
      t.streams = s.streams ∧ t.contacts = s.contacts ∧ t.slots = s.slots ∧
      (s.cooler.mode = .manual → t = { s with cooler := { s.cooler with timer := 1000 } }) ∧
      (s.cooler.mode = .auto → s.cooler.stopContacts = [] →
        ((s.slot s.cooler.settings.slot).isStale = true → ∀ k : Fin 4,
          t.cooler.sections[k].output =
            clampNat s.cooler.sections[k].smin s.cooler.sections[k].smax s.cooler.sections[k].output) ∧
        ((s.slot s.cooler.settings.slot).isStale = false →
          ∃ raw : Int, ∃ aim : Nat,
            raw = s.cooler.settings.base +
              s.cooler.settings.gain * ((s.slot s.cooler.settings.slot).value - s.cooler.settings.target) ∧
            t.cooler.lastRaw = raw ∧
            (aim : Int) = clampInt s.cooler.sections[0].smin s.cooler.sections[0].smax raw ∧
            t.cooler.sections[0].output =
              clampNat s.cooler.sections[0].smin s.cooler.sections[0].smax
                (if s.cooler.sections[0].output ≤ aim then min aim (s.cooler.sections[0].output + s.cooler.sections[0].step)
                 else max aim (s.cooler.sections[0].output - s.cooler.sections[0].step)) ∧
            t.cooler.sections[1].output =
              clampNat s.cooler.sections[1].smin s.cooler.sections[1].smax
                ((t.cooler.sections[0].output * s.cooler.ratios[0] + 50) / 100) ∧
            t.cooler.sections[2].output =
              clampNat s.cooler.sections[2].smin s.cooler.sections[2].smax
                ((t.cooler.sections[0].output * s.cooler.ratios[1] + 50) / 100) ∧
            t.cooler.sections[3].output =
              clampNat s.cooler.sections[3].smin s.cooler.sections[3].smax
                ((t.cooler.sections[0].output * s.cooler.ratios[2] + 50) / 100))) ∧
      (s.cooler.mode = .auto → s.cooler.stopContacts ≠ [] → ∀ k : Fin 4, t.cooler.sections[k].output = 0) ∧
      (∀ k : Fin 4, s.cooler.mode = .auto →
        DrivenTo t.cooler.sections[k].output s.cooler.sections[k] t.cooler.sections[k]) ∧
      (s.cooler.mode = .auto →
        ((s.slot s.cooler.settings.slot).isStale = true →
          t = { s with cooler := { s.cooler with timer := 1000, sections := t.cooler.sections } }) ∧
        ((s.slot s.cooler.settings.slot).isStale = false →
          t = refreshHoldback { s with
            cooler :=
              { s.cooler with
                timer := 1000
                sections := t.cooler.sections
                lastRaw :=
                  s.cooler.settings.base +
                    s.cooler.settings.gain * ((s.slot s.cooler.settings.slot).value - s.cooler.settings.target)
                pressureCount := t.cooler.pressureCount
                pressureCause := t.cooler.pressureCause } }))) ∧
  (∀ (s t : State) (p : Int), exec .coolerPeriod s = .next t → s.cooler.mode = .auto →
      p = (s.slot s.cooler.settings.slot).value →
      ((s.slot s.cooler.settings.slot).isStale = true →
        t.cooler.pressureCount = s.cooler.pressureCount ∧ t.cooler.pressureCause = s.cooler.pressureCause) ∧
      ((s.slot s.cooler.settings.slot).isStale = false →
        (s.cooler.pressureCause = true → (s.cooler.settings.target : Int) ≤ p →
          t.cooler.pressureCause = true ∧ t.cooler.pressureCount = s.cooler.pressureCount) ∧
        ∀ n : Nat, (s.cooler.pressureCause = false ∧ n = s.cooler.pressureCount ∨
            s.cooler.pressureCause = true ∧ p < s.cooler.settings.target ∧ n = 0) →
          (t.cooler.sections[0].output = s.cooler.sections[0].smax ∧ (s.cooler.settings.holdbackPressure : Int) ≤ p →
            (s.cooler.settings.holdbackTime ≤ min 300 (n + 1) →
              t.cooler.pressureCause = true ∧ t.cooler.pressureCount = 0) ∧
            (min 300 (n + 1) < s.cooler.settings.holdbackTime →
              t.cooler.pressureCause = false ∧ t.cooler.pressureCount = min 300 (n + 1))) ∧
          (t.cooler.sections[0].output ≠ s.cooler.sections[0].smax ∨ p < s.cooler.settings.holdbackPressure →
            t.cooler.pressureCause = false ∧ t.cooler.pressureCount = 0)))

/-- A stroke of section 1 adds one stroke and the clinker per stroke to the totals, which wrap, and to the open shift,
which saturates; a stroke of any section clears its stalled flag and restarts the stall timer of a driven section with
30 s, and ends the SECTION_STALLED condition of a stalled one; a stall timer running out sets the flag, stops, and
raises SECTION_STALLED at P1, and a stopped one has no effect; the stall cause stands while a section is stalled, and
holdback follows it (R120, R121, R123). The event command of the stall timer is its running-out itself, taken without
asking how much time is left: the model's reading (log entry 3). Holdback brought up to date follows the three causes:
becoming active it raises COOLER_HOLDBACK at P2 and offers the holdback cut to both sites, becoming inactive it
withdraws the offers and clears the condition, and with no change it does nothing (R125). -/
def Obligations.CoolerCausesStand : Prop :=
  ((∀ (s : State) (n : Fin 4), ∃ t, exec (.strokePulse n) s = .next t ∧
      (n = 0 →
        t.cooler.strokes = (s.cooler.strokes + 1) % 4294967296 ∧
        t.cooler.clinker = (s.cooler.clinker + s.cooler.settings.clinkerPerStroke) % 4294967296 ∧
        t.su.shift.strokes = min 4294967295 (s.su.shift.strokes + 1) ∧
        t.su.shift.clinker = min 4294967295 (s.su.shift.clinker + s.cooler.settings.clinkerPerStroke)) ∧
      (n ≠ 0 → t.cooler.strokes = s.cooler.strokes ∧ t.cooler.clinker = s.cooler.clinker ∧
        t.su.shift.strokes = s.su.shift.strokes ∧ t.su.shift.clinker = s.su.shift.clinker) ∧
      t.cooler.sections[n].stalled = false ∧ t.cooler.sections[n].output = s.cooler.sections[n].output ∧
      (s.cooler.sections[n].output ≠ 0 → t.cooler.sections[n].stall = some 30000) ∧
      (∀ m : Fin 4, m ≠ n → t.cooler.sections[m] = s.cooler.sections[m]) ∧
      (s.cooler.sections[n].stalled = true →
        (t.cooler.stallCause = true ↔ ∃ m : Fin 4, m ≠ n ∧ s.cooler.sections[m].stalled = true)) ∧
      t.cooler.sections[n] =
        { s.cooler.sections[n] with stalled := false, stall := t.cooler.sections[n].stall } ∧
      (s.cooler.sections[n].output = 0 → s.cooler.sections[n].stalled = false →
        t.cooler.sections[n].stall = s.cooler.sections[n].stall) ∧
      ∃ w : State,
        w = { s with
          cooler :=
            { s.cooler with sections := t.cooler.sections, strokes := t.cooler.strokes, clinker := t.cooler.clinker }
          su :=
            { s.su with
              shift := { s.su.shift with strokes := t.su.shift.strokes, clinker := t.su.shift.clinker } } } ∧
        (s.cooler.sections[n].stalled = false → t = w) ∧
        (s.cooler.sections[n].stalled = true →
          ∃ v, v = clearAlarm (.sectionStalled n) w ∧
            t = refreshHoldback { v with cooler := { v.cooler with stallCause := t.cooler.stallCause } })) ∧
    ∀ (s : State) (n : Fin 4),
      (s.cooler.sections[n].stall = none → exec (.stallTimerExpiry n) s = .next s) ∧
      (s.cooler.sections[n].stall ≠ none →
        ∃ t v, exec (.stallTimerExpiry n) s = .next t ∧
          v = raiseAlarm ⟨.sectionStalled n, .p1, none⟩ s ∧
          t = refreshHoldback { v with
            cooler := { s.cooler with sections := t.cooler.sections, stallCause := true } } ∧
          t.cooler.sections[n] = { s.cooler.sections[n] with stalled := true, stall := none } ∧
          (∀ m : Fin 4, m ≠ n → t.cooler.sections[m] = s.cooler.sections[m]) ∧ t.cooler.stallCause = true ∧
          t.cooler.holdback = true)) ∧
  (∀ s : State,
      (refreshHoldback s).cooler =
        { s.cooler with holdback := s.cooler.pressureCause || s.cooler.stallCause || !s.cooler.stopContacts.isEmpty } ∧
      ((refreshHoldback s).cooler.holdback = s.cooler.holdback → refreshHoldback s = s) ∧
      (s.cooler.holdback = false → (refreshHoldback s).cooler.holdback = true →
        refreshHoldback s =
          { raiseAlarm ⟨.coolerHoldback, .p2, none⟩ { s with cooler := { s.cooler with holdback := true } } with
            mainSite := (refreshHoldback s).mainSite, calcSite := (refreshHoldback s).calcSite } ∧
        ∀ x, (refreshHoldback s).siteRec x =
          SiteRec.recompute { s.siteRec x with holdbackOffer := some s.cooler.settings.holdbackCut }) ∧
      (s.cooler.holdback = true → (refreshHoldback s).cooler.holdback = false →
        refreshHoldback s =
          { clearAlarm .coolerHoldback { s with cooler := { s.cooler with holdback := false } } with
            mainSite := (refreshHoldback s).mainSite, calcSite := (refreshHoldback s).calcSite } ∧
        ∀ x, (refreshHoldback s).siteRec x = SiteRec.recompute { s.siteRec x with holdbackOffer := none }))

/-! ### Field contacts -/

/-- CONTACT_SCAN restarts its timer with 20 ms, adds 1 to the scan count, and samples the contacts with slow scan off,
and at a count come to 0 those with slow scan on too (R129). A sampled contact follows R130: an agreeing sample sets
the debounce count to 0, the last of as many differing samples as the debounce is accepted; the CONTACT condition
follows an accepted change of a contact that has a role and is not forced (R131). The contacts are sampled one after the
other, in contact order (log entry 6); an accepted change of a contact that is not forced is acted on at once, as a
contact that goes abnormal or one that returns, and nothing else happens (R53, R130, R131). The levels sampled last stay
in the model's own field contactInputs (log entry 7). -/
def Obligations.ContactScanDebounces : Prop :=
  ∀ (levels : BitVec 24) (s : State), ∃ t, exec (.contactScan levels) s = .next t ∧
    t.scanTimer = 20 ∧ t.scanCount = (s.scanCount + 1) % 4 ∧ t.contactInputs = levels ∧
    t.dosingTimer = s.dosingTimer ∧ t.slots = s.slots ∧ t.sets = s.sets ∧
    (∀ (k : Fin 24) (level : Level), level = (if levels.getLsbD k.val then .closed else .opened) →
      ((s.contact k).slow = true → (s.scanCount + 1) % 4 ≠ 0 → t.contact k = s.contact k) ∧
      ((s.contact k).slow = false ∨ (s.scanCount + 1) % 4 = 0 →
        (level = (s.contact k).accepted → t.contact k = { s.contact k with count := 0 }) ∧
        (level ≠ (s.contact k).accepted → (s.contact k).count + 1 < (s.contact k).debounce →
          t.contact k = { s.contact k with count := (s.contact k).count + 1 }) ∧
        (level ≠ (s.contact k).accepted → (s.contact k).debounce ≤ (s.contact k).count + 1 →
          t.contact k =
            { s.contact k with
              accepted := level
              count := 0
              cond :=
                if (s.contact k).role = .none ∨ (s.contact k).forced = true then (s.contact k).cond
                else decide (level ≠ (s.contact k).normal) }))) ∧
    ∃ u : Nat → State,
      u 0 = { s with scanTimer := 20, scanCount := (s.scanCount + 1) % 4, contactInputs := levels } ∧ u 24 = t ∧
      ∀ (k : Fin 24) (level : Level) (c : Contact) (v : State),
        level = (if levels.getLsbD k.val then .closed else .opened) → c = s.contact k →
        v = (u k.val).modContact k (fun _ => { c with accepted := level, count := 0 }) →
        (c.slow = true → (s.scanCount + 1) % 4 ≠ 0 → u (k.val + 1) = u k.val) ∧
        (c.slow = false ∨ (s.scanCount + 1) % 4 = 0 →
          (level = c.accepted → u (k.val + 1) = v) ∧
          (level ≠ c.accepted → c.count + 1 < c.debounce →
            u (k.val + 1) = (u k.val).modContact k fun _ => { c with count := c.count + 1 }) ∧
          (level ≠ c.accepted → c.debounce ≤ c.count + 1 →
            (c.forced = true → u (k.val + 1) = v) ∧
            (c.forced = false → level ≠ c.normal → u (k.val + 1) = goesAbnormal k v) ∧
            (c.forced = false → level = c.normal → u (k.val + 1) = returnsNormal k v)))

/-- A contact that goes abnormal acts by its role: CONTACT is raised, at its priority under ALARM and at P1 under the
other two, and then each stream of an interlock mask, in stream order, trips whole with cause INTERLOCK or is sent to
OFF, or the cooler is stopped, and nothing else happens; a return
clears CONTACT, reports nothing to the streams, and tells the cooler (R53, R131). A stop contact joins the set once,
the first one bringing every output to 0; the last one's return sets the outputs to the manual rates in MANUAL and
leaves them at 0 in AUTO; the stall timers follow the outputs, holdback is brought up to date, and nothing else changes
(R121, R124). -/
def Obligations.ContactRolesAct : Prop :=
  (∀ (k : Fin 24) (s u : State), u = s.modContact k (fun c => { c with cond := true }) →
    ((s.contact k).role = .none → goesAbnormal k s = s) ∧
    ((s.contact k).role = .alarm →
      goesAbnormal k s = raiseAlarm ⟨.contact k, (s.contact k).priority, none⟩ u) ∧
    ((s.contact k).role = .coolerStop →
      goesAbnormal k s = stopReported k (raiseAlarm ⟨.contact k, .p1, none⟩ u)) ∧
    ((s.contact k).role = .streamInterlock →
      WithdrawnInOrder .interlock (fun i => (s.contact k).mask.getLsbD i.val = true)
        (raiseAlarm ⟨.contact k, .p1, none⟩ u) (goesAbnormal k s) ∧
      SameBlocks u (goesAbnormal k s) ∧
      ((∀ i : Fin 8, (s.contact k).mask.getLsbD i.val = true →
          (s.stream i).state = .off ∨ (s.stream i).state = .tripped) →
        goesAbnormal k s = raiseAlarm ⟨.contact k, .p1, none⟩ u) ∧
      ∀ i : Fin 8,
        ((s.contact k).mask.getLsbD i.val = true → (s.stream i).state.burning = true →
          (goesAbnormal k s).stream i = (trip i .interlock s).stream i) ∧
        ((s.contact k).mask.getLsbD i.val = true → (s.stream i).state = .ready →
          (goesAbnormal k s).stream i = { s.stream i with state := .off }) ∧
        ((s.contact k).mask.getLsbD i.val = false ∨ (s.stream i).state = .off ∨ (s.stream i).state = .tripped →
          (goesAbnormal k s).stream i = s.stream i))) ∧
  (∀ (k : Fin 24) (s u : State), u = s.modContact k (fun c => { c with cond := false }) →
    ((s.contact k).role = .none → returnsNormal k s = s) ∧
    ((s.contact k).role = .alarm ∨ (s.contact k).role = .streamInterlock →
      returnsNormal k s = clearAlarm (.contact k) u) ∧
    ((s.contact k).role = .coolerStop → returnsNormal k s = stopReturned k (clearAlarm (.contact k) u))) ∧
  ∀ (k : Fin 24) (s : State) (left : List (Fin 24)), left = s.cooler.stopContacts.filter (fun j => j != k) →
    (k ∈ s.cooler.stopContacts → stopReported k s = s) ∧
    (k ∉ s.cooler.stopContacts →
      (stopReported k s).cooler.stopContacts = s.cooler.stopContacts ++ [k] ∧
      (stopReported k s).cooler.holdback = true ∧
      (s.cooler.stopContacts = [] → ∀ n : Fin 4, (stopReported k s).cooler.sections[n].output = 0) ∧
      (s.cooler.stopContacts ≠ [] → (stopReported k s).cooler.sections = s.cooler.sections) ∧
      ∃ sections : Vector Section 4,
        stopReported k s = refreshHoldback { s with
          cooler := { s.cooler with stopContacts := s.cooler.stopContacts ++ [k], sections := sections } } ∧
        (s.cooler.stopContacts ≠ [] → sections = s.cooler.sections) ∧
        (s.cooler.stopContacts = [] → ∀ n : Fin 4, sections[n] =
          { s.cooler.sections[n] with
            output := 0
            stall := if s.cooler.sections[n].stalled = true then s.cooler.sections[n].stall else none })) ∧
    (k ∉ s.cooler.stopContacts → stopReturned k s = s) ∧
    (k ∈ s.cooler.stopContacts →
      (stopReturned k s).cooler.stopContacts = left ∧
      (stopReturned k s).cooler.holdback = (s.cooler.pressureCause || s.cooler.stallCause || !left.isEmpty) ∧
      (left = [] → s.cooler.mode = .manual → ∀ n : Fin 4,
        (stopReturned k s).cooler.sections[n].output = s.cooler.sections[n].manual) ∧
      (left ≠ [] ∨ s.cooler.mode = .auto → (stopReturned k s).cooler.sections = s.cooler.sections) ∧
      ∃ sections : Vector Section 4,
        stopReturned k s =
          refreshHoldback { s with cooler := { s.cooler with stopContacts := left, sections := sections } } ∧
        (left ≠ [] ∨ s.cooler.mode = .auto → sections = s.cooler.sections) ∧
        (left = [] → s.cooler.mode = .manual → ∀ n : Fin 4, sections[n] =
          { s.cooler.sections[n] with
            output := s.cooler.sections[n].manual
            stall :=
              if s.cooler.sections[n].stalled = true then s.cooler.sections[n].stall
              else if s.cooler.sections[n].manual = 0 then none
              else if s.cooler.sections[n].output = 0 then some 30000 else s.cooler.sections[n].stall }))

/-- SET_CONTACT refuses a number above 23 BAD_INDEX, an encoding that names no value or a debounce outside 2 to 8
RANGE, and a mask with a burning stream on a forced contact WRONG_STATE (R132). Taken, it replaces the six fields,
makes the CONTACT condition stand exactly where it is due, raising or clearing CONTACT where that changes it, reports
an interlock for the streams newly covered, in stream order, and tells the cooler of a stop begun or ended, in this
order, and does nothing else (R133). -/
def Obligations.SetContactComparesOldAndNew : Prop :=
  ∀ (r : Request) (s : State), Sent [.safe] 7 r s →
    (23 < u8 r.body 0 → exec (.setContact r) s = .next (giveAnswer .safe 0x47#8 .badIndex [] (openRequest r s))) ∧
    ∀ (k : Fin 24) (old : Contact), u8 r.body 0 = k.val → old = s.contact k →
      (roleOf (u8 r.body 1) = none ∨ levelOf (u8 r.body 2) = none ∨ priorityOf (u8 r.body 3) = none ∨
          1 < u8 r.body 6 ∨ u8 r.body 5 < 2 ∨ 8 < u8 r.body 5 →
        exec (.setContact r) s = .next (giveAnswer .safe 0x47#8 .range [] (openRequest r s))) ∧
      ∀ (role : ContactRole) (normal : Level) (priority : Priority) (mask : BitVec 8) (reading : Level),
        roleOf (u8 r.body 1) = some role → levelOf (u8 r.body 2) = some normal →
        priorityOf (u8 r.body 3) = some priority → u8 r.body 6 ≤ 1 → 2 ≤ u8 r.body 5 → u8 r.body 5 ≤ 8 →
        mask = (if role = .streamInterlock then r.body.getD 4 0 else 0x00#8) →
        reading = (if old.forced = true then normal else old.accepted) →
        (old.forced = true → MasksBurning s mask →
          exec (.setContact r) s = .next (giveAnswer .safe 0x47#8 .wrongState [] (openRequest r s))) ∧
        (old.forced = false ∨ ¬MasksBurning s mask →
          ∃ u, exec (.setContact r) s =
              .next (giveAnswer .safe 0x47#8 .ok (be8 k.val ++ be8 (u.contact k).stateByte) u) ∧
            u.contact k =
              ⟨role, normal, priority, mask, u8 r.body 5, u8 r.body 6 == 1, old.accepted, 0, old.forced,
                decide (role ≠ .none ∧ old.forced = false ∧ reading ≠ normal), old.forcedCond⟩ ∧
            (∀ j, j ≠ k → u.contact j = s.contact j) ∧
            (∀ (i : Fin 8) (covered : Prop),
              (covered ↔ role = .streamInterlock ∧ reading ≠ normal ∧ mask.getLsbD i.val = true ∧
                ¬(old.role = .streamInterlock ∧ old.reading ≠ old.normal ∧ old.mask.getLsbD i.val = true)) →
              (covered → (s.stream i).state.burning = true → u.stream i = (trip i .interlock s).stream i) ∧
              (covered → (s.stream i).state = .ready → u.stream i = { s.stream i with state := .off }) ∧
              (¬covered ∨ (s.stream i).state = .off ∨ (s.stream i).state = .tripped →
                u.stream i = s.stream i)) ∧
            (∀ before now : Prop, (before ↔ old.role = .coolerStop ∧ old.reading ≠ old.normal) →
              (now ↔ role = .coolerStop ∧ reading ≠ normal) →
              (now → ¬before → k ∈ u.cooler.stopContacts) ∧ (before → ¬now → k ∉ u.cooler.stopContacts) ∧
              ((before ↔ now) → u.cooler = s.cooler)) ∧
            ∃ a b w : State,
              a = (openRequest r s).modContact k (fun _ =>
                ⟨role, normal, priority, mask, u8 r.body 5, u8 r.body 6 == 1, old.accepted, 0, old.forced, old.cond,
                  old.forcedCond⟩) ∧
              (∀ due : Prop, (due ↔ role ≠ .none ∧ old.forced = false ∧ reading ≠ normal) →
                (due → old.cond = false →
                  b = raiseAlarm ⟨.contact k, if role = .alarm then priority else .p1, none⟩
                    (a.modContact k fun c => { c with cond := true })) ∧
                (¬due → old.cond = true →
                  b = clearAlarm (.contact k) (a.modContact k fun c => { c with cond := false })) ∧
                ((due ↔ old.cond = true) → b = a)) ∧
              WithdrawnInOrder .interlock
                (fun i => role = .streamInterlock ∧ reading ≠ normal ∧ mask.getLsbD i.val = true ∧
                  ¬(old.role = .streamInterlock ∧ old.reading ≠ old.normal ∧ old.mask.getLsbD i.val = true)) b w ∧
              SameBlocks b w ∧ w.streams = u.streams ∧
              ((∀ i, u.stream i = s.stream i) → w = b) ∧
              ∀ before now : Prop, (before ↔ old.role = .coolerStop ∧ old.reading ≠ old.normal) →
                (now ↔ role = .coolerStop ∧ reading ≠ normal) →
                (now → ¬before → u = stopReported k w) ∧ (before → ¬now → u = stopReturned k w) ∧
                ((before ↔ now) → u = w))

/-- FORCE_CONTACT is refused WRONG_STATE while the mask holds a burning stream; it sets the forced flag, ends an
abnormal reading's CONTACT condition and cooler stop as a return does, and raises CONTACT_FORCED at P3; on a forced
contact it has no effect (R134). UNFORCE is refused WRONG_STATE on a contact not forced; it lifts the force, clears
CONTACT_FORCED, and acts on an accepted state away from the normal state as on a contact that goes abnormal (R135). A
number above 23 is refused BAD_INDEX. Neither does anything else. -/
def Obligations.ForceHeldAndLifted : Prop :=
  ∀ (r : Request) (s : State), Sent [.desk] 1 r s →
    (23 < u8 r.body 0 →
      exec (.forceContact r) s = .next (giveAnswer .desk 0x66#8 .badIndex [] (openRequest r s)) ∧
      exec (.unforce r) s = .next (giveAnswer .desk 0x67#8 .badIndex [] (openRequest r s))) ∧
    ∀ (k : Fin 24) (c : Contact), u8 r.body 0 = k.val → c = s.contact k →
      (MasksBurning s c.mask →
        exec (.forceContact r) s = .next (giveAnswer .desk 0x66#8 .wrongState [] (openRequest r s))) ∧
      (¬MasksBurning s c.mask → c.forced = true →
        exec (.forceContact r) s =
          .next (giveAnswer .desk 0x66#8 .ok (be8 k.val ++ be8 c.stateByte) (openRequest r s))) ∧
      (¬MasksBurning s c.mask → c.forced = false →
        ∃ u, exec (.forceContact r) s =
            .next (giveAnswer .desk 0x66#8 .ok (be8 k.val ++ be8 (u.contact k).stateByte) u) ∧
          u.contact k =
            { c with
              forced := true
              forcedCond := true
              cond := if c.role ≠ .none ∧ c.accepted ≠ c.normal then false else c.cond } ∧
          (∀ j, j ≠ k → u.contact j = s.contact j) ∧ u.streams = s.streams ∧
          (c.role = .coolerStop → c.accepted ≠ c.normal → k ∉ u.cooler.stopContacts) ∧
          (c.role ≠ .coolerStop ∨ c.accepted = c.normal → u.cooler = s.cooler) ∧
          ∃ v w : State,
            v = (openRequest r s).modContact k (fun x => { x with forced := true }) ∧
            (c.accepted = c.normal → w = v) ∧ (c.accepted ≠ c.normal → w = returnsNormal k v) ∧
            u = raiseAlarm ⟨.contactForced k, .p3, none⟩ (w.modContact k fun x => { x with forcedCond := true })) ∧
      (c.forced = false →
        exec (.unforce r) s = .next (giveAnswer .desk 0x67#8 .wrongState [] (openRequest r s))) ∧
      (c.forced = true →
        ∃ u, exec (.unforce r) s =
            .next (giveAnswer .desk 0x67#8 .ok (be8 k.val ++ be8 (u.contact k).stateByte) u) ∧
          u.contact k =
            { c with
              forced := false
              forcedCond := false
              cond := if c.role ≠ .none ∧ c.accepted ≠ c.normal then true else c.cond } ∧
          (∀ j, j ≠ k → u.contact j = s.contact j) ∧
          (∀ (i : Fin 8) (guarded : Prop),
            (guarded ↔ c.role = .streamInterlock ∧ c.accepted ≠ c.normal ∧ c.mask.getLsbD i.val = true) →
            (guarded → (s.stream i).state.burning = true → u.stream i = (trip i .interlock s).stream i) ∧
            (guarded → (s.stream i).state = .ready → u.stream i = { s.stream i with state := .off }) ∧
            (¬guarded ∨ (s.stream i).state = .off ∨ (s.stream i).state = .tripped → u.stream i = s.stream i)) ∧
          (c.role = .coolerStop → c.accepted ≠ c.normal → k ∈ u.cooler.stopContacts) ∧
          (c.role ≠ .coolerStop ∨ c.accepted = c.normal → u.cooler = s.cooler) ∧
          ∃ v : State,
            v = clearAlarm (.contactForced k)
              ((openRequest r s).modContact k fun x => { x with forced := false, forcedCond := false }) ∧
            (c.accepted = c.normal → u = v) ∧ (c.accepted ≠ c.normal → u = goesAbnormal k v))

/-! ### Alarms -/

/-- A raise: the entry holding its code counts one more, takes the raise's fields and goes to the tail, ACTIVE_UNACK
or, shelved and raised at P2 or P3, still SHELVED; an absent code is appended, evicting from a full list the nearest
to the head among the preferred of the lowest priority not above the raise's, or is dropped where there is none; every
entered raise sets NEWS, every raise is counted and offered to the first-out record, and the silence flag is cleared
where an entry is left ACTIVE_UNACK; the horns follow, horn B starting with an on half and 1 s when it comes to sound
(R141, R143 to R145, R151 to R154, R159). That an eviction and the append after it are one change of the list for the
horns and the silence flag, so that horn B goes on in its half and its time where the entry evicted and the new one are
the only unacknowledged P2 ones, is the model's choice (log entry 14). -/
def Obligations.RaiseActsByEntry : Prop :=
  ∀ (r : Raise) (s t : State) (new : Entry), t = raiseAlarm r s →
    new = ⟨r.code, r.priority, .activeUnack, true, s.su.clock, 1, r.detail, none⟩ →
    SameBlocks s t ∧ t.streams = s.streams ∧
    HornsFollow s.au t.au ∧ t.au = { s.au.raise r s.su.clock with firstOut := t.au.firstOut } ∧
    t.su =
      { s.su with
        shift :=
          { s.su.shift with
            alarmsP1 := if r.priority = .p1 then min 65535 (s.su.shift.alarmsP1 + 1) else s.su.shift.alarmsP1
            alarmsP2 := if r.priority = .p2 then min 65535 (s.su.shift.alarmsP2 + 1) else s.su.shift.alarmsP2
            alarmsP3 := if r.priority = .p3 then min 65535 (s.su.shift.alarmsP3 + 1) else s.su.shift.alarmsP3 } } ∧
    (s.au.firstOut.captured = none → s.au.firstOut.mode = .any ∨ (∃ i, r.code = .streamTrip i) →
      t.au.firstOut =
        ⟨s.au.firstOut.mode,
          some ⟨r.code, r.priority, r.detail, s.su.clock, s.streams.toList.map Stream.state⟩⟩) ∧
    (s.au.firstOut.captured ≠ none ∨ s.au.firstOut.mode = .trip ∧ (∀ i, r.code ≠ .streamTrip i) →
      t.au.firstOut = s.au.firstOut) ∧
    (∀ e, s.au.find r.code = some e →
      t.au.overflow = s.au.overflow ∧ (∀ l, t.link l = { s.link l with factors := { (s.link l).factors with news := true } }) ∧
      (e.state ≠ .shelved ∨ r.priority = .p1 →
        t.au.silence = false ∧
        t.au.list =
          (s.au.list.filter fun x => x.code ≠ r.code) ++ [{ new with code := e.code, count := min 255 (e.count + 1) }]) ∧
      (e.state = .shelved → r.priority ≠ .p1 →
        t.au.silence = s.au.silence ∧
        t.au.list =
          (s.au.list.filter fun x => x.code ≠ r.code) ++
            [{ new with code := e.code, count := min 255 (e.count + 1), state := .shelved, shelf := e.shelf }])) ∧
    (s.au.find r.code = none → s.au.list.length < 64 →
      t.au.overflow = s.au.overflow ∧ t.au.silence = false ∧ t.au.list = s.au.list ++ [new] ∧
      ∀ l, t.link l = { s.link l with factors := { (s.link l).factors with news := true } }) ∧
    (s.au.find r.code = none → 64 ≤ s.au.list.length →
      t.au.overflow = true ∧
      ((∀ e ∈ s.au.list, e.priority.num < r.priority.num) →
        t.au.list = s.au.list ∧ t.au.silence = s.au.silence ∧ ∀ l, t.link l = s.link l) ∧
      ((∃ e ∈ s.au.list, r.priority.num ≤ e.priority.num) →
        t.au.silence = false ∧ (∀ l, t.link l = { s.link l with factors := { (s.link l).factors with news := true } }) ∧
        ∃ older v later, s.au.list = older ++ v :: later ∧
          t.au.list = (s.au.list.filter fun x => x.code ≠ v.code) ++ [new] ∧
          r.priority.num ≤ v.priority.num ∧ (∀ e ∈ s.au.list, e.priority.num ≤ v.priority.num) ∧
          (v.state = .activeUnack → ∀ e ∈ s.au.list, e.priority = v.priority → e.state = .activeUnack) ∧
          ∀ e ∈ older, e.priority = v.priority → e.state = .activeUnack ∧ v.state ≠ .activeUnack))

/-- A clear acts by the entry that holds its code, with no change on an absent code, a CLEARED_UNACK entry, or a
shelved one whose condition is clear (R142); ACK acknowledges an ACTIVE_UNACK entry and removes a CLEARED_UNACK one
(R146); ACK_ALL does both over the whole list, its overflow test after the removals (R147). NEWS is set where the list
changed (R143), a removal to 48 entries or fewer clears the overflow flag (R145), and the horns follow each change (R151,
R152). -/
def Obligations.ClearsAndAcknowledgements : Prop :=
  (∀ (c : AlarmCode) (s t : State), t = clearAlarm c s →
    SameBlocks s t ∧ t.streams = s.streams ∧ t.su = s.su ∧
    t.au = s.au.clear c ∧ t.au.silence = s.au.silence ∧ t.au.firstOut = s.au.firstOut ∧
    (t ≠ s → HornsFollow s.au t.au) ∧
    (s.au.find c = none → t = s) ∧
    ∀ e, s.au.find c = some e →
      (e.state = .activeUnack →
        t.au.list = (s.au.list.map fun x =>
          if x.code = c then { x with state := .clearedUnack, active := false } else x) ∧
        t.au.overflow = s.au.overflow ∧ ∀ l, t.link l = { s.link l with factors := { (s.link l).factors with news := true } }) ∧
      (e.state = .activeAck →
        t.au.list = (s.au.list.filter fun x => x.code ≠ c) ∧
        t.au.overflow = (s.au.overflow && 48 < t.au.list.length) ∧
        ∀ l, t.link l = { s.link l with factors := { (s.link l).factors with news := true } }) ∧
      (e.state = .shelved → e.active = true →
        t.au.list = (s.au.list.map fun x => if x.code = c then { x with active := false } else x) ∧
        t.au.overflow = s.au.overflow ∧ ∀ l, t.link l = { s.link l with factors := { (s.link l).factors with news := true } }) ∧
      (e.state = .clearedUnack ∨ e.state = .shelved ∧ e.active = false → t = s)) ∧
  (∀ (r : Request) (s : State), Sent [.proc, .desk] 2 r s →
    (alarmCodeOf (u8 r.body 0) (u8 r.body 1) = none →
      exec (.ack r) s = .next (giveAnswer r.link 0x50#8 .badIndex [] (openRequest r s))) ∧
    ∀ c, alarmCodeOf (u8 r.body 0) (u8 r.body 1) = some c →
      (s.au.find c = none →
        exec (.ack r) s = .next (giveAnswer r.link 0x50#8 .noEntry [] (openRequest r s))) ∧
      ∀ e, s.au.find c = some e →
        (e.state = .activeAck ∨ e.state = .shelved →
          exec (.ack r) s =
            .next (giveAnswer r.link 0x50#8 .ok (codeBytes c ++ be8 (entryStateByte e.state)) (openRequest r s))) ∧
        (e.state = .activeUnack →
          ∃ u, exec (.ack r) s = .next (giveAnswer r.link 0x50#8 .ok (codeBytes c ++ [0x01#8]) u) ∧
            SameBlocks (openRequest r s) u ∧ u.streams = s.streams ∧ u.su = s.su ∧
            u.au.list = (s.au.list.map fun x => if x.code = c then { x with state := .activeAck } else x) ∧
            u.au.overflow = s.au.overflow ∧ u.au.silence = s.au.silence ∧ u.au.firstOut = s.au.firstOut ∧
            HornsFollow s.au u.au ∧
            ∀ l, u.link l =
              { (openRequest r s).link l with factors := { (s.link l).factors with news := true } }) ∧
        (e.state = .clearedUnack →
          ∃ u, exec (.ack r) s = .next (giveAnswer r.link 0x50#8 .ok (codeBytes c ++ [0xFF#8]) u) ∧
            SameBlocks (openRequest r s) u ∧ u.streams = s.streams ∧ u.su = s.su ∧
            u.au.list = (s.au.list.filter fun x => x.code ≠ c) ∧
            u.au.overflow = (s.au.overflow && 48 < u.au.list.length) ∧ u.au.silence = s.au.silence ∧
            u.au.firstOut = s.au.firstOut ∧ HornsFollow s.au u.au ∧
            ∀ l, u.link l =
              { (openRequest r s).link l with factors := { (s.link l).factors with news := true } })) ∧
  ∀ (r : Request) (s : State) (n m : Nat), Sent [.desk] 0 r s →
    n = (s.au.list.filter fun x => x.state == .activeUnack).length →
    m = (s.au.list.filter fun x => x.state == .clearedUnack).length →
    ∃ u, exec (.ackAll r) s = .next (giveAnswer .desk 0x60#8 .ok (be8 n ++ be8 m) u) ∧
      SameBlocks s u ∧ u.streams = s.streams ∧ u.su = s.su ∧
      u.au.list =
        ((s.au.list.filter fun x => x.state ≠ .clearedUnack).map fun x =>
          if x.state = .activeUnack then { x with state := .activeAck } else x) ∧
      u.au.overflow = (s.au.overflow && (m = 0 || 48 < u.au.list.length)) ∧ u.au.silence = s.au.silence ∧
      u.au.firstOut = s.au.firstOut ∧
      HornsFollow s.au u.au ∧
      ∀ l, u.link l =
        { (openRequest r s).link l with
          factors := { (s.link l).factors with news := (s.link l).factors.news || 0 < n + m } }

/-- SHELVE is checked in the order code, time, presence, priority; taken, it shelves the entry in its place for the
time carried, and sets NEWS unless it was shelved before (R148, R143). UNSHELVE and the shelf timer running out end
the shelf of a SHELVED entry: back at the tail ACTIVE_UNACK with the silence flag cleared where its condition stands,
removed with the overflow test where it does not (R149), with the horns following (R151, R152). An event command of a
timer that is stopped has no effect: the model's reading (log entry 3). -/
def Obligations.ShelfBeginsAndEnds : Prop :=
  (∀ (r : Request) (s : State), Sent [.desk] 4 r s →
    (alarmCodeOf (u8 r.body 0) (u8 r.body 1) = none →
      exec (.shelve r) s = .next (giveAnswer .desk 0x61#8 .badIndex [] (openRequest r s))) ∧
    ∀ c, alarmCodeOf (u8 r.body 0) (u8 r.body 1) = some c →
      (u16 r.body 2 < 1 ∨ 480 < u16 r.body 2 →
        exec (.shelve r) s = .next (giveAnswer .desk 0x61#8 .range [] (openRequest r s))) ∧
      (1 ≤ u16 r.body 2 → u16 r.body 2 ≤ 480 →
        (s.au.find c = none →
          exec (.shelve r) s = .next (giveAnswer .desk 0x61#8 .noEntry [] (openRequest r s))) ∧
        ∀ e, s.au.find c = some e →
          (e.priority = .p1 →
            exec (.shelve r) s = .next (giveAnswer .desk 0x61#8 .wrongState [] (openRequest r s))) ∧
          (e.priority ≠ .p1 →
            ∃ u, exec (.shelve r) s =
                .next (giveAnswer .desk 0x61#8 .ok (codeBytes c ++ be16 (u16 r.body 2 * 60)) u) ∧
              SameBlocks s u ∧ u.streams = s.streams ∧ u.su = s.su ∧
              u.au.list = (s.au.list.map fun x =>
                if x.code = c then { x with state := .shelved, shelf := some (u16 r.body 2 * 60000) } else x) ∧
              u.au.overflow = s.au.overflow ∧ u.au.silence = s.au.silence ∧ u.au.firstOut = s.au.firstOut ∧
              HornsFollow s.au u.au ∧
              ∀ l, u.link l =
                { (openRequest r s).link l with
                  factors := { (s.link l).factors with news := (s.link l).factors.news || e.state != .shelved } }))) ∧
  (∀ (r : Request) (s : State), Sent [.desk] 2 r s →
    (alarmCodeOf (u8 r.body 0) (u8 r.body 1) = none →
      exec (.unshelve r) s = .next (giveAnswer .desk 0x62#8 .badIndex [] (openRequest r s))) ∧
    ∀ c, alarmCodeOf (u8 r.body 0) (u8 r.body 1) = some c →
      (s.au.find c = none →
        exec (.unshelve r) s = .next (giveAnswer .desk 0x62#8 .noEntry [] (openRequest r s))) ∧
      ∀ e, s.au.find c = some e →
        (e.state ≠ .shelved →
          exec (.unshelve r) s = .next (giveAnswer .desk 0x62#8 .wrongState [] (openRequest r s))) ∧
        (e.state = .shelved →
          exec (.unshelve r) s =
            .next (giveAnswer .desk 0x62#8 .ok (codeBytes c ++ (if e.active then [0x00#8] else [0xFF#8]))
              (endShelf e (openRequest r s))))) ∧
  (∀ (c : AlarmCode) (s : State),
    (∀ e, s.au.find c = some e → e.state = .shelved → exec (.shelfExpiry c) s = .next (endShelf e s)) ∧
    ((∀ e, s.au.find c = some e → e.state ≠ .shelved) → exec (.shelfExpiry c) s = .next s)) ∧
  ∀ (e : Entry) (s t : State), t = endShelf e s →
    SameBlocks s t ∧ t.streams = s.streams ∧ t.su = s.su ∧ t.au.firstOut = s.au.firstOut ∧ HornsFollow s.au t.au ∧
    (∀ l, t.link l = { s.link l with factors := { (s.link l).factors with news := true } }) ∧
    (e.active = true →
      t.au.list =
        (s.au.list.filter fun x => x.code ≠ e.code) ++ [{ e with state := .activeUnack, shelf := none }] ∧
      t.au.silence = false ∧ t.au.overflow = s.au.overflow) ∧
    (e.active = false →
      t.au.list = (s.au.list.filter fun x => x.code ≠ e.code) ∧ t.au.silence = s.au.silence ∧
      t.au.overflow = (s.au.overflow && 48 < t.au.list.length))

/-- SILENCE sets the silence flag and stops both horns; the horn B interval timer running out restarts it with 1 s and
turns the output to the other half (R152, R153). FIRSTOUT_CLEAR empties the record and keeps its mode; FIRSTOUT_MODE
stores a mode in EMPTY, and is refused WRONG_STATE in HOLDING and RANGE for an encoding that names neither mode
(R155). An event command of a timer that is stopped has no effect: the model's reading (log entry 3). -/
def Obligations.SilenceAndFirstoutTaken : Prop :=
  (∀ (r : Request) (s : State), Sent [.desk] 0 r s →
    exec (.silence r) s =
      .next (giveAnswer .desk 0x63#8 .ok []
        { openRequest r s with
          au := { s.au with silence := true, hornA := false, hornB := .silent, hornBTimer := none } }) ∧
    exec (.firstoutClear r) s =
      .next (giveAnswer .desk 0x64#8 .ok []
        { openRequest r s with au := { s.au with firstOut := ⟨s.au.firstOut.mode, none⟩ } })) ∧
  (∀ b : HornB, b.output = true ↔ b = .onHalf) ∧
  (∀ s : State,
    (s.au.hornBTimer = none → exec .hornBIntervalExpiry s = .next s) ∧
    (s.au.hornBTimer ≠ none →
      (s.au.hornB = .onHalf →
        exec .hornBIntervalExpiry s =
          .next { s with au := { s.au with hornB := .offHalf, hornBTimer := some 1000 } }) ∧
      (s.au.hornB = .offHalf →
        exec .hornBIntervalExpiry s =
          .next { s with au := { s.au with hornB := .onHalf, hornBTimer := some 1000 } }))) ∧
  ∀ (r : Request) (s : State), Sent [.desk] 1 r s →
    (1 < u8 r.body 0 →
      exec (.firstoutMode r) s = .next (giveAnswer .desk 0x65#8 .range [] (openRequest r s))) ∧
    (u8 r.body 0 ≤ 1 → s.au.firstOut.captured ≠ none →
      exec (.firstoutMode r) s = .next (giveAnswer .desk 0x65#8 .wrongState [] (openRequest r s))) ∧
    (u8 r.body 0 ≤ 1 → s.au.firstOut.captured = none →
      exec (.firstoutMode r) s =
        .next (giveAnswer .desk 0x65#8 .ok []
          { openRequest r s with
            au := { s.au with firstOut := ⟨if u8 r.body 0 = 0 then .trip else .any, none⟩ } }))

/-! ### Shift accounting -/

/-- SET_CLOCK loads the day and second it carries and restarts the second timer with 1 s, and is refused RANGE for a
second above 86,399 (R163). SET_SHIFTS replaces the table by the times it carries, and is refused RANGE where the body
is not a count of 0 to 4 followed by as many strictly increasing seconds of day (R164). Neither touches anything else,
and both are DESK's alone. -/
def Obligations.ClockAndTableLoaded : Prop :=
  (∀ (r : Request) (s : State), Sent [.desk] 5 r s →
    (86399 < u24 r.body 2 →
      exec (.setClock r) s = .next (giveAnswer .desk 0x68#8 .range [] (openRequest r s))) ∧
    (u24 r.body 2 ≤ 86399 →
      exec (.setClock r) s =
        .next (giveAnswer .desk 0x68#8 .ok (be16 (u16 r.body 0) ++ be24 (u24 r.body 2))
          { openRequest r s with
            su := { s.su with clock := ⟨u16 r.body 0, u24 r.body 2⟩, secondTimer := 1000 } }))) ∧
  (∀ (r : Request) (s : State), r.link ≠ .desk → r.body.length ≤ 60 → (s.link r.link).abandoned = none →
    exec (.setClock r) s = .next (giveAnswer r.link 0x68#8 .notOwner [] (openRequest r s)) ∧
    exec (.setShifts r) s = .next (giveAnswer r.link 0x69#8 .notOwner [] (openRequest r s))) ∧
  ∀ (r : Request) (s : State), r.link = .desk → r.body.length ≤ 60 → s.deskLink.abandoned = none →
    (∀ times : List Nat, r.body = be8 times.length ++ times.flatMap be32 → times.length ≤ 4 →
      (∀ x ∈ times, x ≤ 86399) → times.Pairwise (· < ·) →
      exec (.setShifts r) s =
        .next (giveAnswer .desk 0x69#8 .ok r.body
          { openRequest r s with su := { s.su with changeTimes := times } })) ∧
    ((¬∃ times : List Nat, r.body = be8 times.length ++ times.flatMap be32 ∧ times.length ≤ 4 ∧
        (∀ x ∈ times, x ≤ 86399) ∧ times.Pairwise (· < ·)) →
      exec (.setShifts r) s = .next (giveAnswer .desk 0x69#8 .range [] (openRequest r s)))

/-- A close latches the open record with its masses in kg, its heats in MJ and its SHC, joins it to the history ring,
opens the next record empty and sets SHIFT on all links (R167 to R169). CLOSE_SHIFT closes with cause DESK, and is
refused WRONG_STATE at the last shift number (R165, R167). A clock advance adds the burning second of each site with a
FIRING stream, advances the clock, and closes with cause CLOCK where it reaches a change time (R162). -/
def Obligations.CloseBooksShift : Prop :=
  (∀ (cause : CloseCause) (s : State), ∃ c : ClosedShift,
    (closeOpenShift cause s).su =
      { s.su with
        history := (s.su.history.drop (s.su.history.length - 7)) ++ [c]
        shift := OpenShift.fresh (s.su.shift.number + 1) s.su.clock } ∧
    c =
      { c with
        number := s.su.shift.number, opened := s.su.shift.opened, closed := s.su.clock, cause := cause
        burnMain := s.su.shift.burnMain, burnCalc := s.su.shift.burnCalc, strokes := s.su.shift.strokes
        clinker := s.su.shift.clinker, alarmsP1 := s.su.shift.alarmsP1, alarmsP2 := s.su.shift.alarmsP2
        alarmsP3 := s.su.shift.alarmsP3, trips := s.su.shift.trips, cals := s.su.shift.cals } ∧
    c.mass = s.su.shift.mass.toList.map (fun g => min 281474976710655 (g / 1000)) ∧
    c.heat = s.su.shift.heat.toList.map (fun j => j / 1000000) ∧
    c.shc =
      (if 1000 ≤ s.su.shift.clinker then
        some (min 4294967295
          ((2 * s.su.shift.heat.toList.sum + s.su.shift.clinker * 1000) / (2 * (s.su.shift.clinker * 1000))))
       else none) ∧
    (∀ l, ((closeOpenShift cause s).link l) =
      { s.link l with factors := { (s.link l).factors with shift := true } }) ∧
    closeOpenShift cause s =
      { s with
        su := (closeOpenShift cause s).su
        procLink := (closeOpenShift cause s).procLink
        safeLink := (closeOpenShift cause s).safeLink
        deskLink := (closeOpenShift cause s).deskLink }) ∧
  (∀ (r : Request) (s : State), Sent [.desk] 0 r s →
    (s.su.shift.number = 4294967295 →
      exec (.closeShift r) s = .next (giveAnswer .desk 0x6A#8 .wrongState [] (openRequest r s))) ∧
    (s.su.shift.number ≠ 4294967295 →
      exec (.closeShift r) s =
        .next (giveAnswer .desk 0x6A#8 .ok
          (be32 s.su.shift.number ++ be16 s.su.clock.day ++ be24 s.su.clock.second ++ be32 (s.su.shift.number + 1))
          (closeOpenShift .desk (openRequest r s))))) ∧
  ∀ (s : State) (day second : Nat),
    (day = if s.su.clock.second = 86399 then (s.su.clock.day + 1) % 65536 else s.su.clock.day) →
    (second = if s.su.clock.second = 86399 then 0 else s.su.clock.second + 1) →
    ∃ (u : State) (main atCalc : Nat),
      u = { s with
        su := { s.su with
          clock := ⟨day, second⟩
          secondTimer := 1000
          shift := { s.su.shift with burnMain := main, burnCalc := atCalc } } } ∧
      ((∃ i, (s.stream i).limits.site = .main ∧ (s.stream i).state = .firing) →
        main = min 4294967295 (s.su.shift.burnMain + 1)) ∧
      ((∀ i, (s.stream i).limits.site = .main → (s.stream i).state ≠ .firing) → main = s.su.shift.burnMain) ∧
      ((∃ i, (s.stream i).limits.site = .calc ∧ (s.stream i).state = .firing) →
        atCalc = min 4294967295 (s.su.shift.burnCalc + 1)) ∧
      ((∀ i, (s.stream i).limits.site = .calc → (s.stream i).state ≠ .firing) → atCalc = s.su.shift.burnCalc) ∧
      (second ∈ s.su.changeTimes → s.su.shift.number < 4294967295 →
        exec .clockAdvance s = .next (closeOpenShift .clock u)) ∧
      (second ∉ s.su.changeTimes ∨ 4294967295 ≤ s.su.shift.number → exec .clockAdvance s = .next u)

/-- The history ring holds at most 8 records whose numbers are the ones just before the open shift's, and every step
keeps this; a step leaves the ring as it is, joins one record to its tail with the oldest of 8 removed, or is a reset,
which empties it (R169). -/
def Obligations.HistoryRingStaysConsecutive : Prop :=
  ∀ s t : State, step s = .next t →
    (HistorySound s.su → HistorySound t.su) ∧
    (t.su.history = s.su.history ∨
      (∃ c : ClosedShift, c.number = s.su.shift.number ∧
        t.su.history = s.su.history.drop (s.su.history.length - 7) ++ [c]) ∨
      t.su.history = [] ∧ t.su.shift.number = 1)

/-! ### What every step keeps -/

/-- The machine after reset is sound in all respects that the following statements say every step keeps. -/
def Obligations.ResetIsSound : Prop :=
  Sound State.reset

/-- Every step keeps the alarm list sound: at most 64 entries with no code twice, each agreeing with itself, and the
horns sounding exactly as the list and the silence flag say (R140, R141, R145, R151, R152). -/
def Obligations.StepKeepsAlarmsSound : Prop :=
  ∀ s t : State, AlarmSound s.au → step s = .next t → AlarmSound t.au

/-- Every step keeps every stream sound (limits in order, a cause exactly while TRIPPED, a lighting timer exactly
while LIGHTING, an OPEN calibration exactly while CALIB, setpoints 0 outside BURNING, output within max, rate that of
the output), and keeps the computed check word that of the stored limits (R28, R35, R40, R59, R70, R87). -/
def Obligations.StepKeepsStreamsSound : Prop :=
  (∀ s t : State, StreamsSound s → step s = .next t → StreamsSound t) ∧
  ∀ s t : State, WordSound s → step s = .next t → WordSound t

/-- Every step keeps the slots sound (value in range, a timer exactly while fresh), and keeps the cutback sets and
sites sound: each offer place of a site holds exactly the present offer of its source, and largest cut, effective
demand and cap-active flag follow from the places and the demand (R64, R98 to R100, R104, R107, R108, R125). -/
def Obligations.StepKeepsOffersSound : Prop :=
  (∀ s t : State, SlotsSound s → step s = .next t → SlotsSound t) ∧
  ∀ s t : State, CutsSound s → step s = .next t → CutsSound t

/-- Every step keeps the cooler sound: a stall timer exactly on a section that drives and is not stalled, holdback
exactly while a cause stands, every output 0 under the stop cause, and in MANUAL the outputs at the manual rates
(R115, R119, R121, R123 to R125). -/
def Obligations.StepKeepsCoolerSound : Prop :=
  ∀ s t : State, CoolerSound s.cooler → step s = .next t → CoolerSound t.cooler

/-- Every step keeps the contacts sound: the CONTACT and CONTACT_FORCED conditions exactly where they are due, the
debounce count below the debounce, the stop contacts set exactly the contacts that stop the cooler; and no burning
stream ever comes to have a forced contact in its interlock mask (R124, R130, R131, R133, R134, R136). -/
def Obligations.StepKeepsContactsSound : Prop :=
  (∀ s t : State, ContactsSound s → step s = .next t → ContactsSound t) ∧
  ∀ s t : State, ForcesSound s → step s = .next t → ForcesSound t
end

