-- ==== Sys2Proof/Laws/State.lean ====
section
/-! SUPPORT. One lemma per field of State per named update, each true by computation: an update leaves every other field
as it was, and the record it changes reads back. -/

namespace Sys2Proof.Machine

/-! ### modStream -/

@[simp] theorem State.modStream_pending (i : Fin 8) (f : Stream → Stream) (s : State) : (s.modStream i f).pending = s.pending := rfl
@[simp] theorem State.modStream_raceSeed (i : Fin 8) (f : Stream → Stream) (s : State) : (s.modStream i f).raceSeed = s.raceSeed := rfl
@[simp] theorem State.modStream_resetCause (i : Fin 8) (f : Stream → Stream) (s : State) : (s.modStream i f).resetCause = s.resetCause := rfl
@[simp] theorem State.modStream_procLink (i : Fin 8) (f : Stream → Stream) (s : State) : (s.modStream i f).procLink = s.procLink := rfl
@[simp] theorem State.modStream_safeLink (i : Fin 8) (f : Stream → Stream) (s : State) : (s.modStream i f).safeLink = s.safeLink := rfl
@[simp] theorem State.modStream_deskLink (i : Fin 8) (f : Stream → Stream) (s : State) : (s.modStream i f).deskLink = s.deskLink := rfl
@[simp] theorem State.modStream_computedWord (i : Fin 8) (f : Stream → Stream) (s : State) : (s.modStream i f).computedWord = s.computedWord := rfl
@[simp] theorem State.modStream_expectedWord (i : Fin 8) (f : Stream → Stream) (s : State) : (s.modStream i f).expectedWord = s.expectedWord := rfl
@[simp] theorem State.modStream_safeTimer (i : Fin 8) (f : Stream → Stream) (s : State) : (s.modStream i f).safeTimer = s.safeTimer := rfl
@[simp] theorem State.modStream_safeTimeout (i : Fin 8) (f : Stream → Stream) (s : State) : (s.modStream i f).safeTimeout = s.safeTimeout := rfl
@[simp] theorem State.modStream_safeHealthy (i : Fin 8) (f : Stream → Stream) (s : State) : (s.modStream i f).safeHealthy = s.safeHealthy := rfl
@[simp] theorem State.modStream_period (i : Fin 8) (f : Stream → Stream) (s : State) : (s.modStream i f).period = s.period := rfl
@[simp] theorem State.modStream_dosingTimer (i : Fin 8) (f : Stream → Stream) (s : State) : (s.modStream i f).dosingTimer = s.dosingTimer := rfl
@[simp] theorem State.modStream_mainSite (i : Fin 8) (f : Stream → Stream) (s : State) : (s.modStream i f).mainSite = s.mainSite := rfl
@[simp] theorem State.modStream_calcSite (i : Fin 8) (f : Stream → Stream) (s : State) : (s.modStream i f).calcSite = s.calcSite := rfl
@[simp] theorem State.modStream_slots (i : Fin 8) (f : Stream → Stream) (s : State) : (s.modStream i f).slots = s.slots := rfl
@[simp] theorem State.modStream_sets (i : Fin 8) (f : Stream → Stream) (s : State) : (s.modStream i f).sets = s.sets := rfl
@[simp] theorem State.modStream_cooler (i : Fin 8) (f : Stream → Stream) (s : State) : (s.modStream i f).cooler = s.cooler := rfl
@[simp] theorem State.modStream_contacts (i : Fin 8) (f : Stream → Stream) (s : State) : (s.modStream i f).contacts = s.contacts := rfl
@[simp] theorem State.modStream_scanTimer (i : Fin 8) (f : Stream → Stream) (s : State) : (s.modStream i f).scanTimer = s.scanTimer := rfl
@[simp] theorem State.modStream_scanCount (i : Fin 8) (f : Stream → Stream) (s : State) : (s.modStream i f).scanCount = s.scanCount := rfl
@[simp] theorem State.modStream_contactInputs (i : Fin 8) (f : Stream → Stream) (s : State) : (s.modStream i f).contactInputs = s.contactInputs := rfl
@[simp] theorem State.modStream_au (i : Fin 8) (f : Stream → Stream) (s : State) : (s.modStream i f).au = s.au := rfl
@[simp] theorem State.modStream_su (i : Fin 8) (f : Stream → Stream) (s : State) : (s.modStream i f).su = s.su := rfl
@[simp] theorem State.modStream_slot (i : Fin 8) (f : Stream → Stream) (s : State) (m : Fin 8) :
    (s.modStream i f).slot m = s.slot m := rfl
@[simp] theorem State.modStream_cutSet (i : Fin 8) (f : Stream → Stream) (s : State) (j : Fin 4) :
    (s.modStream i f).cutSet j = s.cutSet j := rfl
@[simp] theorem State.modStream_contact (i : Fin 8) (f : Stream → Stream) (s : State) (j : Fin 24) :
    (s.modStream i f).contact j = s.contact j := rfl
@[simp] theorem State.modStream_siteRec (i : Fin 8) (f : Stream → Stream) (s : State) (y : Site) :
    (s.modStream i f).siteRec y = s.siteRec y := by cases y <;> rfl
@[simp] theorem State.modStream_link (i : Fin 8) (f : Stream → Stream) (s : State) (j : Link) :
    (s.modStream i f).link j = s.link j := by cases j <;> rfl

/-! ### moveTo -/

@[simp] theorem State.moveTo_pending (i : Fin 8) (f : FiringState) (s : State) : (s.moveTo i f).pending = s.pending := rfl
@[simp] theorem State.moveTo_raceSeed (i : Fin 8) (f : FiringState) (s : State) : (s.moveTo i f).raceSeed = s.raceSeed := rfl
@[simp] theorem State.moveTo_resetCause (i : Fin 8) (f : FiringState) (s : State) : (s.moveTo i f).resetCause = s.resetCause := rfl
@[simp] theorem State.moveTo_procLink (i : Fin 8) (f : FiringState) (s : State) : (s.moveTo i f).procLink = s.procLink := rfl
@[simp] theorem State.moveTo_safeLink (i : Fin 8) (f : FiringState) (s : State) : (s.moveTo i f).safeLink = s.safeLink := rfl
@[simp] theorem State.moveTo_deskLink (i : Fin 8) (f : FiringState) (s : State) : (s.moveTo i f).deskLink = s.deskLink := rfl
@[simp] theorem State.moveTo_computedWord (i : Fin 8) (f : FiringState) (s : State) : (s.moveTo i f).computedWord = s.computedWord := rfl
@[simp] theorem State.moveTo_expectedWord (i : Fin 8) (f : FiringState) (s : State) : (s.moveTo i f).expectedWord = s.expectedWord := rfl
@[simp] theorem State.moveTo_safeTimer (i : Fin 8) (f : FiringState) (s : State) : (s.moveTo i f).safeTimer = s.safeTimer := rfl
@[simp] theorem State.moveTo_safeTimeout (i : Fin 8) (f : FiringState) (s : State) : (s.moveTo i f).safeTimeout = s.safeTimeout := rfl
@[simp] theorem State.moveTo_safeHealthy (i : Fin 8) (f : FiringState) (s : State) : (s.moveTo i f).safeHealthy = s.safeHealthy := rfl
@[simp] theorem State.moveTo_period (i : Fin 8) (f : FiringState) (s : State) : (s.moveTo i f).period = s.period := rfl
@[simp] theorem State.moveTo_dosingTimer (i : Fin 8) (f : FiringState) (s : State) : (s.moveTo i f).dosingTimer = s.dosingTimer := rfl
@[simp] theorem State.moveTo_mainSite (i : Fin 8) (f : FiringState) (s : State) : (s.moveTo i f).mainSite = s.mainSite := rfl
@[simp] theorem State.moveTo_calcSite (i : Fin 8) (f : FiringState) (s : State) : (s.moveTo i f).calcSite = s.calcSite := rfl
@[simp] theorem State.moveTo_slots (i : Fin 8) (f : FiringState) (s : State) : (s.moveTo i f).slots = s.slots := rfl
@[simp] theorem State.moveTo_sets (i : Fin 8) (f : FiringState) (s : State) : (s.moveTo i f).sets = s.sets := rfl
@[simp] theorem State.moveTo_cooler (i : Fin 8) (f : FiringState) (s : State) : (s.moveTo i f).cooler = s.cooler := rfl
@[simp] theorem State.moveTo_contacts (i : Fin 8) (f : FiringState) (s : State) : (s.moveTo i f).contacts = s.contacts := rfl
@[simp] theorem State.moveTo_scanTimer (i : Fin 8) (f : FiringState) (s : State) : (s.moveTo i f).scanTimer = s.scanTimer := rfl
@[simp] theorem State.moveTo_scanCount (i : Fin 8) (f : FiringState) (s : State) : (s.moveTo i f).scanCount = s.scanCount := rfl
@[simp] theorem State.moveTo_contactInputs (i : Fin 8) (f : FiringState) (s : State) : (s.moveTo i f).contactInputs = s.contactInputs := rfl
@[simp] theorem State.moveTo_au (i : Fin 8) (f : FiringState) (s : State) : (s.moveTo i f).au = s.au := rfl
@[simp] theorem State.moveTo_su (i : Fin 8) (f : FiringState) (s : State) : (s.moveTo i f).su = s.su := rfl
@[simp] theorem State.moveTo_slot (i : Fin 8) (f : FiringState) (s : State) (m : Fin 8) :
    (s.moveTo i f).slot m = s.slot m := rfl
@[simp] theorem State.moveTo_cutSet (i : Fin 8) (f : FiringState) (s : State) (j : Fin 4) :
    (s.moveTo i f).cutSet j = s.cutSet j := rfl
@[simp] theorem State.moveTo_contact (i : Fin 8) (f : FiringState) (s : State) (j : Fin 24) :
    (s.moveTo i f).contact j = s.contact j := rfl
@[simp] theorem State.moveTo_siteRec (i : Fin 8) (f : FiringState) (s : State) (y : Site) :
    (s.moveTo i f).siteRec y = s.siteRec y := by cases y <;> rfl
@[simp] theorem State.moveTo_link (i : Fin 8) (f : FiringState) (s : State) (j : Link) :
    (s.moveTo i f).link j = s.link j := by cases j <;> rfl

/-! ### modSite -/

@[simp] theorem State.modSite_pending (x : Site) (f : SiteRec → SiteRec) (s : State) : (s.modSite x f).pending = s.pending := rfl
@[simp] theorem State.modSite_raceSeed (x : Site) (f : SiteRec → SiteRec) (s : State) : (s.modSite x f).raceSeed = s.raceSeed := rfl
@[simp] theorem State.modSite_resetCause (x : Site) (f : SiteRec → SiteRec) (s : State) : (s.modSite x f).resetCause = s.resetCause := rfl
@[simp] theorem State.modSite_procLink (x : Site) (f : SiteRec → SiteRec) (s : State) : (s.modSite x f).procLink = s.procLink := rfl
@[simp] theorem State.modSite_safeLink (x : Site) (f : SiteRec → SiteRec) (s : State) : (s.modSite x f).safeLink = s.safeLink := rfl
@[simp] theorem State.modSite_deskLink (x : Site) (f : SiteRec → SiteRec) (s : State) : (s.modSite x f).deskLink = s.deskLink := rfl
@[simp] theorem State.modSite_streams (x : Site) (f : SiteRec → SiteRec) (s : State) : (s.modSite x f).streams = s.streams := rfl
@[simp] theorem State.modSite_computedWord (x : Site) (f : SiteRec → SiteRec) (s : State) : (s.modSite x f).computedWord = s.computedWord := rfl
@[simp] theorem State.modSite_expectedWord (x : Site) (f : SiteRec → SiteRec) (s : State) : (s.modSite x f).expectedWord = s.expectedWord := rfl
@[simp] theorem State.modSite_safeTimer (x : Site) (f : SiteRec → SiteRec) (s : State) : (s.modSite x f).safeTimer = s.safeTimer := rfl
@[simp] theorem State.modSite_safeTimeout (x : Site) (f : SiteRec → SiteRec) (s : State) : (s.modSite x f).safeTimeout = s.safeTimeout := rfl
@[simp] theorem State.modSite_safeHealthy (x : Site) (f : SiteRec → SiteRec) (s : State) : (s.modSite x f).safeHealthy = s.safeHealthy := rfl
@[simp] theorem State.modSite_period (x : Site) (f : SiteRec → SiteRec) (s : State) : (s.modSite x f).period = s.period := rfl
@[simp] theorem State.modSite_dosingTimer (x : Site) (f : SiteRec → SiteRec) (s : State) : (s.modSite x f).dosingTimer = s.dosingTimer := rfl
@[simp] theorem State.modSite_slots (x : Site) (f : SiteRec → SiteRec) (s : State) : (s.modSite x f).slots = s.slots := rfl
@[simp] theorem State.modSite_sets (x : Site) (f : SiteRec → SiteRec) (s : State) : (s.modSite x f).sets = s.sets := rfl
@[simp] theorem State.modSite_cooler (x : Site) (f : SiteRec → SiteRec) (s : State) : (s.modSite x f).cooler = s.cooler := rfl
@[simp] theorem State.modSite_contacts (x : Site) (f : SiteRec → SiteRec) (s : State) : (s.modSite x f).contacts = s.contacts := rfl
@[simp] theorem State.modSite_scanTimer (x : Site) (f : SiteRec → SiteRec) (s : State) : (s.modSite x f).scanTimer = s.scanTimer := rfl
@[simp] theorem State.modSite_scanCount (x : Site) (f : SiteRec → SiteRec) (s : State) : (s.modSite x f).scanCount = s.scanCount := rfl
@[simp] theorem State.modSite_contactInputs (x : Site) (f : SiteRec → SiteRec) (s : State) : (s.modSite x f).contactInputs = s.contactInputs := rfl
@[simp] theorem State.modSite_au (x : Site) (f : SiteRec → SiteRec) (s : State) : (s.modSite x f).au = s.au := rfl
@[simp] theorem State.modSite_su (x : Site) (f : SiteRec → SiteRec) (s : State) : (s.modSite x f).su = s.su := rfl
@[simp] theorem State.modSite_stream (x : Site) (f : SiteRec → SiteRec) (s : State) (j : Fin 8) :
    (s.modSite x f).stream j = s.stream j := rfl
@[simp] theorem State.modSite_slot (x : Site) (f : SiteRec → SiteRec) (s : State) (m : Fin 8) :
    (s.modSite x f).slot m = s.slot m := rfl
@[simp] theorem State.modSite_cutSet (x : Site) (f : SiteRec → SiteRec) (s : State) (j : Fin 4) :
    (s.modSite x f).cutSet j = s.cutSet j := rfl
@[simp] theorem State.modSite_contact (x : Site) (f : SiteRec → SiteRec) (s : State) (j : Fin 24) :
    (s.modSite x f).contact j = s.contact j := rfl
@[simp] theorem State.modSite_link (x : Site) (f : SiteRec → SiteRec) (s : State) (j : Link) :
    (s.modSite x f).link j = s.link j := by cases j <;> rfl

/-! ### modSlot -/

@[simp] theorem State.modSlot_pending (n : Fin 8) (f : Slot → Slot) (s : State) : (s.modSlot n f).pending = s.pending := rfl
@[simp] theorem State.modSlot_raceSeed (n : Fin 8) (f : Slot → Slot) (s : State) : (s.modSlot n f).raceSeed = s.raceSeed := rfl
@[simp] theorem State.modSlot_resetCause (n : Fin 8) (f : Slot → Slot) (s : State) : (s.modSlot n f).resetCause = s.resetCause := rfl
@[simp] theorem State.modSlot_procLink (n : Fin 8) (f : Slot → Slot) (s : State) : (s.modSlot n f).procLink = s.procLink := rfl
@[simp] theorem State.modSlot_safeLink (n : Fin 8) (f : Slot → Slot) (s : State) : (s.modSlot n f).safeLink = s.safeLink := rfl
@[simp] theorem State.modSlot_deskLink (n : Fin 8) (f : Slot → Slot) (s : State) : (s.modSlot n f).deskLink = s.deskLink := rfl
@[simp] theorem State.modSlot_streams (n : Fin 8) (f : Slot → Slot) (s : State) : (s.modSlot n f).streams = s.streams := rfl
@[simp] theorem State.modSlot_computedWord (n : Fin 8) (f : Slot → Slot) (s : State) : (s.modSlot n f).computedWord = s.computedWord := rfl
@[simp] theorem State.modSlot_expectedWord (n : Fin 8) (f : Slot → Slot) (s : State) : (s.modSlot n f).expectedWord = s.expectedWord := rfl
@[simp] theorem State.modSlot_safeTimer (n : Fin 8) (f : Slot → Slot) (s : State) : (s.modSlot n f).safeTimer = s.safeTimer := rfl
@[simp] theorem State.modSlot_safeTimeout (n : Fin 8) (f : Slot → Slot) (s : State) : (s.modSlot n f).safeTimeout = s.safeTimeout := rfl
@[simp] theorem State.modSlot_safeHealthy (n : Fin 8) (f : Slot → Slot) (s : State) : (s.modSlot n f).safeHealthy = s.safeHealthy := rfl
@[simp] theorem State.modSlot_period (n : Fin 8) (f : Slot → Slot) (s : State) : (s.modSlot n f).period = s.period := rfl
@[simp] theorem State.modSlot_dosingTimer (n : Fin 8) (f : Slot → Slot) (s : State) : (s.modSlot n f).dosingTimer = s.dosingTimer := rfl
@[simp] theorem State.modSlot_mainSite (n : Fin 8) (f : Slot → Slot) (s : State) : (s.modSlot n f).mainSite = s.mainSite := rfl
@[simp] theorem State.modSlot_calcSite (n : Fin 8) (f : Slot → Slot) (s : State) : (s.modSlot n f).calcSite = s.calcSite := rfl
@[simp] theorem State.modSlot_sets (n : Fin 8) (f : Slot → Slot) (s : State) : (s.modSlot n f).sets = s.sets := rfl
@[simp] theorem State.modSlot_cooler (n : Fin 8) (f : Slot → Slot) (s : State) : (s.modSlot n f).cooler = s.cooler := rfl
@[simp] theorem State.modSlot_contacts (n : Fin 8) (f : Slot → Slot) (s : State) : (s.modSlot n f).contacts = s.contacts := rfl
@[simp] theorem State.modSlot_scanTimer (n : Fin 8) (f : Slot → Slot) (s : State) : (s.modSlot n f).scanTimer = s.scanTimer := rfl
@[simp] theorem State.modSlot_scanCount (n : Fin 8) (f : Slot → Slot) (s : State) : (s.modSlot n f).scanCount = s.scanCount := rfl
@[simp] theorem State.modSlot_contactInputs (n : Fin 8) (f : Slot → Slot) (s : State) : (s.modSlot n f).contactInputs = s.contactInputs := rfl
@[simp] theorem State.modSlot_au (n : Fin 8) (f : Slot → Slot) (s : State) : (s.modSlot n f).au = s.au := rfl
@[simp] theorem State.modSlot_su (n : Fin 8) (f : Slot → Slot) (s : State) : (s.modSlot n f).su = s.su := rfl
@[simp] theorem State.modSlot_stream (n : Fin 8) (f : Slot → Slot) (s : State) (j : Fin 8) :
    (s.modSlot n f).stream j = s.stream j := rfl
@[simp] theorem State.modSlot_cutSet (n : Fin 8) (f : Slot → Slot) (s : State) (j : Fin 4) :
    (s.modSlot n f).cutSet j = s.cutSet j := rfl
@[simp] theorem State.modSlot_contact (n : Fin 8) (f : Slot → Slot) (s : State) (j : Fin 24) :
    (s.modSlot n f).contact j = s.contact j := rfl
@[simp] theorem State.modSlot_siteRec (n : Fin 8) (f : Slot → Slot) (s : State) (y : Site) :
    (s.modSlot n f).siteRec y = s.siteRec y := by cases y <;> rfl
@[simp] theorem State.modSlot_link (n : Fin 8) (f : Slot → Slot) (s : State) (j : Link) :
    (s.modSlot n f).link j = s.link j := by cases j <;> rfl

/-! ### modSet -/

@[simp] theorem State.modSet_pending (k : Fin 4) (f : CutSet → CutSet) (s : State) : (s.modSet k f).pending = s.pending := rfl
@[simp] theorem State.modSet_raceSeed (k : Fin 4) (f : CutSet → CutSet) (s : State) : (s.modSet k f).raceSeed = s.raceSeed := rfl
@[simp] theorem State.modSet_resetCause (k : Fin 4) (f : CutSet → CutSet) (s : State) : (s.modSet k f).resetCause = s.resetCause := rfl
@[simp] theorem State.modSet_procLink (k : Fin 4) (f : CutSet → CutSet) (s : State) : (s.modSet k f).procLink = s.procLink := rfl
@[simp] theorem State.modSet_safeLink (k : Fin 4) (f : CutSet → CutSet) (s : State) : (s.modSet k f).safeLink = s.safeLink := rfl
@[simp] theorem State.modSet_deskLink (k : Fin 4) (f : CutSet → CutSet) (s : State) : (s.modSet k f).deskLink = s.deskLink := rfl
@[simp] theorem State.modSet_streams (k : Fin 4) (f : CutSet → CutSet) (s : State) : (s.modSet k f).streams = s.streams := rfl
@[simp] theorem State.modSet_computedWord (k : Fin 4) (f : CutSet → CutSet) (s : State) : (s.modSet k f).computedWord = s.computedWord := rfl
@[simp] theorem State.modSet_expectedWord (k : Fin 4) (f : CutSet → CutSet) (s : State) : (s.modSet k f).expectedWord = s.expectedWord := rfl
@[simp] theorem State.modSet_safeTimer (k : Fin 4) (f : CutSet → CutSet) (s : State) : (s.modSet k f).safeTimer = s.safeTimer := rfl
@[simp] theorem State.modSet_safeTimeout (k : Fin 4) (f : CutSet → CutSet) (s : State) : (s.modSet k f).safeTimeout = s.safeTimeout := rfl
@[simp] theorem State.modSet_safeHealthy (k : Fin 4) (f : CutSet → CutSet) (s : State) : (s.modSet k f).safeHealthy = s.safeHealthy := rfl
@[simp] theorem State.modSet_period (k : Fin 4) (f : CutSet → CutSet) (s : State) : (s.modSet k f).period = s.period := rfl
@[simp] theorem State.modSet_dosingTimer (k : Fin 4) (f : CutSet → CutSet) (s : State) : (s.modSet k f).dosingTimer = s.dosingTimer := rfl
@[simp] theorem State.modSet_mainSite (k : Fin 4) (f : CutSet → CutSet) (s : State) : (s.modSet k f).mainSite = s.mainSite := rfl
@[simp] theorem State.modSet_calcSite (k : Fin 4) (f : CutSet → CutSet) (s : State) : (s.modSet k f).calcSite = s.calcSite := rfl
@[simp] theorem State.modSet_slots (k : Fin 4) (f : CutSet → CutSet) (s : State) : (s.modSet k f).slots = s.slots := rfl
@[simp] theorem State.modSet_cooler (k : Fin 4) (f : CutSet → CutSet) (s : State) : (s.modSet k f).cooler = s.cooler := rfl
@[simp] theorem State.modSet_contacts (k : Fin 4) (f : CutSet → CutSet) (s : State) : (s.modSet k f).contacts = s.contacts := rfl
@[simp] theorem State.modSet_scanTimer (k : Fin 4) (f : CutSet → CutSet) (s : State) : (s.modSet k f).scanTimer = s.scanTimer := rfl
@[simp] theorem State.modSet_scanCount (k : Fin 4) (f : CutSet → CutSet) (s : State) : (s.modSet k f).scanCount = s.scanCount := rfl
@[simp] theorem State.modSet_contactInputs (k : Fin 4) (f : CutSet → CutSet) (s : State) : (s.modSet k f).contactInputs = s.contactInputs := rfl
@[simp] theorem State.modSet_au (k : Fin 4) (f : CutSet → CutSet) (s : State) : (s.modSet k f).au = s.au := rfl
@[simp] theorem State.modSet_su (k : Fin 4) (f : CutSet → CutSet) (s : State) : (s.modSet k f).su = s.su := rfl
@[simp] theorem State.modSet_stream (k : Fin 4) (f : CutSet → CutSet) (s : State) (j : Fin 8) :
    (s.modSet k f).stream j = s.stream j := rfl
@[simp] theorem State.modSet_slot (k : Fin 4) (f : CutSet → CutSet) (s : State) (m : Fin 8) :
    (s.modSet k f).slot m = s.slot m := rfl
@[simp] theorem State.modSet_contact (k : Fin 4) (f : CutSet → CutSet) (s : State) (j : Fin 24) :
    (s.modSet k f).contact j = s.contact j := rfl
@[simp] theorem State.modSet_siteRec (k : Fin 4) (f : CutSet → CutSet) (s : State) (y : Site) :
    (s.modSet k f).siteRec y = s.siteRec y := by cases y <;> rfl
@[simp] theorem State.modSet_link (k : Fin 4) (f : CutSet → CutSet) (s : State) (j : Link) :
    (s.modSet k f).link j = s.link j := by cases j <;> rfl

/-! ### modContact -/

@[simp] theorem State.modContact_pending (k : Fin 24) (f : Contact → Contact) (s : State) : (s.modContact k f).pending = s.pending := rfl
@[simp] theorem State.modContact_raceSeed (k : Fin 24) (f : Contact → Contact) (s : State) : (s.modContact k f).raceSeed = s.raceSeed := rfl
@[simp] theorem State.modContact_resetCause (k : Fin 24) (f : Contact → Contact) (s : State) : (s.modContact k f).resetCause = s.resetCause := rfl
@[simp] theorem State.modContact_procLink (k : Fin 24) (f : Contact → Contact) (s : State) : (s.modContact k f).procLink = s.procLink := rfl
@[simp] theorem State.modContact_safeLink (k : Fin 24) (f : Contact → Contact) (s : State) : (s.modContact k f).safeLink = s.safeLink := rfl
@[simp] theorem State.modContact_deskLink (k : Fin 24) (f : Contact → Contact) (s : State) : (s.modContact k f).deskLink = s.deskLink := rfl
@[simp] theorem State.modContact_streams (k : Fin 24) (f : Contact → Contact) (s : State) : (s.modContact k f).streams = s.streams := rfl
@[simp] theorem State.modContact_computedWord (k : Fin 24) (f : Contact → Contact) (s : State) : (s.modContact k f).computedWord = s.computedWord := rfl
@[simp] theorem State.modContact_expectedWord (k : Fin 24) (f : Contact → Contact) (s : State) : (s.modContact k f).expectedWord = s.expectedWord := rfl
@[simp] theorem State.modContact_safeTimer (k : Fin 24) (f : Contact → Contact) (s : State) : (s.modContact k f).safeTimer = s.safeTimer := rfl
@[simp] theorem State.modContact_safeTimeout (k : Fin 24) (f : Contact → Contact) (s : State) : (s.modContact k f).safeTimeout = s.safeTimeout := rfl
@[simp] theorem State.modContact_safeHealthy (k : Fin 24) (f : Contact → Contact) (s : State) : (s.modContact k f).safeHealthy = s.safeHealthy := rfl
@[simp] theorem State.modContact_period (k : Fin 24) (f : Contact → Contact) (s : State) : (s.modContact k f).period = s.period := rfl
@[simp] theorem State.modContact_dosingTimer (k : Fin 24) (f : Contact → Contact) (s : State) : (s.modContact k f).dosingTimer = s.dosingTimer := rfl
@[simp] theorem State.modContact_mainSite (k : Fin 24) (f : Contact → Contact) (s : State) : (s.modContact k f).mainSite = s.mainSite := rfl
@[simp] theorem State.modContact_calcSite (k : Fin 24) (f : Contact → Contact) (s : State) : (s.modContact k f).calcSite = s.calcSite := rfl
@[simp] theorem State.modContact_slots (k : Fin 24) (f : Contact → Contact) (s : State) : (s.modContact k f).slots = s.slots := rfl
@[simp] theorem State.modContact_sets (k : Fin 24) (f : Contact → Contact) (s : State) : (s.modContact k f).sets = s.sets := rfl
@[simp] theorem State.modContact_cooler (k : Fin 24) (f : Contact → Contact) (s : State) : (s.modContact k f).cooler = s.cooler := rfl
@[simp] theorem State.modContact_scanTimer (k : Fin 24) (f : Contact → Contact) (s : State) : (s.modContact k f).scanTimer = s.scanTimer := rfl
@[simp] theorem State.modContact_scanCount (k : Fin 24) (f : Contact → Contact) (s : State) : (s.modContact k f).scanCount = s.scanCount := rfl
@[simp] theorem State.modContact_contactInputs (k : Fin 24) (f : Contact → Contact) (s : State) : (s.modContact k f).contactInputs = s.contactInputs := rfl
@[simp] theorem State.modContact_au (k : Fin 24) (f : Contact → Contact) (s : State) : (s.modContact k f).au = s.au := rfl
@[simp] theorem State.modContact_su (k : Fin 24) (f : Contact → Contact) (s : State) : (s.modContact k f).su = s.su := rfl
@[simp] theorem State.modContact_stream (k : Fin 24) (f : Contact → Contact) (s : State) (j : Fin 8) :
    (s.modContact k f).stream j = s.stream j := rfl
@[simp] theorem State.modContact_slot (k : Fin 24) (f : Contact → Contact) (s : State) (m : Fin 8) :
    (s.modContact k f).slot m = s.slot m := rfl
@[simp] theorem State.modContact_cutSet (k : Fin 24) (f : Contact → Contact) (s : State) (j : Fin 4) :
    (s.modContact k f).cutSet j = s.cutSet j := rfl
@[simp] theorem State.modContact_siteRec (k : Fin 24) (f : Contact → Contact) (s : State) (y : Site) :
    (s.modContact k f).siteRec y = s.siteRec y := by cases y <;> rfl
@[simp] theorem State.modContact_link (k : Fin 24) (f : Contact → Contact) (s : State) (j : Link) :
    (s.modContact k f).link j = s.link j := by cases j <;> rfl

/-! ### modCooler -/

@[simp] theorem State.modCooler_pending (f : Cooler → Cooler) (s : State) : (s.modCooler f).pending = s.pending := rfl
@[simp] theorem State.modCooler_raceSeed (f : Cooler → Cooler) (s : State) : (s.modCooler f).raceSeed = s.raceSeed := rfl
@[simp] theorem State.modCooler_resetCause (f : Cooler → Cooler) (s : State) : (s.modCooler f).resetCause = s.resetCause := rfl
@[simp] theorem State.modCooler_procLink (f : Cooler → Cooler) (s : State) : (s.modCooler f).procLink = s.procLink := rfl
@[simp] theorem State.modCooler_safeLink (f : Cooler → Cooler) (s : State) : (s.modCooler f).safeLink = s.safeLink := rfl
@[simp] theorem State.modCooler_deskLink (f : Cooler → Cooler) (s : State) : (s.modCooler f).deskLink = s.deskLink := rfl
@[simp] theorem State.modCooler_streams (f : Cooler → Cooler) (s : State) : (s.modCooler f).streams = s.streams := rfl
@[simp] theorem State.modCooler_computedWord (f : Cooler → Cooler) (s : State) : (s.modCooler f).computedWord = s.computedWord := rfl
@[simp] theorem State.modCooler_expectedWord (f : Cooler → Cooler) (s : State) : (s.modCooler f).expectedWord = s.expectedWord := rfl
@[simp] theorem State.modCooler_safeTimer (f : Cooler → Cooler) (s : State) : (s.modCooler f).safeTimer = s.safeTimer := rfl
@[simp] theorem State.modCooler_safeTimeout (f : Cooler → Cooler) (s : State) : (s.modCooler f).safeTimeout = s.safeTimeout := rfl
@[simp] theorem State.modCooler_safeHealthy (f : Cooler → Cooler) (s : State) : (s.modCooler f).safeHealthy = s.safeHealthy := rfl
@[simp] theorem State.modCooler_period (f : Cooler → Cooler) (s : State) : (s.modCooler f).period = s.period := rfl
@[simp] theorem State.modCooler_dosingTimer (f : Cooler → Cooler) (s : State) : (s.modCooler f).dosingTimer = s.dosingTimer := rfl
@[simp] theorem State.modCooler_mainSite (f : Cooler → Cooler) (s : State) : (s.modCooler f).mainSite = s.mainSite := rfl
@[simp] theorem State.modCooler_calcSite (f : Cooler → Cooler) (s : State) : (s.modCooler f).calcSite = s.calcSite := rfl
@[simp] theorem State.modCooler_slots (f : Cooler → Cooler) (s : State) : (s.modCooler f).slots = s.slots := rfl
@[simp] theorem State.modCooler_sets (f : Cooler → Cooler) (s : State) : (s.modCooler f).sets = s.sets := rfl
@[simp] theorem State.modCooler_contacts (f : Cooler → Cooler) (s : State) : (s.modCooler f).contacts = s.contacts := rfl
@[simp] theorem State.modCooler_scanTimer (f : Cooler → Cooler) (s : State) : (s.modCooler f).scanTimer = s.scanTimer := rfl
@[simp] theorem State.modCooler_scanCount (f : Cooler → Cooler) (s : State) : (s.modCooler f).scanCount = s.scanCount := rfl
@[simp] theorem State.modCooler_contactInputs (f : Cooler → Cooler) (s : State) : (s.modCooler f).contactInputs = s.contactInputs := rfl
@[simp] theorem State.modCooler_au (f : Cooler → Cooler) (s : State) : (s.modCooler f).au = s.au := rfl
@[simp] theorem State.modCooler_su (f : Cooler → Cooler) (s : State) : (s.modCooler f).su = s.su := rfl
@[simp] theorem State.modCooler_stream (f : Cooler → Cooler) (s : State) (j : Fin 8) :
    (s.modCooler f).stream j = s.stream j := rfl
@[simp] theorem State.modCooler_slot (f : Cooler → Cooler) (s : State) (m : Fin 8) :
    (s.modCooler f).slot m = s.slot m := rfl
@[simp] theorem State.modCooler_cutSet (f : Cooler → Cooler) (s : State) (j : Fin 4) :
    (s.modCooler f).cutSet j = s.cutSet j := rfl
@[simp] theorem State.modCooler_contact (f : Cooler → Cooler) (s : State) (j : Fin 24) :
    (s.modCooler f).contact j = s.contact j := rfl
@[simp] theorem State.modCooler_siteRec (f : Cooler → Cooler) (s : State) (y : Site) :
    (s.modCooler f).siteRec y = s.siteRec y := by cases y <;> rfl
@[simp] theorem State.modCooler_link (f : Cooler → Cooler) (s : State) (j : Link) :
    (s.modCooler f).link j = s.link j := by cases j <;> rfl

/-! ### modLink -/

@[simp] theorem State.modLink_pending (l : Link) (f : LinkUnit → LinkUnit) (s : State) : (s.modLink l f).pending = s.pending := rfl
@[simp] theorem State.modLink_raceSeed (l : Link) (f : LinkUnit → LinkUnit) (s : State) : (s.modLink l f).raceSeed = s.raceSeed := rfl
@[simp] theorem State.modLink_resetCause (l : Link) (f : LinkUnit → LinkUnit) (s : State) : (s.modLink l f).resetCause = s.resetCause := rfl
@[simp] theorem State.modLink_streams (l : Link) (f : LinkUnit → LinkUnit) (s : State) : (s.modLink l f).streams = s.streams := rfl
@[simp] theorem State.modLink_computedWord (l : Link) (f : LinkUnit → LinkUnit) (s : State) : (s.modLink l f).computedWord = s.computedWord := rfl
@[simp] theorem State.modLink_expectedWord (l : Link) (f : LinkUnit → LinkUnit) (s : State) : (s.modLink l f).expectedWord = s.expectedWord := rfl
@[simp] theorem State.modLink_safeTimer (l : Link) (f : LinkUnit → LinkUnit) (s : State) : (s.modLink l f).safeTimer = s.safeTimer := rfl
@[simp] theorem State.modLink_safeTimeout (l : Link) (f : LinkUnit → LinkUnit) (s : State) : (s.modLink l f).safeTimeout = s.safeTimeout := rfl
@[simp] theorem State.modLink_safeHealthy (l : Link) (f : LinkUnit → LinkUnit) (s : State) : (s.modLink l f).safeHealthy = s.safeHealthy := rfl
@[simp] theorem State.modLink_period (l : Link) (f : LinkUnit → LinkUnit) (s : State) : (s.modLink l f).period = s.period := rfl
@[simp] theorem State.modLink_dosingTimer (l : Link) (f : LinkUnit → LinkUnit) (s : State) : (s.modLink l f).dosingTimer = s.dosingTimer := rfl
@[simp] theorem State.modLink_mainSite (l : Link) (f : LinkUnit → LinkUnit) (s : State) : (s.modLink l f).mainSite = s.mainSite := rfl
@[simp] theorem State.modLink_calcSite (l : Link) (f : LinkUnit → LinkUnit) (s : State) : (s.modLink l f).calcSite = s.calcSite := rfl
@[simp] theorem State.modLink_slots (l : Link) (f : LinkUnit → LinkUnit) (s : State) : (s.modLink l f).slots = s.slots := rfl
@[simp] theorem State.modLink_sets (l : Link) (f : LinkUnit → LinkUnit) (s : State) : (s.modLink l f).sets = s.sets := rfl
@[simp] theorem State.modLink_cooler (l : Link) (f : LinkUnit → LinkUnit) (s : State) : (s.modLink l f).cooler = s.cooler := rfl
@[simp] theorem State.modLink_contacts (l : Link) (f : LinkUnit → LinkUnit) (s : State) : (s.modLink l f).contacts = s.contacts := rfl
@[simp] theorem State.modLink_scanTimer (l : Link) (f : LinkUnit → LinkUnit) (s : State) : (s.modLink l f).scanTimer = s.scanTimer := rfl
@[simp] theorem State.modLink_scanCount (l : Link) (f : LinkUnit → LinkUnit) (s : State) : (s.modLink l f).scanCount = s.scanCount := rfl
@[simp] theorem State.modLink_contactInputs (l : Link) (f : LinkUnit → LinkUnit) (s : State) : (s.modLink l f).contactInputs = s.contactInputs := rfl
@[simp] theorem State.modLink_au (l : Link) (f : LinkUnit → LinkUnit) (s : State) : (s.modLink l f).au = s.au := rfl
@[simp] theorem State.modLink_su (l : Link) (f : LinkUnit → LinkUnit) (s : State) : (s.modLink l f).su = s.su := rfl
@[simp] theorem State.modLink_stream (l : Link) (f : LinkUnit → LinkUnit) (s : State) (j : Fin 8) :
    (s.modLink l f).stream j = s.stream j := rfl
@[simp] theorem State.modLink_slot (l : Link) (f : LinkUnit → LinkUnit) (s : State) (m : Fin 8) :
    (s.modLink l f).slot m = s.slot m := rfl
@[simp] theorem State.modLink_cutSet (l : Link) (f : LinkUnit → LinkUnit) (s : State) (j : Fin 4) :
    (s.modLink l f).cutSet j = s.cutSet j := rfl
@[simp] theorem State.modLink_contact (l : Link) (f : LinkUnit → LinkUnit) (s : State) (j : Fin 24) :
    (s.modLink l f).contact j = s.contact j := rfl
@[simp] theorem State.modLink_siteRec (l : Link) (f : LinkUnit → LinkUnit) (s : State) (y : Site) :
    (s.modLink l f).siteRec y = s.siteRec y := by cases y <;> rfl

/-! ### setFactors -/

@[simp] theorem State.setFactors_pending (f : Factors) (s : State) : (s.setFactors f).pending = s.pending := rfl
@[simp] theorem State.setFactors_raceSeed (f : Factors) (s : State) : (s.setFactors f).raceSeed = s.raceSeed := rfl
@[simp] theorem State.setFactors_resetCause (f : Factors) (s : State) : (s.setFactors f).resetCause = s.resetCause := rfl
@[simp] theorem State.setFactors_streams (f : Factors) (s : State) : (s.setFactors f).streams = s.streams := rfl
@[simp] theorem State.setFactors_computedWord (f : Factors) (s : State) : (s.setFactors f).computedWord = s.computedWord := rfl
@[simp] theorem State.setFactors_expectedWord (f : Factors) (s : State) : (s.setFactors f).expectedWord = s.expectedWord := rfl
@[simp] theorem State.setFactors_safeTimer (f : Factors) (s : State) : (s.setFactors f).safeTimer = s.safeTimer := rfl
@[simp] theorem State.setFactors_safeTimeout (f : Factors) (s : State) : (s.setFactors f).safeTimeout = s.safeTimeout := rfl
@[simp] theorem State.setFactors_safeHealthy (f : Factors) (s : State) : (s.setFactors f).safeHealthy = s.safeHealthy := rfl
@[simp] theorem State.setFactors_period (f : Factors) (s : State) : (s.setFactors f).period = s.period := rfl
@[simp] theorem State.setFactors_dosingTimer (f : Factors) (s : State) : (s.setFactors f).dosingTimer = s.dosingTimer := rfl
@[simp] theorem State.setFactors_mainSite (f : Factors) (s : State) : (s.setFactors f).mainSite = s.mainSite := rfl
@[simp] theorem State.setFactors_calcSite (f : Factors) (s : State) : (s.setFactors f).calcSite = s.calcSite := rfl
@[simp] theorem State.setFactors_slots (f : Factors) (s : State) : (s.setFactors f).slots = s.slots := rfl
@[simp] theorem State.setFactors_sets (f : Factors) (s : State) : (s.setFactors f).sets = s.sets := rfl
@[simp] theorem State.setFactors_cooler (f : Factors) (s : State) : (s.setFactors f).cooler = s.cooler := rfl
@[simp] theorem State.setFactors_contacts (f : Factors) (s : State) : (s.setFactors f).contacts = s.contacts := rfl
@[simp] theorem State.setFactors_scanTimer (f : Factors) (s : State) : (s.setFactors f).scanTimer = s.scanTimer := rfl
@[simp] theorem State.setFactors_scanCount (f : Factors) (s : State) : (s.setFactors f).scanCount = s.scanCount := rfl
@[simp] theorem State.setFactors_contactInputs (f : Factors) (s : State) : (s.setFactors f).contactInputs = s.contactInputs := rfl
@[simp] theorem State.setFactors_au (f : Factors) (s : State) : (s.setFactors f).au = s.au := rfl
@[simp] theorem State.setFactors_su (f : Factors) (s : State) : (s.setFactors f).su = s.su := rfl
@[simp] theorem State.setFactors_stream (f : Factors) (s : State) (j : Fin 8) :
    (s.setFactors f).stream j = s.stream j := rfl
@[simp] theorem State.setFactors_slot (f : Factors) (s : State) (m : Fin 8) :
    (s.setFactors f).slot m = s.slot m := rfl
@[simp] theorem State.setFactors_cutSet (f : Factors) (s : State) (j : Fin 4) :
    (s.setFactors f).cutSet j = s.cutSet j := rfl
@[simp] theorem State.setFactors_contact (f : Factors) (s : State) (j : Fin 24) :
    (s.setFactors f).contact j = s.contact j := rfl
@[simp] theorem State.setFactors_siteRec (f : Factors) (s : State) (y : Site) :
    (s.setFactors f).siteRec y = s.siteRec y := by cases y <;> rfl

/-! ### modShift -/

@[simp] theorem State.modShift_pending (f : OpenShift → OpenShift) (s : State) : (s.modShift f).pending = s.pending := rfl
@[simp] theorem State.modShift_raceSeed (f : OpenShift → OpenShift) (s : State) : (s.modShift f).raceSeed = s.raceSeed := rfl
@[simp] theorem State.modShift_resetCause (f : OpenShift → OpenShift) (s : State) : (s.modShift f).resetCause = s.resetCause := rfl
@[simp] theorem State.modShift_procLink (f : OpenShift → OpenShift) (s : State) : (s.modShift f).procLink = s.procLink := rfl
@[simp] theorem State.modShift_safeLink (f : OpenShift → OpenShift) (s : State) : (s.modShift f).safeLink = s.safeLink := rfl
@[simp] theorem State.modShift_deskLink (f : OpenShift → OpenShift) (s : State) : (s.modShift f).deskLink = s.deskLink := rfl
@[simp] theorem State.modShift_streams (f : OpenShift → OpenShift) (s : State) : (s.modShift f).streams = s.streams := rfl
@[simp] theorem State.modShift_computedWord (f : OpenShift → OpenShift) (s : State) : (s.modShift f).computedWord = s.computedWord := rfl
@[simp] theorem State.modShift_expectedWord (f : OpenShift → OpenShift) (s : State) : (s.modShift f).expectedWord = s.expectedWord := rfl
@[simp] theorem State.modShift_safeTimer (f : OpenShift → OpenShift) (s : State) : (s.modShift f).safeTimer = s.safeTimer := rfl
@[simp] theorem State.modShift_safeTimeout (f : OpenShift → OpenShift) (s : State) : (s.modShift f).safeTimeout = s.safeTimeout := rfl
@[simp] theorem State.modShift_safeHealthy (f : OpenShift → OpenShift) (s : State) : (s.modShift f).safeHealthy = s.safeHealthy := rfl
@[simp] theorem State.modShift_period (f : OpenShift → OpenShift) (s : State) : (s.modShift f).period = s.period := rfl
@[simp] theorem State.modShift_dosingTimer (f : OpenShift → OpenShift) (s : State) : (s.modShift f).dosingTimer = s.dosingTimer := rfl
@[simp] theorem State.modShift_mainSite (f : OpenShift → OpenShift) (s : State) : (s.modShift f).mainSite = s.mainSite := rfl
@[simp] theorem State.modShift_calcSite (f : OpenShift → OpenShift) (s : State) : (s.modShift f).calcSite = s.calcSite := rfl
@[simp] theorem State.modShift_slots (f : OpenShift → OpenShift) (s : State) : (s.modShift f).slots = s.slots := rfl
@[simp] theorem State.modShift_sets (f : OpenShift → OpenShift) (s : State) : (s.modShift f).sets = s.sets := rfl
@[simp] theorem State.modShift_cooler (f : OpenShift → OpenShift) (s : State) : (s.modShift f).cooler = s.cooler := rfl
@[simp] theorem State.modShift_contacts (f : OpenShift → OpenShift) (s : State) : (s.modShift f).contacts = s.contacts := rfl
@[simp] theorem State.modShift_scanTimer (f : OpenShift → OpenShift) (s : State) : (s.modShift f).scanTimer = s.scanTimer := rfl
@[simp] theorem State.modShift_scanCount (f : OpenShift → OpenShift) (s : State) : (s.modShift f).scanCount = s.scanCount := rfl
@[simp] theorem State.modShift_contactInputs (f : OpenShift → OpenShift) (s : State) : (s.modShift f).contactInputs = s.contactInputs := rfl
@[simp] theorem State.modShift_au (f : OpenShift → OpenShift) (s : State) : (s.modShift f).au = s.au := rfl
@[simp] theorem State.modShift_stream (f : OpenShift → OpenShift) (s : State) (j : Fin 8) :
    (s.modShift f).stream j = s.stream j := rfl
@[simp] theorem State.modShift_slot (f : OpenShift → OpenShift) (s : State) (m : Fin 8) :
    (s.modShift f).slot m = s.slot m := rfl
@[simp] theorem State.modShift_cutSet (f : OpenShift → OpenShift) (s : State) (j : Fin 4) :
    (s.modShift f).cutSet j = s.cutSet j := rfl
@[simp] theorem State.modShift_contact (f : OpenShift → OpenShift) (s : State) (j : Fin 24) :
    (s.modShift f).contact j = s.contact j := rfl
@[simp] theorem State.modShift_siteRec (f : OpenShift → OpenShift) (s : State) (y : Site) :
    (s.modShift f).siteRec y = s.siteRec y := by cases y <;> rfl
@[simp] theorem State.modShift_link (f : OpenShift → OpenShift) (s : State) (j : Link) :
    (s.modShift f).link j = s.link j := by cases j <;> rfl

/-! ### recheck -/

@[simp] theorem State.recheck_pending (s : State) : (s.recheck).pending = s.pending := rfl
@[simp] theorem State.recheck_raceSeed (s : State) : (s.recheck).raceSeed = s.raceSeed := rfl
@[simp] theorem State.recheck_resetCause (s : State) : (s.recheck).resetCause = s.resetCause := rfl
@[simp] theorem State.recheck_procLink (s : State) : (s.recheck).procLink = s.procLink := rfl
@[simp] theorem State.recheck_safeLink (s : State) : (s.recheck).safeLink = s.safeLink := rfl
@[simp] theorem State.recheck_deskLink (s : State) : (s.recheck).deskLink = s.deskLink := rfl
@[simp] theorem State.recheck_streams (s : State) : (s.recheck).streams = s.streams := rfl
@[simp] theorem State.recheck_expectedWord (s : State) : (s.recheck).expectedWord = s.expectedWord := rfl
@[simp] theorem State.recheck_safeTimer (s : State) : (s.recheck).safeTimer = s.safeTimer := rfl
@[simp] theorem State.recheck_safeTimeout (s : State) : (s.recheck).safeTimeout = s.safeTimeout := rfl
@[simp] theorem State.recheck_safeHealthy (s : State) : (s.recheck).safeHealthy = s.safeHealthy := rfl
@[simp] theorem State.recheck_period (s : State) : (s.recheck).period = s.period := rfl
@[simp] theorem State.recheck_dosingTimer (s : State) : (s.recheck).dosingTimer = s.dosingTimer := rfl
@[simp] theorem State.recheck_mainSite (s : State) : (s.recheck).mainSite = s.mainSite := rfl
@[simp] theorem State.recheck_calcSite (s : State) : (s.recheck).calcSite = s.calcSite := rfl
@[simp] theorem State.recheck_slots (s : State) : (s.recheck).slots = s.slots := rfl
@[simp] theorem State.recheck_sets (s : State) : (s.recheck).sets = s.sets := rfl
@[simp] theorem State.recheck_cooler (s : State) : (s.recheck).cooler = s.cooler := rfl
@[simp] theorem State.recheck_contacts (s : State) : (s.recheck).contacts = s.contacts := rfl
@[simp] theorem State.recheck_scanTimer (s : State) : (s.recheck).scanTimer = s.scanTimer := rfl
@[simp] theorem State.recheck_scanCount (s : State) : (s.recheck).scanCount = s.scanCount := rfl
@[simp] theorem State.recheck_contactInputs (s : State) : (s.recheck).contactInputs = s.contactInputs := rfl
@[simp] theorem State.recheck_au (s : State) : (s.recheck).au = s.au := rfl
@[simp] theorem State.recheck_su (s : State) : (s.recheck).su = s.su := rfl
@[simp] theorem State.recheck_stream (s : State) (j : Fin 8) :
    (s.recheck).stream j = s.stream j := rfl
@[simp] theorem State.recheck_slot (s : State) (m : Fin 8) :
    (s.recheck).slot m = s.slot m := rfl
@[simp] theorem State.recheck_cutSet (s : State) (j : Fin 4) :
    (s.recheck).cutSet j = s.cutSet j := rfl
@[simp] theorem State.recheck_contact (s : State) (j : Fin 24) :
    (s.recheck).contact j = s.contact j := rfl
@[simp] theorem State.recheck_siteRec (s : State) (y : Site) :
    (s.recheck).siteRec y = s.siteRec y := by cases y <;> rfl
@[simp] theorem State.recheck_link (s : State) (j : Link) :
    (s.recheck).link j = s.link j := by cases j <;> rfl

/-! ### withAlarms -/

@[simp] theorem State.withAlarms_pending (a : AlarmUnit) (b : Bool) (s : State) : (s.withAlarms a b).pending = s.pending := rfl
@[simp] theorem State.withAlarms_raceSeed (a : AlarmUnit) (b : Bool) (s : State) : (s.withAlarms a b).raceSeed = s.raceSeed := rfl
@[simp] theorem State.withAlarms_resetCause (a : AlarmUnit) (b : Bool) (s : State) : (s.withAlarms a b).resetCause = s.resetCause := rfl
@[simp] theorem State.withAlarms_streams (a : AlarmUnit) (b : Bool) (s : State) : (s.withAlarms a b).streams = s.streams := rfl
@[simp] theorem State.withAlarms_computedWord (a : AlarmUnit) (b : Bool) (s : State) : (s.withAlarms a b).computedWord = s.computedWord := rfl
@[simp] theorem State.withAlarms_expectedWord (a : AlarmUnit) (b : Bool) (s : State) : (s.withAlarms a b).expectedWord = s.expectedWord := rfl
@[simp] theorem State.withAlarms_safeTimer (a : AlarmUnit) (b : Bool) (s : State) : (s.withAlarms a b).safeTimer = s.safeTimer := rfl
@[simp] theorem State.withAlarms_safeTimeout (a : AlarmUnit) (b : Bool) (s : State) : (s.withAlarms a b).safeTimeout = s.safeTimeout := rfl
@[simp] theorem State.withAlarms_safeHealthy (a : AlarmUnit) (b : Bool) (s : State) : (s.withAlarms a b).safeHealthy = s.safeHealthy := rfl
@[simp] theorem State.withAlarms_period (a : AlarmUnit) (b : Bool) (s : State) : (s.withAlarms a b).period = s.period := rfl
@[simp] theorem State.withAlarms_dosingTimer (a : AlarmUnit) (b : Bool) (s : State) : (s.withAlarms a b).dosingTimer = s.dosingTimer := rfl
@[simp] theorem State.withAlarms_mainSite (a : AlarmUnit) (b : Bool) (s : State) : (s.withAlarms a b).mainSite = s.mainSite := rfl
@[simp] theorem State.withAlarms_calcSite (a : AlarmUnit) (b : Bool) (s : State) : (s.withAlarms a b).calcSite = s.calcSite := rfl
@[simp] theorem State.withAlarms_slots (a : AlarmUnit) (b : Bool) (s : State) : (s.withAlarms a b).slots = s.slots := rfl
@[simp] theorem State.withAlarms_sets (a : AlarmUnit) (b : Bool) (s : State) : (s.withAlarms a b).sets = s.sets := rfl
@[simp] theorem State.withAlarms_cooler (a : AlarmUnit) (b : Bool) (s : State) : (s.withAlarms a b).cooler = s.cooler := rfl
@[simp] theorem State.withAlarms_contacts (a : AlarmUnit) (b : Bool) (s : State) : (s.withAlarms a b).contacts = s.contacts := rfl
@[simp] theorem State.withAlarms_scanTimer (a : AlarmUnit) (b : Bool) (s : State) : (s.withAlarms a b).scanTimer = s.scanTimer := rfl
@[simp] theorem State.withAlarms_scanCount (a : AlarmUnit) (b : Bool) (s : State) : (s.withAlarms a b).scanCount = s.scanCount := rfl
@[simp] theorem State.withAlarms_contactInputs (a : AlarmUnit) (b : Bool) (s : State) : (s.withAlarms a b).contactInputs = s.contactInputs := rfl
@[simp] theorem State.withAlarms_su (a : AlarmUnit) (b : Bool) (s : State) : (s.withAlarms a b).su = s.su := rfl
@[simp] theorem State.withAlarms_stream (a : AlarmUnit) (b : Bool) (s : State) (j : Fin 8) :
    (s.withAlarms a b).stream j = s.stream j := rfl
@[simp] theorem State.withAlarms_slot (a : AlarmUnit) (b : Bool) (s : State) (m : Fin 8) :
    (s.withAlarms a b).slot m = s.slot m := rfl
@[simp] theorem State.withAlarms_cutSet (a : AlarmUnit) (b : Bool) (s : State) (j : Fin 4) :
    (s.withAlarms a b).cutSet j = s.cutSet j := rfl
@[simp] theorem State.withAlarms_contact (a : AlarmUnit) (b : Bool) (s : State) (j : Fin 24) :
    (s.withAlarms a b).contact j = s.contact j := rfl
@[simp] theorem State.withAlarms_siteRec (a : AlarmUnit) (b : Bool) (s : State) (y : Site) :
    (s.withAlarms a b).siteRec y = s.siteRec y := by cases y <;> rfl

/-! ### The record an update changes reads back -/

/-- The changed stream, and every other stream. -/
theorem State.modStream_stream (i : Fin 8) (f : Stream → Stream) (s : State) (j : Fin 8) :
    (s.modStream i f).stream j = if j = i then f (s.stream i) else s.stream j := by
  simp only [State.modStream, State.stream, Fin.getElem_fin, Vector.getElem_set, ← Fin.ext_iff, eq_comm (a := i)]

@[simp] theorem State.modStream_stream_self (i : Fin 8) (f : Stream → Stream) (s : State) :
    (s.modStream i f).stream i = f (s.stream i) := by rw [State.modStream_stream, if_pos rfl]

@[simp] theorem State.modStream_stream_other (i j : Fin 8) (f : Stream → Stream) (s : State) (h : j ≠ i) :
    (s.modStream i f).stream j = s.stream j := by rw [State.modStream_stream, if_neg h]

/-- The changed slot, and every other slot. -/
theorem State.modSlot_slot (n : Fin 8) (f : Slot → Slot) (s : State) (m : Fin 8) :
    (s.modSlot n f).slot m = if m = n then f (s.slot n) else s.slot m := by
  simp only [State.modSlot, State.slot, Fin.getElem_fin, Vector.getElem_set, ← Fin.ext_iff, eq_comm (a := n)]

@[simp] theorem State.modSlot_slot_self (n : Fin 8) (f : Slot → Slot) (s : State) :
    (s.modSlot n f).slot n = f (s.slot n) := by rw [State.modSlot_slot, if_pos rfl]

@[simp] theorem State.modSlot_slot_other (n m : Fin 8) (f : Slot → Slot) (s : State) (h : m ≠ n) :
    (s.modSlot n f).slot m = s.slot m := by rw [State.modSlot_slot, if_neg h]

/-- The changed cutback set, and every other set. -/
theorem State.modSet_cutSet (k : Fin 4) (f : CutSet → CutSet) (s : State) (j : Fin 4) :
    (s.modSet k f).cutSet j = if j = k then f (s.cutSet k) else s.cutSet j := by
  simp only [State.modSet, State.cutSet, Fin.getElem_fin, Vector.getElem_set, ← Fin.ext_iff, eq_comm (a := k)]

@[simp] theorem State.modSet_cutSet_self (k : Fin 4) (f : CutSet → CutSet) (s : State) :
    (s.modSet k f).cutSet k = f (s.cutSet k) := by rw [State.modSet_cutSet, if_pos rfl]

@[simp] theorem State.modSet_cutSet_other (k j : Fin 4) (f : CutSet → CutSet) (s : State) (h : j ≠ k) :
    (s.modSet k f).cutSet j = s.cutSet j := by rw [State.modSet_cutSet, if_neg h]

/-- The changed contact, and every other contact. -/
theorem State.modContact_contact (k : Fin 24) (f : Contact → Contact) (s : State) (j : Fin 24) :
    (s.modContact k f).contact j = if j = k then f (s.contact k) else s.contact j := by
  simp only [State.modContact, State.contact, Fin.getElem_fin, Vector.getElem_set, ← Fin.ext_iff, eq_comm (a := k)]

@[simp] theorem State.modContact_contact_self (k : Fin 24) (f : Contact → Contact) (s : State) :
    (s.modContact k f).contact k = f (s.contact k) := by rw [State.modContact_contact, if_pos rfl]

@[simp] theorem State.modContact_contact_other (k j : Fin 24) (f : Contact → Contact) (s : State) (h : j ≠ k) :
    (s.modContact k f).contact j = s.contact j := by rw [State.modContact_contact, if_neg h]

/-- The changed site record, and the other. -/
theorem State.modSite_siteRec (x : Site) (f : SiteRec → SiteRec) (s : State) (y : Site) :
    (s.modSite x f).siteRec y = if y = x then f (s.siteRec x) else s.siteRec y := by
  cases x <;> cases y <;> rfl

@[simp] theorem State.modSite_siteRec_self (x : Site) (f : SiteRec → SiteRec) (s : State) :
    (s.modSite x f).siteRec x = f (s.siteRec x) := by cases x <;> rfl

@[simp] theorem State.modSite_siteRec_other (x y : Site) (f : SiteRec → SiteRec) (s : State) (h : y ≠ x) :
    (s.modSite x f).siteRec y = s.siteRec y := by rw [State.modSite_siteRec, if_neg h]

/-- The changed link unit, and the others. -/
theorem State.modLink_link (l : Link) (f : LinkUnit → LinkUnit) (s : State) (j : Link) :
    (s.modLink l f).link j = if j = l then f (s.link l) else s.link j := by
  cases l <;> cases j <;> rfl

@[simp] theorem State.modLink_link_self (l : Link) (f : LinkUnit → LinkUnit) (s : State) :
    (s.modLink l f).link l = f (s.link l) := by cases l <;> rfl

@[simp] theorem State.modLink_link_other (l j : Link) (f : LinkUnit → LinkUnit) (s : State) (h : j ≠ l) :
    (s.modLink l f).link j = s.link j := by rw [State.modLink_link, if_neg h]

@[simp] theorem State.setFactors_link (f : Factors) (s : State) (j : Link) :
    (s.setFactors f).link j = (s.link j).setFactors f := by cases j <;> rfl

@[simp] theorem State.modCooler_cooler (f : Cooler → Cooler) (s : State) : (s.modCooler f).cooler = f s.cooler := rfl

@[simp] theorem State.modShift_su (f : OpenShift → OpenShift) (s : State) :
    (s.modShift f).su = { s.su with shift := f s.su.shift } := rfl

@[simp] theorem State.withAlarms_au (a : AlarmUnit) (b : Bool) (s : State) : (s.withAlarms a b).au = a := rfl

@[simp] theorem State.withAlarms_link (a : AlarmUnit) (b : Bool) (s : State) (j : Link) :
    (s.withAlarms a b).link j = (s.link j).setFactors (newsIf b) := by cases j <;> rfl

@[simp] theorem State.recheck_word (s : State) : s.recheck.computedWord = checkWord s.streams := rfl

end Sys2Proof.Machine
end

