-- ==== Sys2Proof/Laws/Ops.lean ====
section
/-! SUPPORT. What the shared operations do, once for each, so that a proof cites these lemmas and unfolds none of them:
first the fields that an operation leaves alone, then, operation by operation, everything it can do. -/

namespace Sys2Proof.Machine

/-! ### shiftOut: what it leaves alone -/

@[simp] theorem shiftOut_pending (l : Link) (n : Nat) (s : State) : (shiftOut l n s).pending = s.pending := rfl
@[simp] theorem shiftOut_raceSeed (l : Link) (n : Nat) (s : State) : (shiftOut l n s).raceSeed = s.raceSeed := rfl
@[simp] theorem shiftOut_resetCause (l : Link) (n : Nat) (s : State) : (shiftOut l n s).resetCause = s.resetCause := rfl
@[simp] theorem shiftOut_streams (l : Link) (n : Nat) (s : State) : (shiftOut l n s).streams = s.streams := rfl
@[simp] theorem shiftOut_computedWord (l : Link) (n : Nat) (s : State) : (shiftOut l n s).computedWord = s.computedWord := rfl
@[simp] theorem shiftOut_expectedWord (l : Link) (n : Nat) (s : State) : (shiftOut l n s).expectedWord = s.expectedWord := rfl
@[simp] theorem shiftOut_safeTimer (l : Link) (n : Nat) (s : State) : (shiftOut l n s).safeTimer = s.safeTimer := rfl
@[simp] theorem shiftOut_safeTimeout (l : Link) (n : Nat) (s : State) : (shiftOut l n s).safeTimeout = s.safeTimeout := rfl
@[simp] theorem shiftOut_safeHealthy (l : Link) (n : Nat) (s : State) : (shiftOut l n s).safeHealthy = s.safeHealthy := rfl
@[simp] theorem shiftOut_period (l : Link) (n : Nat) (s : State) : (shiftOut l n s).period = s.period := rfl
@[simp] theorem shiftOut_dosingTimer (l : Link) (n : Nat) (s : State) : (shiftOut l n s).dosingTimer = s.dosingTimer := rfl
@[simp] theorem shiftOut_mainSite (l : Link) (n : Nat) (s : State) : (shiftOut l n s).mainSite = s.mainSite := rfl
@[simp] theorem shiftOut_calcSite (l : Link) (n : Nat) (s : State) : (shiftOut l n s).calcSite = s.calcSite := rfl
@[simp] theorem shiftOut_slots (l : Link) (n : Nat) (s : State) : (shiftOut l n s).slots = s.slots := rfl
@[simp] theorem shiftOut_sets (l : Link) (n : Nat) (s : State) : (shiftOut l n s).sets = s.sets := rfl
@[simp] theorem shiftOut_cooler (l : Link) (n : Nat) (s : State) : (shiftOut l n s).cooler = s.cooler := rfl
@[simp] theorem shiftOut_contacts (l : Link) (n : Nat) (s : State) : (shiftOut l n s).contacts = s.contacts := rfl
@[simp] theorem shiftOut_scanTimer (l : Link) (n : Nat) (s : State) : (shiftOut l n s).scanTimer = s.scanTimer := rfl
@[simp] theorem shiftOut_scanCount (l : Link) (n : Nat) (s : State) : (shiftOut l n s).scanCount = s.scanCount := rfl
@[simp] theorem shiftOut_contactInputs (l : Link) (n : Nat) (s : State) : (shiftOut l n s).contactInputs = s.contactInputs := rfl
@[simp] theorem shiftOut_au (l : Link) (n : Nat) (s : State) : (shiftOut l n s).au = s.au := rfl
@[simp] theorem shiftOut_su (l : Link) (n : Nat) (s : State) : (shiftOut l n s).su = s.su := rfl
@[simp] theorem shiftOut_stream (l : Link) (n : Nat) (s : State) (j : Fin 8) :
    (shiftOut l n s).stream j = s.stream j := rfl
@[simp] theorem shiftOut_slot (l : Link) (n : Nat) (s : State) (m : Fin 8) :
    (shiftOut l n s).slot m = s.slot m := rfl
@[simp] theorem shiftOut_cutSet (l : Link) (n : Nat) (s : State) (j : Fin 4) :
    (shiftOut l n s).cutSet j = s.cutSet j := rfl
@[simp] theorem shiftOut_contact (l : Link) (n : Nat) (s : State) (j : Fin 24) :
    (shiftOut l n s).contact j = s.contact j := rfl
@[simp] theorem shiftOut_siteRec (l : Link) (n : Nat) (s : State) (y : Site) :
    (shiftOut l n s).siteRec y = s.siteRec y := by cases y <;> rfl

/-! ### giveAnswer: what it leaves alone -/

@[simp] theorem giveAnswer_pending (l : Link) (code : Byte) (c : ResultCode) (b : List Byte) (s : State) : (giveAnswer l code c b s).pending = s.pending := rfl
@[simp] theorem giveAnswer_raceSeed (l : Link) (code : Byte) (c : ResultCode) (b : List Byte) (s : State) : (giveAnswer l code c b s).raceSeed = s.raceSeed := rfl
@[simp] theorem giveAnswer_resetCause (l : Link) (code : Byte) (c : ResultCode) (b : List Byte) (s : State) : (giveAnswer l code c b s).resetCause = s.resetCause := rfl
@[simp] theorem giveAnswer_streams (l : Link) (code : Byte) (c : ResultCode) (b : List Byte) (s : State) : (giveAnswer l code c b s).streams = s.streams := rfl
@[simp] theorem giveAnswer_computedWord (l : Link) (code : Byte) (c : ResultCode) (b : List Byte) (s : State) : (giveAnswer l code c b s).computedWord = s.computedWord := rfl
@[simp] theorem giveAnswer_expectedWord (l : Link) (code : Byte) (c : ResultCode) (b : List Byte) (s : State) : (giveAnswer l code c b s).expectedWord = s.expectedWord := rfl
@[simp] theorem giveAnswer_safeTimer (l : Link) (code : Byte) (c : ResultCode) (b : List Byte) (s : State) : (giveAnswer l code c b s).safeTimer = s.safeTimer := rfl
@[simp] theorem giveAnswer_safeTimeout (l : Link) (code : Byte) (c : ResultCode) (b : List Byte) (s : State) : (giveAnswer l code c b s).safeTimeout = s.safeTimeout := rfl
@[simp] theorem giveAnswer_safeHealthy (l : Link) (code : Byte) (c : ResultCode) (b : List Byte) (s : State) : (giveAnswer l code c b s).safeHealthy = s.safeHealthy := rfl
@[simp] theorem giveAnswer_period (l : Link) (code : Byte) (c : ResultCode) (b : List Byte) (s : State) : (giveAnswer l code c b s).period = s.period := rfl
@[simp] theorem giveAnswer_dosingTimer (l : Link) (code : Byte) (c : ResultCode) (b : List Byte) (s : State) : (giveAnswer l code c b s).dosingTimer = s.dosingTimer := rfl
@[simp] theorem giveAnswer_mainSite (l : Link) (code : Byte) (c : ResultCode) (b : List Byte) (s : State) : (giveAnswer l code c b s).mainSite = s.mainSite := rfl
@[simp] theorem giveAnswer_calcSite (l : Link) (code : Byte) (c : ResultCode) (b : List Byte) (s : State) : (giveAnswer l code c b s).calcSite = s.calcSite := rfl
@[simp] theorem giveAnswer_slots (l : Link) (code : Byte) (c : ResultCode) (b : List Byte) (s : State) : (giveAnswer l code c b s).slots = s.slots := rfl
@[simp] theorem giveAnswer_sets (l : Link) (code : Byte) (c : ResultCode) (b : List Byte) (s : State) : (giveAnswer l code c b s).sets = s.sets := rfl
@[simp] theorem giveAnswer_cooler (l : Link) (code : Byte) (c : ResultCode) (b : List Byte) (s : State) : (giveAnswer l code c b s).cooler = s.cooler := rfl
@[simp] theorem giveAnswer_contacts (l : Link) (code : Byte) (c : ResultCode) (b : List Byte) (s : State) : (giveAnswer l code c b s).contacts = s.contacts := rfl
@[simp] theorem giveAnswer_scanTimer (l : Link) (code : Byte) (c : ResultCode) (b : List Byte) (s : State) : (giveAnswer l code c b s).scanTimer = s.scanTimer := rfl
@[simp] theorem giveAnswer_scanCount (l : Link) (code : Byte) (c : ResultCode) (b : List Byte) (s : State) : (giveAnswer l code c b s).scanCount = s.scanCount := rfl
@[simp] theorem giveAnswer_contactInputs (l : Link) (code : Byte) (c : ResultCode) (b : List Byte) (s : State) : (giveAnswer l code c b s).contactInputs = s.contactInputs := rfl
@[simp] theorem giveAnswer_au (l : Link) (code : Byte) (c : ResultCode) (b : List Byte) (s : State) : (giveAnswer l code c b s).au = s.au := rfl
@[simp] theorem giveAnswer_su (l : Link) (code : Byte) (c : ResultCode) (b : List Byte) (s : State) : (giveAnswer l code c b s).su = s.su := rfl
@[simp] theorem giveAnswer_stream (l : Link) (code : Byte) (c : ResultCode) (b : List Byte) (s : State) (j : Fin 8) :
    (giveAnswer l code c b s).stream j = s.stream j := rfl
@[simp] theorem giveAnswer_slot (l : Link) (code : Byte) (c : ResultCode) (b : List Byte) (s : State) (m : Fin 8) :
    (giveAnswer l code c b s).slot m = s.slot m := rfl
@[simp] theorem giveAnswer_cutSet (l : Link) (code : Byte) (c : ResultCode) (b : List Byte) (s : State) (j : Fin 4) :
    (giveAnswer l code c b s).cutSet j = s.cutSet j := rfl
@[simp] theorem giveAnswer_contact (l : Link) (code : Byte) (c : ResultCode) (b : List Byte) (s : State) (j : Fin 24) :
    (giveAnswer l code c b s).contact j = s.contact j := rfl
@[simp] theorem giveAnswer_siteRec (l : Link) (code : Byte) (c : ResultCode) (b : List Byte) (s : State) (y : Site) :
    (giveAnswer l code c b s).siteRec y = s.siteRec y := by cases y <;> rfl

/-! ### endAbandoned: what it leaves alone -/

@[simp] theorem endAbandoned_pending (l : Link) (n : Nat) (s : State) : (endAbandoned l n s).pending = s.pending := rfl
@[simp] theorem endAbandoned_raceSeed (l : Link) (n : Nat) (s : State) : (endAbandoned l n s).raceSeed = s.raceSeed := rfl
@[simp] theorem endAbandoned_resetCause (l : Link) (n : Nat) (s : State) : (endAbandoned l n s).resetCause = s.resetCause := rfl
@[simp] theorem endAbandoned_streams (l : Link) (n : Nat) (s : State) : (endAbandoned l n s).streams = s.streams := rfl
@[simp] theorem endAbandoned_computedWord (l : Link) (n : Nat) (s : State) : (endAbandoned l n s).computedWord = s.computedWord := rfl
@[simp] theorem endAbandoned_expectedWord (l : Link) (n : Nat) (s : State) : (endAbandoned l n s).expectedWord = s.expectedWord := rfl
@[simp] theorem endAbandoned_safeTimer (l : Link) (n : Nat) (s : State) : (endAbandoned l n s).safeTimer = s.safeTimer := rfl
@[simp] theorem endAbandoned_safeTimeout (l : Link) (n : Nat) (s : State) : (endAbandoned l n s).safeTimeout = s.safeTimeout := rfl
@[simp] theorem endAbandoned_safeHealthy (l : Link) (n : Nat) (s : State) : (endAbandoned l n s).safeHealthy = s.safeHealthy := rfl
@[simp] theorem endAbandoned_period (l : Link) (n : Nat) (s : State) : (endAbandoned l n s).period = s.period := rfl
@[simp] theorem endAbandoned_dosingTimer (l : Link) (n : Nat) (s : State) : (endAbandoned l n s).dosingTimer = s.dosingTimer := rfl
@[simp] theorem endAbandoned_mainSite (l : Link) (n : Nat) (s : State) : (endAbandoned l n s).mainSite = s.mainSite := rfl
@[simp] theorem endAbandoned_calcSite (l : Link) (n : Nat) (s : State) : (endAbandoned l n s).calcSite = s.calcSite := rfl
@[simp] theorem endAbandoned_slots (l : Link) (n : Nat) (s : State) : (endAbandoned l n s).slots = s.slots := rfl
@[simp] theorem endAbandoned_sets (l : Link) (n : Nat) (s : State) : (endAbandoned l n s).sets = s.sets := rfl
@[simp] theorem endAbandoned_cooler (l : Link) (n : Nat) (s : State) : (endAbandoned l n s).cooler = s.cooler := rfl
@[simp] theorem endAbandoned_contacts (l : Link) (n : Nat) (s : State) : (endAbandoned l n s).contacts = s.contacts := rfl
@[simp] theorem endAbandoned_scanTimer (l : Link) (n : Nat) (s : State) : (endAbandoned l n s).scanTimer = s.scanTimer := rfl
@[simp] theorem endAbandoned_scanCount (l : Link) (n : Nat) (s : State) : (endAbandoned l n s).scanCount = s.scanCount := rfl
@[simp] theorem endAbandoned_contactInputs (l : Link) (n : Nat) (s : State) : (endAbandoned l n s).contactInputs = s.contactInputs := rfl
@[simp] theorem endAbandoned_au (l : Link) (n : Nat) (s : State) : (endAbandoned l n s).au = s.au := rfl
@[simp] theorem endAbandoned_su (l : Link) (n : Nat) (s : State) : (endAbandoned l n s).su = s.su := rfl
@[simp] theorem endAbandoned_stream (l : Link) (n : Nat) (s : State) (j : Fin 8) :
    (endAbandoned l n s).stream j = s.stream j := rfl
@[simp] theorem endAbandoned_slot (l : Link) (n : Nat) (s : State) (m : Fin 8) :
    (endAbandoned l n s).slot m = s.slot m := rfl
@[simp] theorem endAbandoned_cutSet (l : Link) (n : Nat) (s : State) (j : Fin 4) :
    (endAbandoned l n s).cutSet j = s.cutSet j := rfl
@[simp] theorem endAbandoned_contact (l : Link) (n : Nat) (s : State) (j : Fin 24) :
    (endAbandoned l n s).contact j = s.contact j := rfl
@[simp] theorem endAbandoned_siteRec (l : Link) (n : Nat) (s : State) (y : Site) :
    (endAbandoned l n s).siteRec y = s.siteRec y := by cases y <;> rfl

/-! ### bookRaise: what it leaves alone -/

@[simp] theorem bookRaise_pending (r : Raise) (s : State) : (bookRaise r s).pending = s.pending := rfl
@[simp] theorem bookRaise_raceSeed (r : Raise) (s : State) : (bookRaise r s).raceSeed = s.raceSeed := rfl
@[simp] theorem bookRaise_resetCause (r : Raise) (s : State) : (bookRaise r s).resetCause = s.resetCause := rfl
@[simp] theorem bookRaise_streams (r : Raise) (s : State) : (bookRaise r s).streams = s.streams := rfl
@[simp] theorem bookRaise_computedWord (r : Raise) (s : State) : (bookRaise r s).computedWord = s.computedWord := rfl
@[simp] theorem bookRaise_expectedWord (r : Raise) (s : State) : (bookRaise r s).expectedWord = s.expectedWord := rfl
@[simp] theorem bookRaise_safeTimer (r : Raise) (s : State) : (bookRaise r s).safeTimer = s.safeTimer := rfl
@[simp] theorem bookRaise_safeTimeout (r : Raise) (s : State) : (bookRaise r s).safeTimeout = s.safeTimeout := rfl
@[simp] theorem bookRaise_safeHealthy (r : Raise) (s : State) : (bookRaise r s).safeHealthy = s.safeHealthy := rfl
@[simp] theorem bookRaise_period (r : Raise) (s : State) : (bookRaise r s).period = s.period := rfl
@[simp] theorem bookRaise_dosingTimer (r : Raise) (s : State) : (bookRaise r s).dosingTimer = s.dosingTimer := rfl
@[simp] theorem bookRaise_mainSite (r : Raise) (s : State) : (bookRaise r s).mainSite = s.mainSite := rfl
@[simp] theorem bookRaise_calcSite (r : Raise) (s : State) : (bookRaise r s).calcSite = s.calcSite := rfl
@[simp] theorem bookRaise_slots (r : Raise) (s : State) : (bookRaise r s).slots = s.slots := rfl
@[simp] theorem bookRaise_sets (r : Raise) (s : State) : (bookRaise r s).sets = s.sets := rfl
@[simp] theorem bookRaise_cooler (r : Raise) (s : State) : (bookRaise r s).cooler = s.cooler := rfl
@[simp] theorem bookRaise_contacts (r : Raise) (s : State) : (bookRaise r s).contacts = s.contacts := rfl
@[simp] theorem bookRaise_scanTimer (r : Raise) (s : State) : (bookRaise r s).scanTimer = s.scanTimer := rfl
@[simp] theorem bookRaise_scanCount (r : Raise) (s : State) : (bookRaise r s).scanCount = s.scanCount := rfl
@[simp] theorem bookRaise_contactInputs (r : Raise) (s : State) : (bookRaise r s).contactInputs = s.contactInputs := rfl
@[simp] theorem bookRaise_stream (r : Raise) (s : State) (j : Fin 8) :
    (bookRaise r s).stream j = s.stream j := rfl
@[simp] theorem bookRaise_slot (r : Raise) (s : State) (m : Fin 8) :
    (bookRaise r s).slot m = s.slot m := rfl
@[simp] theorem bookRaise_cutSet (r : Raise) (s : State) (j : Fin 4) :
    (bookRaise r s).cutSet j = s.cutSet j := rfl
@[simp] theorem bookRaise_contact (r : Raise) (s : State) (j : Fin 24) :
    (bookRaise r s).contact j = s.contact j := rfl
@[simp] theorem bookRaise_siteRec (r : Raise) (s : State) (y : Site) :
    (bookRaise r s).siteRec y = s.siteRec y := by cases y <;> rfl

/-! ### offerFirstOut: what it leaves alone -/

@[simp] theorem offerFirstOut_pending (r : Raise) (s : State) : (offerFirstOut r s).pending = s.pending := rfl
@[simp] theorem offerFirstOut_raceSeed (r : Raise) (s : State) : (offerFirstOut r s).raceSeed = s.raceSeed := rfl
@[simp] theorem offerFirstOut_resetCause (r : Raise) (s : State) : (offerFirstOut r s).resetCause = s.resetCause := rfl
@[simp] theorem offerFirstOut_procLink (r : Raise) (s : State) : (offerFirstOut r s).procLink = s.procLink := rfl
@[simp] theorem offerFirstOut_safeLink (r : Raise) (s : State) : (offerFirstOut r s).safeLink = s.safeLink := rfl
@[simp] theorem offerFirstOut_deskLink (r : Raise) (s : State) : (offerFirstOut r s).deskLink = s.deskLink := rfl
@[simp] theorem offerFirstOut_streams (r : Raise) (s : State) : (offerFirstOut r s).streams = s.streams := rfl
@[simp] theorem offerFirstOut_computedWord (r : Raise) (s : State) : (offerFirstOut r s).computedWord = s.computedWord := rfl
@[simp] theorem offerFirstOut_expectedWord (r : Raise) (s : State) : (offerFirstOut r s).expectedWord = s.expectedWord := rfl
@[simp] theorem offerFirstOut_safeTimer (r : Raise) (s : State) : (offerFirstOut r s).safeTimer = s.safeTimer := rfl
@[simp] theorem offerFirstOut_safeTimeout (r : Raise) (s : State) : (offerFirstOut r s).safeTimeout = s.safeTimeout := rfl
@[simp] theorem offerFirstOut_safeHealthy (r : Raise) (s : State) : (offerFirstOut r s).safeHealthy = s.safeHealthy := rfl
@[simp] theorem offerFirstOut_period (r : Raise) (s : State) : (offerFirstOut r s).period = s.period := rfl
@[simp] theorem offerFirstOut_dosingTimer (r : Raise) (s : State) : (offerFirstOut r s).dosingTimer = s.dosingTimer := rfl
@[simp] theorem offerFirstOut_mainSite (r : Raise) (s : State) : (offerFirstOut r s).mainSite = s.mainSite := rfl
@[simp] theorem offerFirstOut_calcSite (r : Raise) (s : State) : (offerFirstOut r s).calcSite = s.calcSite := rfl
@[simp] theorem offerFirstOut_slots (r : Raise) (s : State) : (offerFirstOut r s).slots = s.slots := rfl
@[simp] theorem offerFirstOut_sets (r : Raise) (s : State) : (offerFirstOut r s).sets = s.sets := rfl
@[simp] theorem offerFirstOut_cooler (r : Raise) (s : State) : (offerFirstOut r s).cooler = s.cooler := rfl
@[simp] theorem offerFirstOut_contacts (r : Raise) (s : State) : (offerFirstOut r s).contacts = s.contacts := rfl
@[simp] theorem offerFirstOut_scanTimer (r : Raise) (s : State) : (offerFirstOut r s).scanTimer = s.scanTimer := rfl
@[simp] theorem offerFirstOut_scanCount (r : Raise) (s : State) : (offerFirstOut r s).scanCount = s.scanCount := rfl
@[simp] theorem offerFirstOut_contactInputs (r : Raise) (s : State) : (offerFirstOut r s).contactInputs = s.contactInputs := rfl
@[simp] theorem offerFirstOut_su (r : Raise) (s : State) : (offerFirstOut r s).su = s.su := rfl
@[simp] theorem offerFirstOut_stream (r : Raise) (s : State) (j : Fin 8) :
    (offerFirstOut r s).stream j = s.stream j := rfl
@[simp] theorem offerFirstOut_slot (r : Raise) (s : State) (m : Fin 8) :
    (offerFirstOut r s).slot m = s.slot m := rfl
@[simp] theorem offerFirstOut_cutSet (r : Raise) (s : State) (j : Fin 4) :
    (offerFirstOut r s).cutSet j = s.cutSet j := rfl
@[simp] theorem offerFirstOut_contact (r : Raise) (s : State) (j : Fin 24) :
    (offerFirstOut r s).contact j = s.contact j := rfl
@[simp] theorem offerFirstOut_siteRec (r : Raise) (s : State) (y : Site) :
    (offerFirstOut r s).siteRec y = s.siteRec y := by cases y <;> rfl
@[simp] theorem offerFirstOut_link (r : Raise) (s : State) (j : Link) :
    (offerFirstOut r s).link j = s.link j := by cases j <;> rfl

/-! ### raiseAlarm: what it leaves alone -/

@[simp] theorem raiseAlarm_pending (r : Raise) (s : State) : (raiseAlarm r s).pending = s.pending := rfl
@[simp] theorem raiseAlarm_raceSeed (r : Raise) (s : State) : (raiseAlarm r s).raceSeed = s.raceSeed := rfl
@[simp] theorem raiseAlarm_resetCause (r : Raise) (s : State) : (raiseAlarm r s).resetCause = s.resetCause := rfl
@[simp] theorem raiseAlarm_streams (r : Raise) (s : State) : (raiseAlarm r s).streams = s.streams := rfl
@[simp] theorem raiseAlarm_computedWord (r : Raise) (s : State) : (raiseAlarm r s).computedWord = s.computedWord := rfl
@[simp] theorem raiseAlarm_expectedWord (r : Raise) (s : State) : (raiseAlarm r s).expectedWord = s.expectedWord := rfl
@[simp] theorem raiseAlarm_safeTimer (r : Raise) (s : State) : (raiseAlarm r s).safeTimer = s.safeTimer := rfl
@[simp] theorem raiseAlarm_safeTimeout (r : Raise) (s : State) : (raiseAlarm r s).safeTimeout = s.safeTimeout := rfl
@[simp] theorem raiseAlarm_safeHealthy (r : Raise) (s : State) : (raiseAlarm r s).safeHealthy = s.safeHealthy := rfl
@[simp] theorem raiseAlarm_period (r : Raise) (s : State) : (raiseAlarm r s).period = s.period := rfl
@[simp] theorem raiseAlarm_dosingTimer (r : Raise) (s : State) : (raiseAlarm r s).dosingTimer = s.dosingTimer := rfl
@[simp] theorem raiseAlarm_mainSite (r : Raise) (s : State) : (raiseAlarm r s).mainSite = s.mainSite := rfl
@[simp] theorem raiseAlarm_calcSite (r : Raise) (s : State) : (raiseAlarm r s).calcSite = s.calcSite := rfl
@[simp] theorem raiseAlarm_slots (r : Raise) (s : State) : (raiseAlarm r s).slots = s.slots := rfl
@[simp] theorem raiseAlarm_sets (r : Raise) (s : State) : (raiseAlarm r s).sets = s.sets := rfl
@[simp] theorem raiseAlarm_cooler (r : Raise) (s : State) : (raiseAlarm r s).cooler = s.cooler := rfl
@[simp] theorem raiseAlarm_contacts (r : Raise) (s : State) : (raiseAlarm r s).contacts = s.contacts := rfl
@[simp] theorem raiseAlarm_scanTimer (r : Raise) (s : State) : (raiseAlarm r s).scanTimer = s.scanTimer := rfl
@[simp] theorem raiseAlarm_scanCount (r : Raise) (s : State) : (raiseAlarm r s).scanCount = s.scanCount := rfl
@[simp] theorem raiseAlarm_contactInputs (r : Raise) (s : State) : (raiseAlarm r s).contactInputs = s.contactInputs := rfl
@[simp] theorem raiseAlarm_stream (r : Raise) (s : State) (j : Fin 8) :
    (raiseAlarm r s).stream j = s.stream j := rfl
@[simp] theorem raiseAlarm_slot (r : Raise) (s : State) (m : Fin 8) :
    (raiseAlarm r s).slot m = s.slot m := rfl
@[simp] theorem raiseAlarm_cutSet (r : Raise) (s : State) (j : Fin 4) :
    (raiseAlarm r s).cutSet j = s.cutSet j := rfl
@[simp] theorem raiseAlarm_contact (r : Raise) (s : State) (j : Fin 24) :
    (raiseAlarm r s).contact j = s.contact j := rfl
@[simp] theorem raiseAlarm_siteRec (r : Raise) (s : State) (y : Site) :
    (raiseAlarm r s).siteRec y = s.siteRec y := by cases y <;> rfl

/-! ### clearAlarm: what it leaves alone -/

@[simp] theorem clearAlarm_pending (c : AlarmCode) (s : State) : (clearAlarm c s).pending = s.pending := rfl
@[simp] theorem clearAlarm_raceSeed (c : AlarmCode) (s : State) : (clearAlarm c s).raceSeed = s.raceSeed := rfl
@[simp] theorem clearAlarm_resetCause (c : AlarmCode) (s : State) : (clearAlarm c s).resetCause = s.resetCause := rfl
@[simp] theorem clearAlarm_streams (c : AlarmCode) (s : State) : (clearAlarm c s).streams = s.streams := rfl
@[simp] theorem clearAlarm_computedWord (c : AlarmCode) (s : State) : (clearAlarm c s).computedWord = s.computedWord := rfl
@[simp] theorem clearAlarm_expectedWord (c : AlarmCode) (s : State) : (clearAlarm c s).expectedWord = s.expectedWord := rfl
@[simp] theorem clearAlarm_safeTimer (c : AlarmCode) (s : State) : (clearAlarm c s).safeTimer = s.safeTimer := rfl
@[simp] theorem clearAlarm_safeTimeout (c : AlarmCode) (s : State) : (clearAlarm c s).safeTimeout = s.safeTimeout := rfl
@[simp] theorem clearAlarm_safeHealthy (c : AlarmCode) (s : State) : (clearAlarm c s).safeHealthy = s.safeHealthy := rfl
@[simp] theorem clearAlarm_period (c : AlarmCode) (s : State) : (clearAlarm c s).period = s.period := rfl
@[simp] theorem clearAlarm_dosingTimer (c : AlarmCode) (s : State) : (clearAlarm c s).dosingTimer = s.dosingTimer := rfl
@[simp] theorem clearAlarm_mainSite (c : AlarmCode) (s : State) : (clearAlarm c s).mainSite = s.mainSite := rfl
@[simp] theorem clearAlarm_calcSite (c : AlarmCode) (s : State) : (clearAlarm c s).calcSite = s.calcSite := rfl
@[simp] theorem clearAlarm_slots (c : AlarmCode) (s : State) : (clearAlarm c s).slots = s.slots := rfl
@[simp] theorem clearAlarm_sets (c : AlarmCode) (s : State) : (clearAlarm c s).sets = s.sets := rfl
@[simp] theorem clearAlarm_cooler (c : AlarmCode) (s : State) : (clearAlarm c s).cooler = s.cooler := rfl
@[simp] theorem clearAlarm_contacts (c : AlarmCode) (s : State) : (clearAlarm c s).contacts = s.contacts := rfl
@[simp] theorem clearAlarm_scanTimer (c : AlarmCode) (s : State) : (clearAlarm c s).scanTimer = s.scanTimer := rfl
@[simp] theorem clearAlarm_scanCount (c : AlarmCode) (s : State) : (clearAlarm c s).scanCount = s.scanCount := rfl
@[simp] theorem clearAlarm_contactInputs (c : AlarmCode) (s : State) : (clearAlarm c s).contactInputs = s.contactInputs := rfl
@[simp] theorem clearAlarm_su (c : AlarmCode) (s : State) : (clearAlarm c s).su = s.su := rfl
@[simp] theorem clearAlarm_stream (c : AlarmCode) (s : State) (j : Fin 8) :
    (clearAlarm c s).stream j = s.stream j := rfl
@[simp] theorem clearAlarm_slot (c : AlarmCode) (s : State) (m : Fin 8) :
    (clearAlarm c s).slot m = s.slot m := rfl
@[simp] theorem clearAlarm_cutSet (c : AlarmCode) (s : State) (j : Fin 4) :
    (clearAlarm c s).cutSet j = s.cutSet j := rfl
@[simp] theorem clearAlarm_contact (c : AlarmCode) (s : State) (j : Fin 24) :
    (clearAlarm c s).contact j = s.contact j := rfl
@[simp] theorem clearAlarm_siteRec (c : AlarmCode) (s : State) (y : Site) :
    (clearAlarm c s).siteRec y = s.siteRec y := by cases y <;> rfl

/-! ### offerCut: what it leaves alone -/

@[simp] theorem offerCut_pending (c : CutSites) (p : Place) (v : Option Nat) (s : State) : (offerCut c p v s).pending = s.pending := rfl
@[simp] theorem offerCut_raceSeed (c : CutSites) (p : Place) (v : Option Nat) (s : State) : (offerCut c p v s).raceSeed = s.raceSeed := rfl
@[simp] theorem offerCut_resetCause (c : CutSites) (p : Place) (v : Option Nat) (s : State) : (offerCut c p v s).resetCause = s.resetCause := rfl
@[simp] theorem offerCut_procLink (c : CutSites) (p : Place) (v : Option Nat) (s : State) : (offerCut c p v s).procLink = s.procLink := rfl
@[simp] theorem offerCut_safeLink (c : CutSites) (p : Place) (v : Option Nat) (s : State) : (offerCut c p v s).safeLink = s.safeLink := rfl
@[simp] theorem offerCut_deskLink (c : CutSites) (p : Place) (v : Option Nat) (s : State) : (offerCut c p v s).deskLink = s.deskLink := rfl
@[simp] theorem offerCut_streams (c : CutSites) (p : Place) (v : Option Nat) (s : State) : (offerCut c p v s).streams = s.streams := rfl
@[simp] theorem offerCut_computedWord (c : CutSites) (p : Place) (v : Option Nat) (s : State) : (offerCut c p v s).computedWord = s.computedWord := rfl
@[simp] theorem offerCut_expectedWord (c : CutSites) (p : Place) (v : Option Nat) (s : State) : (offerCut c p v s).expectedWord = s.expectedWord := rfl
@[simp] theorem offerCut_safeTimer (c : CutSites) (p : Place) (v : Option Nat) (s : State) : (offerCut c p v s).safeTimer = s.safeTimer := rfl
@[simp] theorem offerCut_safeTimeout (c : CutSites) (p : Place) (v : Option Nat) (s : State) : (offerCut c p v s).safeTimeout = s.safeTimeout := rfl
@[simp] theorem offerCut_safeHealthy (c : CutSites) (p : Place) (v : Option Nat) (s : State) : (offerCut c p v s).safeHealthy = s.safeHealthy := rfl
@[simp] theorem offerCut_period (c : CutSites) (p : Place) (v : Option Nat) (s : State) : (offerCut c p v s).period = s.period := rfl
@[simp] theorem offerCut_dosingTimer (c : CutSites) (p : Place) (v : Option Nat) (s : State) : (offerCut c p v s).dosingTimer = s.dosingTimer := rfl
@[simp] theorem offerCut_slots (c : CutSites) (p : Place) (v : Option Nat) (s : State) : (offerCut c p v s).slots = s.slots := rfl
@[simp] theorem offerCut_sets (c : CutSites) (p : Place) (v : Option Nat) (s : State) : (offerCut c p v s).sets = s.sets := rfl
@[simp] theorem offerCut_cooler (c : CutSites) (p : Place) (v : Option Nat) (s : State) : (offerCut c p v s).cooler = s.cooler := rfl
@[simp] theorem offerCut_contacts (c : CutSites) (p : Place) (v : Option Nat) (s : State) : (offerCut c p v s).contacts = s.contacts := rfl
@[simp] theorem offerCut_scanTimer (c : CutSites) (p : Place) (v : Option Nat) (s : State) : (offerCut c p v s).scanTimer = s.scanTimer := rfl
@[simp] theorem offerCut_scanCount (c : CutSites) (p : Place) (v : Option Nat) (s : State) : (offerCut c p v s).scanCount = s.scanCount := rfl
@[simp] theorem offerCut_contactInputs (c : CutSites) (p : Place) (v : Option Nat) (s : State) : (offerCut c p v s).contactInputs = s.contactInputs := rfl
@[simp] theorem offerCut_au (c : CutSites) (p : Place) (v : Option Nat) (s : State) : (offerCut c p v s).au = s.au := rfl
@[simp] theorem offerCut_su (c : CutSites) (p : Place) (v : Option Nat) (s : State) : (offerCut c p v s).su = s.su := rfl
@[simp] theorem offerCut_stream (c : CutSites) (p : Place) (v : Option Nat) (s : State) (j : Fin 8) :
    (offerCut c p v s).stream j = s.stream j := rfl
@[simp] theorem offerCut_slot (c : CutSites) (p : Place) (v : Option Nat) (s : State) (m : Fin 8) :
    (offerCut c p v s).slot m = s.slot m := rfl
@[simp] theorem offerCut_cutSet (c : CutSites) (p : Place) (v : Option Nat) (s : State) (j : Fin 4) :
    (offerCut c p v s).cutSet j = s.cutSet j := rfl
@[simp] theorem offerCut_contact (c : CutSites) (p : Place) (v : Option Nat) (s : State) (j : Fin 24) :
    (offerCut c p v s).contact j = s.contact j := rfl
@[simp] theorem offerCut_link (c : CutSites) (p : Place) (v : Option Nat) (s : State) (j : Link) :
    (offerCut c p v s).link j = s.link j := by cases j <;> rfl

/-! ### endShelf: what it leaves alone -/

@[simp] theorem endShelf_pending (e : Entry) (s : State) : (endShelf e s).pending = s.pending := rfl
@[simp] theorem endShelf_raceSeed (e : Entry) (s : State) : (endShelf e s).raceSeed = s.raceSeed := rfl
@[simp] theorem endShelf_resetCause (e : Entry) (s : State) : (endShelf e s).resetCause = s.resetCause := rfl
@[simp] theorem endShelf_streams (e : Entry) (s : State) : (endShelf e s).streams = s.streams := rfl
@[simp] theorem endShelf_computedWord (e : Entry) (s : State) : (endShelf e s).computedWord = s.computedWord := rfl
@[simp] theorem endShelf_expectedWord (e : Entry) (s : State) : (endShelf e s).expectedWord = s.expectedWord := rfl
@[simp] theorem endShelf_safeTimer (e : Entry) (s : State) : (endShelf e s).safeTimer = s.safeTimer := rfl
@[simp] theorem endShelf_safeTimeout (e : Entry) (s : State) : (endShelf e s).safeTimeout = s.safeTimeout := rfl
@[simp] theorem endShelf_safeHealthy (e : Entry) (s : State) : (endShelf e s).safeHealthy = s.safeHealthy := rfl
@[simp] theorem endShelf_period (e : Entry) (s : State) : (endShelf e s).period = s.period := rfl
@[simp] theorem endShelf_dosingTimer (e : Entry) (s : State) : (endShelf e s).dosingTimer = s.dosingTimer := rfl
@[simp] theorem endShelf_mainSite (e : Entry) (s : State) : (endShelf e s).mainSite = s.mainSite := rfl
@[simp] theorem endShelf_calcSite (e : Entry) (s : State) : (endShelf e s).calcSite = s.calcSite := rfl
@[simp] theorem endShelf_slots (e : Entry) (s : State) : (endShelf e s).slots = s.slots := rfl
@[simp] theorem endShelf_sets (e : Entry) (s : State) : (endShelf e s).sets = s.sets := rfl
@[simp] theorem endShelf_cooler (e : Entry) (s : State) : (endShelf e s).cooler = s.cooler := rfl
@[simp] theorem endShelf_contacts (e : Entry) (s : State) : (endShelf e s).contacts = s.contacts := rfl
@[simp] theorem endShelf_scanTimer (e : Entry) (s : State) : (endShelf e s).scanTimer = s.scanTimer := rfl
@[simp] theorem endShelf_scanCount (e : Entry) (s : State) : (endShelf e s).scanCount = s.scanCount := rfl
@[simp] theorem endShelf_contactInputs (e : Entry) (s : State) : (endShelf e s).contactInputs = s.contactInputs := rfl
@[simp] theorem endShelf_su (e : Entry) (s : State) : (endShelf e s).su = s.su := rfl
@[simp] theorem endShelf_stream (e : Entry) (s : State) (j : Fin 8) :
    (endShelf e s).stream j = s.stream j := rfl
@[simp] theorem endShelf_slot (e : Entry) (s : State) (m : Fin 8) :
    (endShelf e s).slot m = s.slot m := rfl
@[simp] theorem endShelf_cutSet (e : Entry) (s : State) (j : Fin 4) :
    (endShelf e s).cutSet j = s.cutSet j := rfl
@[simp] theorem endShelf_contact (e : Entry) (s : State) (j : Fin 24) :
    (endShelf e s).contact j = s.contact j := rfl
@[simp] theorem endShelf_siteRec (e : Entry) (s : State) (y : Site) :
    (endShelf e s).siteRec y = s.siteRec y := by cases y <;> rfl

/-! ### closeOpenShift: what it leaves alone -/

@[simp] theorem closeOpenShift_pending (c : CloseCause) (s : State) : (closeOpenShift c s).pending = s.pending := rfl
@[simp] theorem closeOpenShift_raceSeed (c : CloseCause) (s : State) : (closeOpenShift c s).raceSeed = s.raceSeed := rfl
@[simp] theorem closeOpenShift_resetCause (c : CloseCause) (s : State) : (closeOpenShift c s).resetCause = s.resetCause := rfl
@[simp] theorem closeOpenShift_streams (c : CloseCause) (s : State) : (closeOpenShift c s).streams = s.streams := rfl
@[simp] theorem closeOpenShift_computedWord (c : CloseCause) (s : State) : (closeOpenShift c s).computedWord = s.computedWord := rfl
@[simp] theorem closeOpenShift_expectedWord (c : CloseCause) (s : State) : (closeOpenShift c s).expectedWord = s.expectedWord := rfl
@[simp] theorem closeOpenShift_safeTimer (c : CloseCause) (s : State) : (closeOpenShift c s).safeTimer = s.safeTimer := rfl
@[simp] theorem closeOpenShift_safeTimeout (c : CloseCause) (s : State) : (closeOpenShift c s).safeTimeout = s.safeTimeout := rfl
@[simp] theorem closeOpenShift_safeHealthy (c : CloseCause) (s : State) : (closeOpenShift c s).safeHealthy = s.safeHealthy := rfl
@[simp] theorem closeOpenShift_period (c : CloseCause) (s : State) : (closeOpenShift c s).period = s.period := rfl
@[simp] theorem closeOpenShift_dosingTimer (c : CloseCause) (s : State) : (closeOpenShift c s).dosingTimer = s.dosingTimer := rfl
@[simp] theorem closeOpenShift_mainSite (c : CloseCause) (s : State) : (closeOpenShift c s).mainSite = s.mainSite := rfl
@[simp] theorem closeOpenShift_calcSite (c : CloseCause) (s : State) : (closeOpenShift c s).calcSite = s.calcSite := rfl
@[simp] theorem closeOpenShift_slots (c : CloseCause) (s : State) : (closeOpenShift c s).slots = s.slots := rfl
@[simp] theorem closeOpenShift_sets (c : CloseCause) (s : State) : (closeOpenShift c s).sets = s.sets := rfl
@[simp] theorem closeOpenShift_cooler (c : CloseCause) (s : State) : (closeOpenShift c s).cooler = s.cooler := rfl
@[simp] theorem closeOpenShift_contacts (c : CloseCause) (s : State) : (closeOpenShift c s).contacts = s.contacts := rfl
@[simp] theorem closeOpenShift_scanTimer (c : CloseCause) (s : State) : (closeOpenShift c s).scanTimer = s.scanTimer := rfl
@[simp] theorem closeOpenShift_scanCount (c : CloseCause) (s : State) : (closeOpenShift c s).scanCount = s.scanCount := rfl
@[simp] theorem closeOpenShift_contactInputs (c : CloseCause) (s : State) : (closeOpenShift c s).contactInputs = s.contactInputs := rfl
@[simp] theorem closeOpenShift_au (c : CloseCause) (s : State) : (closeOpenShift c s).au = s.au := rfl
@[simp] theorem closeOpenShift_stream (c : CloseCause) (s : State) (j : Fin 8) :
    (closeOpenShift c s).stream j = s.stream j := rfl
@[simp] theorem closeOpenShift_slot (c : CloseCause) (s : State) (m : Fin 8) :
    (closeOpenShift c s).slot m = s.slot m := rfl
@[simp] theorem closeOpenShift_cutSet (c : CloseCause) (s : State) (j : Fin 4) :
    (closeOpenShift c s).cutSet j = s.cutSet j := rfl
@[simp] theorem closeOpenShift_contact (c : CloseCause) (s : State) (j : Fin 24) :
    (closeOpenShift c s).contact j = s.contact j := rfl
@[simp] theorem closeOpenShift_siteRec (c : CloseCause) (s : State) (y : Site) :
    (closeOpenShift c s).siteRec y = s.siteRec y := by cases y <;> rfl

/-! ### Blocks that a trip or an alarm leaves alone -/

theorem SameBlocks.pending {s t : State} (h : SameBlocks s t) : t.pending = s.pending := by
  unfold SameBlocks at h; rw [h]
theorem SameBlocks.raceSeed {s t : State} (h : SameBlocks s t) : t.raceSeed = s.raceSeed := by
  unfold SameBlocks at h; rw [h]
theorem SameBlocks.resetCause {s t : State} (h : SameBlocks s t) : t.resetCause = s.resetCause := by
  unfold SameBlocks at h; rw [h]
theorem SameBlocks.computedWord {s t : State} (h : SameBlocks s t) : t.computedWord = s.computedWord := by
  unfold SameBlocks at h; rw [h]
theorem SameBlocks.expectedWord {s t : State} (h : SameBlocks s t) : t.expectedWord = s.expectedWord := by
  unfold SameBlocks at h; rw [h]
theorem SameBlocks.safeTimer {s t : State} (h : SameBlocks s t) : t.safeTimer = s.safeTimer := by
  unfold SameBlocks at h; rw [h]
theorem SameBlocks.safeTimeout {s t : State} (h : SameBlocks s t) : t.safeTimeout = s.safeTimeout := by
  unfold SameBlocks at h; rw [h]
theorem SameBlocks.safeHealthy {s t : State} (h : SameBlocks s t) : t.safeHealthy = s.safeHealthy := by
  unfold SameBlocks at h; rw [h]
theorem SameBlocks.period {s t : State} (h : SameBlocks s t) : t.period = s.period := by
  unfold SameBlocks at h; rw [h]
theorem SameBlocks.dosingTimer {s t : State} (h : SameBlocks s t) : t.dosingTimer = s.dosingTimer := by
  unfold SameBlocks at h; rw [h]
theorem SameBlocks.mainSite {s t : State} (h : SameBlocks s t) : t.mainSite = s.mainSite := by
  unfold SameBlocks at h; rw [h]
theorem SameBlocks.calcSite {s t : State} (h : SameBlocks s t) : t.calcSite = s.calcSite := by
  unfold SameBlocks at h; rw [h]
theorem SameBlocks.slots {s t : State} (h : SameBlocks s t) : t.slots = s.slots := by
  unfold SameBlocks at h; rw [h]
theorem SameBlocks.sets {s t : State} (h : SameBlocks s t) : t.sets = s.sets := by
  unfold SameBlocks at h; rw [h]
theorem SameBlocks.cooler {s t : State} (h : SameBlocks s t) : t.cooler = s.cooler := by
  unfold SameBlocks at h; rw [h]
theorem SameBlocks.contacts {s t : State} (h : SameBlocks s t) : t.contacts = s.contacts := by
  unfold SameBlocks at h; rw [h]
theorem SameBlocks.scanTimer {s t : State} (h : SameBlocks s t) : t.scanTimer = s.scanTimer := by
  unfold SameBlocks at h; rw [h]
theorem SameBlocks.scanCount {s t : State} (h : SameBlocks s t) : t.scanCount = s.scanCount := by
  unfold SameBlocks at h; rw [h]
theorem SameBlocks.contactInputs {s t : State} (h : SameBlocks s t) : t.contactInputs = s.contactInputs := by
  unfold SameBlocks at h; rw [h]

theorem SameBlocks.refl (s : State) : SameBlocks s s := rfl

theorem SameBlocks.trans {s t u : State} (h : SameBlocks s t) (k : SameBlocks t u) : SameBlocks s u := by
  unfold SameBlocks at *; rw [k, h]

/-! ### Taking a request -/

@[simp] theorem settleReply_refuse (l : Link) (code : Byte) (s : State) (c : ResultCode) :
    settleReply l code s (.refuse c) = giveAnswer l code c [] s := rfl

@[simp] theorem settleReply_take (l : Link) (code : Byte) (s t : State) (c : ResultCode) (b : List Byte) :
    settleReply l code s (.take t c b) = giveAnswer l code c b t := rfl

@[simp] theorem settleReply_done (l : Link) (code : Byte) (s t : State) (b : List Byte) :
    settleReply l code s (.done t b) = giveAnswer l code .ok b t := rfl

/-- A request on an owner, of an accepted length, on a link whose transfer no reset abandoned, is opened, acted on and
answered. -/
theorem takeRequest_sent {row : CommandRow} {r : Request} {act : State → Reply} {s : State}
    (owner : r.link ∈ row.owners) (length : r.body.length ∈ row.lengths) (fits : r.body.length ≤ 60)
    (whole : (s.link r.link).abandoned = none) :
    takeRequest row r act s = .next (settleReply r.link row.code (openRequest r s) (act (openRequest r s))) := by
  simp [takeRequest, checkRequest, owner, length, whole, Nat.not_lt.mpr fits]

/-- A request on a link that does not own the command is answered NOT_OWNER. -/
theorem takeRequest_notOwner {row : CommandRow} {r : Request} {act : State → Reply} {s : State}
    (owner : r.link ∉ row.owners) (fits : r.body.length ≤ 60) (whole : (s.link r.link).abandoned = none) :
    takeRequest row r act s = .next (giveAnswer r.link row.code .notOwner [] (openRequest r s)) := by
  simp [takeRequest, checkRequest, owner, whole, Nat.not_lt.mpr fits]

/-- A request on an owner, of a length the command does not accept, is answered RANGE. -/
theorem takeRequest_range {row : CommandRow} {r : Request} {act : State → Reply} {s : State}
    (owner : r.link ∈ row.owners) (length : r.body.length ∉ row.lengths) (fits : r.body.length ≤ 60)
    (whole : (s.link r.link).abandoned = none) :
    takeRequest row r act s = .next (giveAnswer r.link row.code .range [] (openRequest r s)) := by
  simp [takeRequest, checkRequest, owner, length, whole, Nat.not_lt.mpr fits]

/-- Everything that taking a request can do: discard it, refuse it by owner or length, or act on it. -/
theorem takeRequest_next {row : CommandRow} {r : Request} {act : State → Reply} {s t : State}
    (h : takeRequest row r act s = .next t) :
    r.body.length ≤ 60 ∧
      (t = endAbandoned r.link (wireLength r) s ∨
        (s.link r.link).abandoned = none ∧
          ((r.link ∉ row.owners ∧ t = giveAnswer r.link row.code .notOwner [] (openRequest r s)) ∨
            (r.link ∈ row.owners ∧ r.body.length ∉ row.lengths ∧
              t = giveAnswer r.link row.code .range [] (openRequest r s)) ∨
            (r.link ∈ row.owners ∧ r.body.length ∈ row.lengths ∧
              t = settleReply r.link row.code (openRequest r s) (act (openRequest r s))))) := by
  unfold takeRequest at h
  split at h
  · cases h
  · refine ⟨by omega, ?_⟩
    split at h
    · cases h; exact .inl rfl
    · rename_i hw
      refine .inr ⟨by simpa using hw, ?_⟩
      cases h
      unfold checkRequest
      split
      · exact .inl ⟨by assumption, rfl⟩
      · split
        · exact .inr (.inl ⟨by simp_all, by assumption, rfl⟩)
        · exact .inr (.inr ⟨by simp_all, by simp_all, rfl⟩)

/-- On PROC and DESK opening a request only shifts the pending answer out. -/
theorem openRequest_other {r : Request} (s : State) (h : r.link ≠ .safe) :
    openRequest r s = shiftOut r.link (wireLength r) s := by simp [openRequest, h]

/-- On SAFE it is link activity besides. -/
theorem openRequest_safe {r : Request} (s : State) (h : r.link = .safe) :
    openRequest r s = linkActivity (shiftOut .safe (wireLength r) s) := by simp [openRequest, h]

/-! ### SAFE link activity and opening: what they leave alone -/

@[simp] theorem linkActivity_pending (s : State) : (linkActivity s).pending = s.pending := by
  unfold linkActivity; split <;> rfl
@[simp] theorem linkActivity_raceSeed (s : State) : (linkActivity s).raceSeed = s.raceSeed := by
  unfold linkActivity; split <;> rfl
@[simp] theorem linkActivity_resetCause (s : State) : (linkActivity s).resetCause = s.resetCause := by
  unfold linkActivity; split <;> rfl
@[simp] theorem linkActivity_streams (s : State) : (linkActivity s).streams = s.streams := by
  unfold linkActivity; split <;> rfl
@[simp] theorem linkActivity_computedWord (s : State) : (linkActivity s).computedWord = s.computedWord := by
  unfold linkActivity; split <;> rfl
@[simp] theorem linkActivity_expectedWord (s : State) : (linkActivity s).expectedWord = s.expectedWord := by
  unfold linkActivity; split <;> rfl
@[simp] theorem linkActivity_safeTimeout (s : State) : (linkActivity s).safeTimeout = s.safeTimeout := by
  unfold linkActivity; split <;> rfl
@[simp] theorem linkActivity_period (s : State) : (linkActivity s).period = s.period := by
  unfold linkActivity; split <;> rfl
@[simp] theorem linkActivity_dosingTimer (s : State) : (linkActivity s).dosingTimer = s.dosingTimer := by
  unfold linkActivity; split <;> rfl
@[simp] theorem linkActivity_mainSite (s : State) : (linkActivity s).mainSite = s.mainSite := by
  unfold linkActivity; split <;> rfl
@[simp] theorem linkActivity_calcSite (s : State) : (linkActivity s).calcSite = s.calcSite := by
  unfold linkActivity; split <;> rfl
@[simp] theorem linkActivity_slots (s : State) : (linkActivity s).slots = s.slots := by
  unfold linkActivity; split <;> rfl
@[simp] theorem linkActivity_sets (s : State) : (linkActivity s).sets = s.sets := by
  unfold linkActivity; split <;> rfl
@[simp] theorem linkActivity_cooler (s : State) : (linkActivity s).cooler = s.cooler := by
  unfold linkActivity; split <;> rfl
@[simp] theorem linkActivity_contacts (s : State) : (linkActivity s).contacts = s.contacts := by
  unfold linkActivity; split <;> rfl
@[simp] theorem linkActivity_scanTimer (s : State) : (linkActivity s).scanTimer = s.scanTimer := by
  unfold linkActivity; split <;> rfl
@[simp] theorem linkActivity_scanCount (s : State) : (linkActivity s).scanCount = s.scanCount := by
  unfold linkActivity; split <;> rfl
@[simp] theorem linkActivity_contactInputs (s : State) : (linkActivity s).contactInputs = s.contactInputs := by
  unfold linkActivity; split <;> rfl
@[simp] theorem linkActivity_su (s : State) : (linkActivity s).su = s.su := by
  unfold linkActivity; split <;> rfl
@[simp] theorem openRequest_pending (r : Request) (s : State) : (openRequest r s).pending = s.pending := by
  unfold openRequest; split <;> simp
@[simp] theorem openRequest_raceSeed (r : Request) (s : State) : (openRequest r s).raceSeed = s.raceSeed := by
  unfold openRequest; split <;> simp
@[simp] theorem openRequest_resetCause (r : Request) (s : State) : (openRequest r s).resetCause = s.resetCause := by
  unfold openRequest; split <;> simp
@[simp] theorem openRequest_streams (r : Request) (s : State) : (openRequest r s).streams = s.streams := by
  unfold openRequest; split <;> simp
@[simp] theorem openRequest_computedWord (r : Request) (s : State) : (openRequest r s).computedWord = s.computedWord := by
  unfold openRequest; split <;> simp
@[simp] theorem openRequest_expectedWord (r : Request) (s : State) : (openRequest r s).expectedWord = s.expectedWord := by
  unfold openRequest; split <;> simp
@[simp] theorem openRequest_safeTimeout (r : Request) (s : State) : (openRequest r s).safeTimeout = s.safeTimeout := by
  unfold openRequest; split <;> simp
@[simp] theorem openRequest_period (r : Request) (s : State) : (openRequest r s).period = s.period := by
  unfold openRequest; split <;> simp
@[simp] theorem openRequest_dosingTimer (r : Request) (s : State) : (openRequest r s).dosingTimer = s.dosingTimer := by
  unfold openRequest; split <;> simp
@[simp] theorem openRequest_mainSite (r : Request) (s : State) : (openRequest r s).mainSite = s.mainSite := by
  unfold openRequest; split <;> simp
@[simp] theorem openRequest_calcSite (r : Request) (s : State) : (openRequest r s).calcSite = s.calcSite := by
  unfold openRequest; split <;> simp
@[simp] theorem openRequest_slots (r : Request) (s : State) : (openRequest r s).slots = s.slots := by
  unfold openRequest; split <;> simp
@[simp] theorem openRequest_sets (r : Request) (s : State) : (openRequest r s).sets = s.sets := by
  unfold openRequest; split <;> simp
@[simp] theorem openRequest_cooler (r : Request) (s : State) : (openRequest r s).cooler = s.cooler := by
  unfold openRequest; split <;> simp
@[simp] theorem openRequest_contacts (r : Request) (s : State) : (openRequest r s).contacts = s.contacts := by
  unfold openRequest; split <;> simp
@[simp] theorem openRequest_scanTimer (r : Request) (s : State) : (openRequest r s).scanTimer = s.scanTimer := by
  unfold openRequest; split <;> simp
@[simp] theorem openRequest_scanCount (r : Request) (s : State) : (openRequest r s).scanCount = s.scanCount := by
  unfold openRequest; split <;> simp
@[simp] theorem openRequest_contactInputs (r : Request) (s : State) : (openRequest r s).contactInputs = s.contactInputs := by
  unfold openRequest; split <;> simp
@[simp] theorem openRequest_su (r : Request) (s : State) : (openRequest r s).su = s.su := by
  unfold openRequest; split <;> simp
@[simp] theorem openRequest_stream (r : Request) (s : State) (j : Fin 8) :
    (openRequest r s).stream j = s.stream j := by simp [State.stream]
@[simp] theorem openRequest_slot (r : Request) (s : State) (m : Fin 8) :
    (openRequest r s).slot m = s.slot m := by simp [State.slot]
@[simp] theorem openRequest_cutSet (r : Request) (s : State) (j : Fin 4) :
    (openRequest r s).cutSet j = s.cutSet j := by simp [State.cutSet]
@[simp] theorem openRequest_contact (r : Request) (s : State) (j : Fin 24) :
    (openRequest r s).contact j = s.contact j := by simp [State.contact]
@[simp] theorem openRequest_siteRec (r : Request) (s : State) (y : Site) :
    (openRequest r s).siteRec y = s.siteRec y := by cases y <;> simp [State.siteRec]

/-- Opening a request touches the Alarm Unit only on SAFE, at the first activity after an expiry. -/
theorem openRequest_au (r : Request) (s : State) :
    (openRequest r s).au = if r.link = .safe ∧ s.safeHealthy = false then s.au.clear .safeLink else s.au := by
  unfold openRequest linkActivity
  cases hs : s.safeHealthy <;> by_cases h : r.link = .safe <;> (simp [h, hs]; try rfl)

@[simp] theorem openRequest_au_other {r : Request} (s : State) (h : r.link ≠ .safe) : (openRequest r s).au = s.au := by
  simp [openRequest_au, h]

/-- SAFE link activity: the timer at its full length, the link healthy (R55, R58). -/
theorem openRequest_timer {r : Request} (s : State) (h : r.link = .safe) :
    (openRequest r s).safeTimer = some (s.safeTimeout * 1000) ∧ (openRequest r s).safeHealthy = true := by
  unfold openRequest linkActivity
  cases hs : s.safeHealthy <;> simp [h, hs]

/-! ### The alarm list -/

@[simp] theorem AlarmUnit.settleHorns_list (a : AlarmUnit) : a.settleHorns.list = a.list := rfl
@[simp] theorem AlarmUnit.settleHorns_overflow (a : AlarmUnit) : a.settleHorns.overflow = a.overflow := rfl
@[simp] theorem AlarmUnit.settleHorns_silence (a : AlarmUnit) : a.settleHorns.silence = a.silence := rfl
@[simp] theorem AlarmUnit.settleHorns_firstOut (a : AlarmUnit) : a.settleHorns.firstOut = a.firstOut := rfl
@[simp] theorem AlarmUnit.settleHorns_wantsA (a : AlarmUnit) : a.settleHorns.wantsA = a.wantsA := rfl
@[simp] theorem AlarmUnit.settleHorns_wantsB (a : AlarmUnit) : a.settleHorns.wantsB = a.wantsB := rfl
@[simp] theorem AlarmUnit.settleHorns_hornA (a : AlarmUnit) : a.settleHorns.hornA = a.wantsA := rfl

/-- Horn B sounds exactly as it should, and its timer runs exactly while it sounds (R152). -/
theorem AlarmUnit.settleHorns_hornB (a : AlarmUnit) : a.settleHorns.hornB.sounding = a.wantsB := by
  unfold AlarmUnit.settleHorns
  cases hb : a.hornB <;> cases hw : a.wantsB <;> simp [HornB.sounding]

theorem AlarmUnit.settleHorns_timer (a : AlarmUnit) (h : a.hornB.sounding = a.hornBTimer.isSome) :
    a.settleHorns.hornBTimer.isSome = a.wantsB := by
  unfold AlarmUnit.settleHorns
  cases hb : a.hornB.sounding <;> cases hw : a.wantsB <;> simp_all

/-- An entry found by a code is in the list and holds the code. -/
theorem AlarmUnit.find_mem {a : AlarmUnit} {c : AlarmCode} {e : Entry} (h : a.find c = some e) :
    e ∈ a.list ∧ e.code = c := by
  refine ⟨List.mem_of_find?_eq_some h, ?_⟩
  simpa using List.find?_some h

/-- A code not found is held by no entry. -/
theorem AlarmUnit.find_none {a : AlarmUnit} {c : AlarmCode} (h : a.find c = none) : ∀ e ∈ a.list, e.code ≠ c := by
  simpa [AlarmUnit.find] using h

/-- What removing a code leaves. -/
theorem AlarmUnit.mem_removed {a : AlarmUnit} {c : AlarmCode} {e : Entry} :
    e ∈ a.removed c ↔ e ∈ a.list ∧ e.code ≠ c := by simp [AlarmUnit.removed]

/-- The eviction's choice is an entry of the list at the raise's priority or a lower one (R144). -/
theorem victimAt_mem {p : Priority} {l : List Entry} {e : Entry} (h : victimAt p l = some e) :
    e ∈ l ∧ e.priority = p := by
  unfold victimAt at h
  rcases Option.or_eq_some_iff.mp h with h | ⟨-, h⟩
  · have hp := List.find?_some h
    simp only [Bool.and_eq_true, beq_iff_eq] at hp
    exact ⟨List.mem_of_find?_eq_some h, hp.1⟩
  · exact ⟨List.mem_of_find?_eq_some h, by simpa using List.find?_some h⟩

theorem victim_mem {p : Priority} {l : List Entry} {e : Entry} (h : victim p l = some e) :
    e ∈ l ∧ p.num ≤ e.priority.num := by
  have key : ∀ q : Priority, p.num ≤ q.num → victimAt q l = some e → e ∈ l ∧ p.num ≤ e.priority.num :=
    fun q hq hv => by obtain ⟨hm, rfl⟩ := victimAt_mem hv; exact ⟨hm, hq⟩
  cases p
  · rcases Option.or_eq_some_iff.mp h with h | ⟨-, h⟩
    · rcases Option.or_eq_some_iff.mp h with h | ⟨-, h⟩
      · exact key .p3 (by decide) h
      · exact key .p2 (by decide) h
    · exact key .p1 (by decide) h
  · rcases Option.or_eq_some_iff.mp h with h | ⟨-, h⟩
    · exact key .p3 (by decide) h
    · exact key .p2 (by decide) h
  · exact key .p3 (by decide) h

/-- The fields of the Alarm Unit after a raise. -/
@[simp] theorem AlarmUnit.raise_list (a : AlarmUnit) (r : Raise) (n : ClockTime) :
    (a.raise r n).list = a.listAfter r n := rfl
@[simp] theorem AlarmUnit.raise_overflow (a : AlarmUnit) (r : Raise) (n : ClockTime) :
    (a.raise r n).overflow = (a.overflow || (a.fate r).overflows) := rfl
@[simp] theorem AlarmUnit.raise_silence (a : AlarmUnit) (r : Raise) (n : ClockTime) :
    (a.raise r n).silence = (a.silence && !(a.fate r).unsilences r) := rfl
@[simp] theorem AlarmUnit.raise_firstOut (a : AlarmUnit) (r : Raise) (n : ClockTime) :
    (a.raise r n).firstOut = a.firstOut := rfl

/-- The four fates of a raise, each with what decides it (R141, R144). -/
theorem AlarmUnit.fate_cases (a : AlarmUnit) (r : Raise) :
    (∃ e, a.find r.code = some e ∧ a.fate r = .again e) ∨
    (a.find r.code = none ∧ a.list.length < 64 ∧ a.fate r = .appended) ∨
    (a.find r.code = none ∧ 64 ≤ a.list.length ∧ ∃ v, victim r.priority a.list = some v ∧ a.fate r = .evicting v) ∨
    (a.find r.code = none ∧ 64 ≤ a.list.length ∧ victim r.priority a.list = none ∧ a.fate r = .dropped) := by
  unfold AlarmUnit.fate
  cases h : a.find r.code with
  | some e => exact .inl ⟨e, rfl, rfl⟩
  | none =>
    by_cases hl : a.list.length < 64
    · exact .inr (.inl ⟨rfl, hl, by simp [hl]⟩)
    · cases hv : victim r.priority a.list with
      | some v => exact .inr (.inr (.inl ⟨rfl, by omega, v, rfl, by simp [hl]⟩))
      | none => exact .inr (.inr (.inr ⟨rfl, by omega, rfl, by simp [hl]⟩))

@[simp] theorem bookRaise_au (r : Raise) (s : State) : (bookRaise r s).au = s.au.raise r s.su.clock := rfl

@[simp] theorem bookRaise_su (r : Raise) (s : State) :
    (bookRaise r s).su = { s.su with shift := s.su.shift.countAlarm r.priority } := rfl

@[simp] theorem bookRaise_link (r : Raise) (s : State) (l : Link) :
    (bookRaise r s).link l = (s.link l).setFactors (newsIf (s.au.fate r).entered) := by cases l <;> rfl

@[simp] theorem offerFirstOut_au (r : Raise) (s : State) :
    (offerFirstOut r s).au = { s.au with firstOut := s.au.firstOut.offer r s.su.clock s.firingStates } := rfl

/-- The Alarm Unit after a raise that reached it, and the books and factors with it (R141, R143, R154, R159). -/
theorem raiseAlarm_au (r : Raise) (s : State) :
    (raiseAlarm r s).au =
      { s.au.raise r s.su.clock with firstOut := s.au.firstOut.offer r s.su.clock s.firingStates } := rfl

@[simp] theorem raiseAlarm_su (r : Raise) (s : State) :
    (raiseAlarm r s).su = { s.su with shift := s.su.shift.countAlarm r.priority } := rfl

@[simp] theorem raiseAlarm_link (r : Raise) (s : State) (l : Link) :
    (raiseAlarm r s).link l = (s.link l).setFactors (newsIf (s.au.fate r).entered) := by cases l <;> rfl

/-- A raise touches the Alarm Unit, the books and the factors alone. -/
theorem raiseAlarm_sameBlocks (r : Raise) (s : State) : SameBlocks s (raiseAlarm r s) := rfl

@[simp] theorem clearAlarm_au (c : AlarmCode) (s : State) : (clearAlarm c s).au = s.au.clear c := rfl

@[simp] theorem clearAlarm_link (c : AlarmCode) (s : State) (l : Link) :
    (clearAlarm c s).link l = (s.link l).setFactors (newsIf (s.au.clearChanges c)) := by cases l <;> rfl

/-- A clear keeps the first-out record and the silence flag. -/
@[simp] theorem AlarmUnit.clear_firstOut (a : AlarmUnit) (c : AlarmCode) : (a.clear c).firstOut = a.firstOut := by
  unfold AlarmUnit.clear
  split
  · rfl
  · split <;> (try split) <;> rfl

@[simp] theorem AlarmUnit.clear_silence (a : AlarmUnit) (c : AlarmCode) : (a.clear c).silence = a.silence := by
  unfold AlarmUnit.clear
  split
  · rfl
  · split <;> (try split) <;> rfl

/-- A clear acts on the list, whatever the first-out record. -/
theorem AlarmUnit.clear_withFirstOut (a : AlarmUnit) (c : AlarmCode) (f : FirstOut) :
    ({ a with firstOut := f } : AlarmUnit).clear c = { a.clear c with firstOut := f } := by
  have e : ({ a with firstOut := f } : AlarmUnit).find c = a.find c := rfl
  unfold AlarmUnit.clear
  rw [e]
  cases a.find c with
  | none => rfl
  | some x =>
    cases hx : x.state <;> cases ha : x.active <;> simp only [hx, ha] <;> rfl

/-- A clear touches the Alarm Unit and the factors alone. -/
theorem clearAlarm_sameBlocks (c : AlarmCode) (s : State) : SameBlocks s (clearAlarm c s) := rfl

/-- Setting no factor changes nothing. -/
@[simp] theorem LinkUnit.setFactors_none (u : LinkUnit) : u.setFactors (newsIf false) = u := by
  simp [LinkUnit.setFactors, newsIf]

/-- A clear that changes nothing is the identity. -/
theorem clearAlarm_absent (c : AlarmCode) (s : State) (h : s.au.find c = none) : clearAlarm c s = s := by
  simp [clearAlarm, AlarmUnit.clear, AlarmUnit.clearChanges, h]

/-! ### Cut offers -/

/-- The site record after an offer, a change or a withdrawal. -/
theorem offerCut_siteRec (c : CutSites) (p : Place) (v : Option Nat) (s : State) (x : Site) :
    (offerCut c p v s).siteRec x = if c.has x then (s.siteRec x).takeOffer p v else s.siteRec x := by
  cases x <;> rfl

/-! ### Trips -/

theorem modStream_sameBlocks (i : Fin 8) (f : Stream → Stream) (s : State) : SameBlocks s (s.modStream i f) := rfl
theorem setFactors_sameBlocks (f : Factors) (s : State) : SameBlocks s (s.setFactors f) := rfl
theorem modShift_sameBlocks (f : OpenShift → OpenShift) (s : State) : SameBlocks s (s.modShift f) := rfl
theorem bookRaise_sameBlocks (r : Raise) (s : State) : SameBlocks s (bookRaise r s) := rfl
theorem offerFirstOut_sameBlocks (r : Raise) (s : State) : SameBlocks s (offerFirstOut r s) := rfl

theorem applyHoldoff_sameBlocks (i : Fin 8) (c : TripCause) (s : State) : SameBlocks s (applyHoldoff i c s) := by
  unfold applyHoldoff
  split
  · exact modStream_sameBlocks i _ s
  · exact (modStream_sameBlocks i _ s).trans (clearAlarm_sameBlocks _ _)

/-- A trip touches the streams, the Alarm Unit, the books and the factors alone. -/
theorem trip_sameBlocks (i : Fin 8) (c : TripCause) (s : State) : SameBlocks s (trip i c s) :=
  (modStream_sameBlocks i _ s).trans <| (setFactors_sameBlocks _ _).trans <| (bookRaise_sameBlocks _ _).trans <|
    (setFactors_sameBlocks _ _).trans <| (modShift_sameBlocks _ _).trans <| (offerFirstOut_sameBlocks _ _).trans <|
      applyHoldoff_sameBlocks i c _

/-- The state of a trip before its holdoff step, which is its last (R48, steps 1 to 6). -/
def beforeHoldoff (i : Fin 8) (c : TripCause) (s : State) : State :=
  offerFirstOut (tripRaise i c)
    (State.modShift OpenShift.countTrip
      (State.setFactors tripFactor
        (bookRaise (tripRaise i c)
          (State.setFactors (calIf (s.stream i).calOpen) (s.modStream i Stream.cutOff)))))

theorem trip_eq (i : Fin 8) (c : TripCause) (s : State) : trip i c s = applyHoldoff i c (beforeHoldoff i c s) := rfl

/-- A trip voids a waiting no-flow report (R86). -/
@[simp] theorem Stream.cutOff_noFlowDue (x : Stream) : x.cutOff.noFlowDue = false := rfl

/-- No report waits at a STOPPING stream that a computation takes to READY (R54). -/
theorem Stream.lowered_noFlowDue (x : Stream) (h : x.state = .stopping) (hr : x.lowered.state = .ready) :
    x.lowered.noFlowDue = false := by
  unfold Stream.lowered at hr ⊢
  split
  · split
    · rfl
    · simp_all [Stream.withOutput]
  · simp_all

/-- A cut-off stream keeps its firing state, so the firing states that a trip offers are those it began with (R154). -/
theorem cutOff_firingStates (i : Fin 8) (s : State) : (s.modStream i Stream.cutOff).firingStates = s.firingStates := by
  simp only [State.firingStates, State.modStream]
  apply List.ext_getElem
  · simp
  · intro n h1 h2
    simp only [List.getElem_map, Vector.getElem_toList, Vector.getElem_set]
    split
    · rename_i h; subst h; rfl
    · rfl

/-- The tripped stream (R48, R49). -/
theorem trip_stream_self (i : Fin 8) (c : TripCause) (s : State) :
    (trip i c s).stream i =
      { (s.stream i).cutOff with
        state := if (s.stream i).limits.holdoff.holds c then .tripped else .off
        cause := if (s.stream i).limits.holdoff.holds c then some c else none } := by
  have h : (offerFirstOut (tripRaise i c) (State.modShift OpenShift.countTrip (State.setFactors tripFactor
      (bookRaise (tripRaise i c) (State.setFactors (calIf (s.stream i).calOpen)
        (s.modStream i Stream.cutOff)))))).stream i = (s.stream i).cutOff := by simp
  unfold trip applyHoldoff
  rw [h]
  by_cases hh : (s.stream i).limits.holdoff.holds c = true
  · have h2 : (s.stream i).cutOff.limits.holdoff.holds c = true := hh
    rw [if_pos h2, State.modStream_stream_self, h, if_pos hh, if_pos hh]
  · have h2 : ¬ (s.stream i).cutOff.limits.holdoff.holds c = true := hh
    rw [if_neg h2, clearAlarm_stream, State.modStream_stream_self, h, if_neg hh, if_neg hh]

/-- The other streams. -/
theorem trip_stream_other (i j : Fin 8) (c : TripCause) (s : State) (h : j ≠ i) :
    (trip i c s).stream j = s.stream j := by
  unfold trip applyHoldoff
  split <;> simp [h]

/-- A withdrawn permit touches what a trip may touch. -/
theorem withdraw_sameBlocks (c : TripCause) (i : Fin 8) (s : State) : SameBlocks s (withdraw c i s) := by
  unfold withdraw
  split
  · exact trip_sameBlocks i c s
  · split <;> rfl

theorem withdraw_stream_other (c : TripCause) (i j : Fin 8) (s : State) (h : j ≠ i) :
    (withdraw c i s).stream j = s.stream j := by
  unfold withdraw
  split
  · exact trip_stream_other i j c s h
  · split
    · simp [sendOff, State.moveTo, h]
    · rfl

/-- What withdrawing a permit makes of the stream itself. -/
def withdrawn (c : TripCause) (x : Stream) : Stream :=
  if x.state.burning then
    { x.cutOff with
      state := if x.limits.holdoff.holds c then .tripped else .off
      cause := if x.limits.holdoff.holds c then some c else none }
  else if x.state = .ready then { x with state := .off }
  else x

theorem withdraw_stream_self (c : TripCause) (i : Fin 8) (s : State) :
    (withdraw c i s).stream i = withdrawn c (s.stream i) := by
  unfold withdraw withdrawn
  split
  · exact trip_stream_self i c s
  · split
    · simp [sendOff, State.moveTo]
    · rfl

/-- Streams reached one after the other, each by a withdrawal where a test names it. -/
theorem foldl_withdraw (c : TripCause) (p : Fin 8 → Bool) (l : List (Fin 8)) (s : State) (h : l.Nodup) :
    SameBlocks s (l.foldl (fun s i => if p i then withdraw c i s else s) s) ∧
    ∀ j, (l.foldl (fun s i => if p i then withdraw c i s else s) s).stream j =
      if j ∈ l ∧ p j = true then withdrawn c (s.stream j) else s.stream j := by
  induction l generalizing s with
  | nil => exact ⟨rfl, by simp⟩
  | cons i l ih =>
    obtain ⟨hi, hl⟩ := List.nodup_cons.mp h
    simp only [List.foldl_cons]
    by_cases hp : p i = true
    · rw [if_pos hp]
      obtain ⟨h1, h2⟩ := ih (withdraw c i s) hl
      refine ⟨(withdraw_sameBlocks c i s).trans h1, fun j => ?_⟩
      rw [h2]
      by_cases hj : j = i
      · subst hj; simp [hi, hp, withdraw_stream_self]
      · simp [hj, withdraw_stream_other c i j s hj]
    · rw [if_neg hp]
      obtain ⟨h1, h2⟩ := ih s hl
      refine ⟨h1, fun j => ?_⟩
      rw [h2]
      by_cases hj : j = i
      · subst hj; simp [hi, hp]
      · simp [hj]

theorem mem_all8 (j : Fin 8) : j ∈ all8 := by revert j; decide

/-- Every stream after the withdrawal of all permits (R52, R57). -/
theorem withdrawAll_stream (c : TripCause) (s : State) (j : Fin 8) :
    (withdrawAll c s).stream j = withdrawn c (s.stream j) := by
  have h := (foldl_withdraw c (fun _ => true) all8 s (by decide)).2 j
  have hj : j ∈ all8 := mem_all8 j
  simpa [withdrawAll, hj] using h

theorem withdrawAll_sameBlocks (c : TripCause) (s : State) : SameBlocks s (withdrawAll c s) := by
  have h := (foldl_withdraw c (fun _ => true) all8 s (by decide)).1
  simpa [withdrawAll] using h

/-- The streams after interlock reports (R53, R131). -/
theorem reportInterlocks_stream (p : Fin 8 → Bool) (s : State) (j : Fin 8) :
    (reportInterlocks p s).stream j = if p j then withdrawn .interlock (s.stream j) else s.stream j := by
  have hj : j ∈ all8 := mem_all8 j
  simpa [reportInterlocks, hj] using (foldl_withdraw .interlock p all8 s (by decide)).2 j

theorem reportInterlocks_sameBlocks (p : Fin 8 → Bool) (s : State) : SameBlocks s (reportInterlocks p s) :=
  (foldl_withdraw .interlock p all8 s (by decide)).1

/-- Withdrawals taken one stream after the other are those of `WithdrawnInOrder`. -/
theorem foldl_withdrawnInOrder (c : TripCause) (p : Fin 8 → Bool) (s : State) :
    WithdrawnInOrder c (fun i => p i = true) s (all8.foldl (fun s i => if p i then withdraw c i s else s) s) := by
  refine ⟨fun n => (all8.take n).foldl (fun s i => if p i then withdraw c i s else s) s, rfl, rfl, fun i => ?_⟩
  have hs : all8.take (i.val + 1) = all8.take i.val ++ [i] := by revert i; decide
  simp only [hs, List.foldl_append, List.foldl_cons, List.foldl_nil]
  generalize (all8.take i.val).foldl (fun s i => if p i then withdraw c i s else s) s = w
  refine ⟨fun hp hb => by simp [hp, withdraw, hb], fun hp hr => ?_, ?_⟩
  · simp [hp, withdraw, hr, FiringState.burning]; rfl
  · rintro (hp | h | h) <;> simp_all [withdraw, FiringState.burning]

/-- The streams reached may be named in another way. -/
theorem WithdrawnInOrder.congr {c : TripCause} {p q : Fin 8 → Prop} {s t : State} (h : WithdrawnInOrder c p s t)
    (hpq : ∀ i, p i ↔ q i) : WithdrawnInOrder c q s t := by
  rwa [show q = p from funext fun i => propext (hpq i).symm]

/-- Interlock reports are withdrawals in stream order (R53). -/
theorem reportInterlocks_inOrder (p : Fin 8 → Bool) (s : State) :
    WithdrawnInOrder .interlock (fun i => p i = true) s (reportInterlocks p s) :=
  foldl_withdrawnInOrder .interlock p s

/-! ### Horns, outputs and heats in the words of the claims -/

theorem AlarmUnit.unackedAt_iff (a : AlarmUnit) (p : Priority) : a.unackedAt p = true ↔ Unacked p a := by
  simp [AlarmUnit.unackedAt, Unacked, Entry.unacked, and_comm]

/-- The horns brought to a changed list or silence flag (R151, R152). -/
theorem AlarmUnit.settleHorns_follow (a b : AlarmUnit) (hb : b.hornB = a.hornB) (ht : b.hornBTimer = a.hornBTimer) :
    HornsFollow a b.settleHorns := by
  have hA : b.settleHorns.hornA = b.wantsA := rfl
  have hU : ∀ p, Unacked p b.settleHorns ↔ Unacked p b := fun p => Iff.rfl
  have hS : b.settleHorns.silence = b.silence := rfl
  have h2 : b.wantsB = true ↔ Unacked .p2 b ∧ b.silence = false ∧ b.wantsA = false := by
    simp [AlarmUnit.wantsB, AlarmUnit.unackedAt_iff, and_assoc]
  refine ⟨?_, fun h => ?_, fun x y z w => ?_, fun x y z w => ?_⟩
  · rw [hA, hU, hS]; simp [AlarmUnit.wantsA, AlarmUnit.unackedAt_iff]
  · rw [hA, hU, hS, ← h2] at h
    simp [AlarmUnit.settleHorns, h]
  · have := h2.2 ⟨x, y, z⟩
    simp [AlarmUnit.settleHorns, this, hb, w, HornB.sounding]
  · have := h2.2 ⟨x, y, z⟩
    cases hh : a.hornB <;> simp_all [AlarmUnit.settleHorns, HornB.sounding]

/-- A section driven (R121). -/
theorem Section.drive_drivenTo (v : Nat) (x : Section) : DrivenTo v x (x.drive v) := rfl

/-- The heat of a fixed stream (R66). -/
theorem heatOf_eq (output ncv : Nat) : (heatOf output ncv : Int) = fixedHeat output ncv := by
  unfold heatOf fixedHeat roundHalfUp
  push_cast
  rfl

/-- The mass of a share (R67, step 6). -/
theorem massOf_eq (h : Int) (ncv : Nat) : massOf h ncv = sharedMass h ncv := by
  unfold massOf sharedMass roundHalfUpInt roundHalfUp
  by_cases hh : 0 ≤ h
  · obtain ⟨a, rfl⟩ := Int.eq_ofNat_of_zero_le hh
    rw [if_pos (by positivity), if_pos hh, Int.fdiv_eq_ediv_of_nonneg _ (by positivity)]
    have : ((a : Int) * 3600).toNat = a * 3600 := by omega
    push_cast [this]
    rfl
  · rw [if_neg (by omega), if_neg hh, Int.fdiv_eq_ediv_of_nonneg _ (by positivity)]
    obtain ⟨a, ha⟩ := Int.eq_ofNat_of_zero_le (show 0 ≤ -h by omega)
    have : (-(h * 3600)).toNat = a * 3600 := by omega
    push_cast [this]
    rw [ha]

/-! ### Resets -/

/-- What a reset makes of a transfer in progress (R15). -/
theorem LinkUnit.afterReset_abandons (cause : ResetCause) (busy : Option Nat) (u : LinkUnit) :
    AbandonsTransfer busy u (u.afterReset cause busy) := by
  refine ⟨?_, ?_⟩
  · rintro rfl; rfl
  · rintro n rfl
    refine ⟨fun h => ?_, fun out h => ?_⟩ <;> simp [LinkUnit.afterReset, LinkUnit.outSoFar, h, shiftedOut]

/-! ### Holdback -/

theorem Cooler.holdback_same (c : Cooler) (b : Bool) (h : c.holdback = b) : { c with holdback := b } = c := by
  subst h; rfl

/-- Holdback brought up to date touches, of the cooler, its holdback alone (R125). -/
theorem refreshHoldback_cooler (s : State) :
    (refreshHoldback s).cooler = { s.cooler with holdback := s.cooler.anyCause } := by
  unfold refreshHoldback
  generalize ha : s.cooler.anyCause = a
  generalize hh : s.cooler.holdback = b
  cases a <;> cases b
  · exact (Cooler.holdback_same _ _ hh).symm
  · rfl
  · rfl
  · exact (Cooler.holdback_same _ _ hh).symm

/-- Outside the cooler, it touches the sites, the Alarm Unit, the books and the factors. -/
theorem refreshHoldback_frame (s : State) :
    refreshHoldback s =
      { s with
        cooler := (refreshHoldback s).cooler, mainSite := (refreshHoldback s).mainSite
        calcSite := (refreshHoldback s).calcSite, au := (refreshHoldback s).au, su := (refreshHoldback s).su
        procLink := (refreshHoldback s).procLink, safeLink := (refreshHoldback s).safeLink
        deskLink := (refreshHoldback s).deskLink } := by
  unfold refreshHoldback
  cases s.cooler.anyCause <;> cases s.cooler.holdback <;> rfl

end Sys2Proof.Machine
end

