-- ==== Sys2Proof/Laws/PerInstr.lean ====
section
/-! SUPPORT. A law of the command syntax, one lemma for each constructor: a well-formed request row carries a body of at
most 60 bytes (R2, check 2). -/

namespace Sys2Proof.Laws

/-- The body of a well-formed request is one a good frame can carry (R2, R174). -/
def Fits.Statement (i : Instr) : Prop := i.wellFormed = true → ∀ r : Request, i.request = some r → r.body.length ≤ 60

theorem body_le_of_fits (r : Request) (h : r.fits = true) (q : Request) (e : some r = some q) : q.body.length ≤ 60 :=
  Option.some.inj e ▸ of_decide_eq_true h

theorem body_le_of_fits_and (b : Bool) (r : Request) (h : (r.fits && b) = true) (q : Request) (e : some r = some q) :
    q.body.length ≤ 60 :=
  body_le_of_fits r (Bool.and_eq_true_iff.mp h).1 q e

theorem Fits.powerOnReset (proc safe desk : Option Nat) : Fits.Statement (.powerOnReset proc safe desk) := fun _ _ e => nomatch e

theorem Fits.frameErr (l : Link) (bytes : List Byte) : Fits.Statement (.frameErr l bytes) := fun _ _ e => nomatch e

theorem Fits.unknownCmd (code : Byte) (r : Request) : Fits.Statement (.unknownCmd code r) := body_le_of_fits_and _ r

theorem Fits.nop (r : Request) : Fits.Statement (.nop r) := body_le_of_fits r

theorem Fits.status (r : Request) : Fits.Statement (.status r) := body_le_of_fits r

theorem Fits.readStream (r : Request) : Fits.Statement (.readStream r) := body_le_of_fits r

theorem Fits.readSite (r : Request) : Fits.Statement (.readSite r) := body_le_of_fits r

theorem Fits.poll (r : Request) : Fits.Statement (.poll r) := body_le_of_fits r

theorem Fits.listRead (r : Request) : Fits.Statement (.listRead r) := body_le_of_fits r

theorem Fits.readFirstout (r : Request) : Fits.Statement (.readFirstout r) := body_le_of_fits r

theorem Fits.readShift (r : Request) : Fits.Statement (.readShift r) := body_le_of_fits r

theorem Fits.readMeas (r : Request) : Fits.Statement (.readMeas r) := body_le_of_fits r

theorem Fits.readCooler (r : Request) : Fits.Statement (.readCooler r) := body_le_of_fits r

theorem Fits.readContacts (r : Request) : Fits.Statement (.readContacts r) := body_le_of_fits r

theorem Fits.readCal (r : Request) : Fits.Statement (.readCal r) := body_le_of_fits r

theorem Fits.attnMask (r : Request) : Fits.Statement (.attnMask r) := body_le_of_fits r

theorem Fits.attnClear (r : Request) : Fits.Statement (.attnClear r) := body_le_of_fits r

theorem Fits.linkReset (r : Request) : Fits.Statement (.linkReset r) := body_le_of_fits r

theorem Fits.setDemand (r : Request) : Fits.Statement (.setDemand r) := body_le_of_fits r

theorem Fits.setPlan (r : Request) : Fits.Statement (.setPlan r) := body_le_of_fits r

theorem Fits.setPeriod (r : Request) : Fits.Statement (.setPeriod r) := body_le_of_fits r

theorem Fits.light (r : Request) : Fits.Statement (.light r) := body_le_of_fits r

theorem Fits.hold (r : Request) : Fits.Statement (.hold r) := body_le_of_fits r

theorem Fits.resume (r : Request) : Fits.Statement (.resume r) := body_le_of_fits r

theorem Fits.stop (r : Request) : Fits.Statement (.stop r) := body_le_of_fits r

theorem Fits.calStart (r : Request) : Fits.Statement (.calStart r) := body_le_of_fits r

theorem Fits.calStop (r : Request) : Fits.Statement (.calStop r) := body_le_of_fits r

theorem Fits.calAccept (r : Request) : Fits.Statement (.calAccept r) := body_le_of_fits r

theorem Fits.calDiscard (r : Request) : Fits.Statement (.calDiscard r) := body_le_of_fits r

theorem Fits.putMeas (r : Request) : Fits.Statement (.putMeas r) := body_le_of_fits r

theorem Fits.setMeasConfig (r : Request) : Fits.Statement (.setMeasConfig r) := body_le_of_fits r

theorem Fits.setCutback (r : Request) : Fits.Statement (.setCutback r) := body_le_of_fits r

theorem Fits.setCooler (r : Request) : Fits.Statement (.setCooler r) := body_le_of_fits r

theorem Fits.coolerModeManual (r : Request) : Fits.Statement (.coolerModeManual r) := body_le_of_fits_and _ r

theorem Fits.coolerModeAuto (r : Request) : Fits.Statement (.coolerModeAuto r) := body_le_of_fits_and _ r

theorem Fits.setLimits (r : Request) : Fits.Statement (.setLimits r) := body_le_of_fits r

theorem Fits.setCheck (r : Request) : Fits.Statement (.setCheck r) := body_le_of_fits r

theorem Fits.grant (r : Request) : Fits.Statement (.grant r) := body_le_of_fits r

theorem Fits.revoke (r : Request) : Fits.Statement (.revoke r) := body_le_of_fits r

theorem Fits.flameProven (r : Request) : Fits.Statement (.flameProven r) := body_le_of_fits_and _ r

theorem Fits.flameLost (r : Request) : Fits.Statement (.flameLost r) := body_le_of_fits_and _ r

theorem Fits.release (r : Request) : Fits.Statement (.release r) := body_le_of_fits r

theorem Fits.masterTrip (r : Request) : Fits.Statement (.masterTrip r) := body_le_of_fits r

theorem Fits.setContact (r : Request) : Fits.Statement (.setContact r) := body_le_of_fits r

theorem Fits.setPoll (r : Request) : Fits.Statement (.setPoll r) := body_le_of_fits r

theorem Fits.setLinkTimeout (r : Request) : Fits.Statement (.setLinkTimeout r) := body_le_of_fits r

theorem Fits.fullReset (r : Request) (proc desk : Option Nat) : Fits.Statement (.fullReset r proc desk) := body_le_of_fits r

theorem Fits.ack (r : Request) : Fits.Statement (.ack r) := body_le_of_fits r

theorem Fits.ackAll (r : Request) : Fits.Statement (.ackAll r) := body_le_of_fits r

theorem Fits.shelve (r : Request) : Fits.Statement (.shelve r) := body_le_of_fits r

theorem Fits.unshelve (r : Request) : Fits.Statement (.unshelve r) := body_le_of_fits r

theorem Fits.silence (r : Request) : Fits.Statement (.silence r) := body_le_of_fits r

theorem Fits.firstoutClear (r : Request) : Fits.Statement (.firstoutClear r) := body_le_of_fits r

theorem Fits.firstoutMode (r : Request) : Fits.Statement (.firstoutMode r) := body_le_of_fits r

theorem Fits.forceContact (r : Request) : Fits.Statement (.forceContact r) := body_le_of_fits r

theorem Fits.unforce (r : Request) : Fits.Statement (.unforce r) := body_le_of_fits r

theorem Fits.setClock (r : Request) : Fits.Statement (.setClock r) := body_le_of_fits r

theorem Fits.setShifts (r : Request) : Fits.Statement (.setShifts r) := body_le_of_fits r

theorem Fits.closeShift (r : Request) : Fits.Statement (.closeShift r) := body_le_of_fits r

theorem Fits.massPulse (i : Fin 8) : Fits.Statement (.massPulse i) := fun _ _ e => nomatch e

theorem Fits.strokePulse (n : Fin 4) : Fits.Statement (.strokePulse n) := fun _ _ e => nomatch e

theorem Fits.dosingPeriodExpiry : Fits.Statement .dosingPeriodExpiry := fun _ _ e => nomatch e

theorem Fits.noFlowReport (i : Fin 8) : Fits.Statement (.noFlowReport i) := fun _ _ e => nomatch e

theorem Fits.lightingTimerExpiry (i : Fin 8) : Fits.Statement (.lightingTimerExpiry i) := fun _ _ e => nomatch e

theorem Fits.safeLinkTimerExpiry : Fits.Statement .safeLinkTimerExpiry := fun _ _ e => nomatch e

theorem Fits.calWindowTimeout (i : Fin 8) : Fits.Statement (.calWindowTimeout i) := fun _ _ e => nomatch e

theorem Fits.staleTimerExpiry (k : Fin 8) : Fits.Statement (.staleTimerExpiry k) := fun _ _ e => nomatch e

theorem Fits.delayTimerExpiry (k : Fin 4) : Fits.Statement (.delayTimerExpiry k) := fun _ _ e => nomatch e

theorem Fits.coolerPeriod : Fits.Statement .coolerPeriod := fun _ _ e => nomatch e

theorem Fits.stallTimerExpiry (n : Fin 4) : Fits.Statement (.stallTimerExpiry n) := fun _ _ e => nomatch e

theorem Fits.contactScan (levels : BitVec 24) : Fits.Statement (.contactScan levels) := fun _ _ e => nomatch e

theorem Fits.shelfExpiry (code : AlarmCode) : Fits.Statement (.shelfExpiry code) := fun _ _ e => nomatch e

theorem Fits.hornBIntervalExpiry : Fits.Statement .hornBIntervalExpiry := fun _ _ e => nomatch e

theorem Fits.clockAdvance : Fits.Statement .clockAdvance := fun _ _ e => nomatch e

theorem Fits.abandonedTransfer (l : Link) (bytes : List Byte) : Fits.Statement (.abandonedTransfer l bytes) := fun _ _ e => nomatch e

end Sys2Proof.Laws
end

