-- ==== Sys2Proof/Tests/Slice0.lean ====
section
/-! SUPPORT. Tests: the smoke of WellFormed, frames written out by hand from R174 and R176, the manual's worked cases
(the expected values are the manual's), and for each statement with hypotheses a state and operands that meet them. -/

set_option maxRecDepth 20000

namespace Sys2Proof.Tests

open Sys2Proof Sys2Proof.Machine

/-! ### WellFormed refuses what no transfer carries -/

/-- A request of a body on a link, with nothing behind its frame. -/
def req (l : Link) (b : List Byte) : Request := ⟨l, b, []⟩

/-- A body of 61 bytes, one more than a frame carries (R2, check 2). -/
def tooLong : List Byte := List.replicate 61 0x00#8

theorem test_wf_body : (Instr.nop (req .proc tooLong)).wellFormed = false := by decide
theorem test_wf_unknown_body : (Instr.unknownCmd 0x99#8 (req .proc tooLong)).wellFormed = false := by decide
theorem test_wf_unknown_code : (Instr.unknownCmd 0x42#8 (req .safe [])).wellFormed = false := by decide
theorem test_wf_frameErr : (Instr.frameErr .proc [0x01#8, 0x00#8, 0x15#8]).wellFormed = false := by decide
theorem test_wf_flame_proven : (Instr.flameProven (req .safe [0x00#8, 0x02#8])).wellFormed = false := by decide
theorem test_wf_flame_lost : (Instr.flameLost (req .safe [0x00#8, 0x01#8])).wellFormed = false := by decide
theorem test_wf_cooler_manual : (Instr.coolerModeManual (req .proc [0x01#8])).wellFormed = false := by decide
theorem test_wf_cooler_auto : (Instr.coolerModeAuto (req .proc [0x00#8])).wellFormed = false := by decide
theorem test_wf_good : (Instr.grant (req .safe [0x00#8])).wellFormed = true := by decide

/-! ### Frames -/

/-- 01, note 2 of R3: the CRC over 0x01 and 0x00 is 0x15. -/
theorem test_crc8_note : crc8 [0x01#8] = 0x07#8 ∧ crc8 [0x01#8, 0x00#8] = 0x15#8 := by decide

/-- The frame of that note is NOP, whatever stands behind it; with one bit of it wrong it is no frame. -/
theorem test_decode_nop :
    decodeTransfer ⟨.desk, [0x01#8, 0x00#8, 0x15#8, 0xAA#8], none, none⟩ = .nop ⟨.desk, [], [0xAA#8]⟩ ∧
      decodeTransfer ⟨.desk, [0x01#8, 0x00#8, 0x14#8], none, none⟩ = .frameErr .desk [0x01#8, 0x00#8, 0x14#8] := by
  decide

/-- A frame by its code and body, with the length and the CRC of R174. -/
def transfer (l : Link) (code : Byte) (b : List Byte) : Transfer :=
  ⟨l, code :: BitVec.ofNat 8 b.length :: b ++ [crc8 (code :: BitVec.ofNat 8 b.length :: b)], none, none⟩

/-- One frame of each family, by its code in R176. -/
theorem test_decode_families :
    decodeTransfer (transfer .safe 0x42#8 [0x04#8]) = .grant (req .safe [0x04#8]) ∧
    decodeTransfer (transfer .proc 0x20#8 [0x01#8, 0, 0, 0xEA#8, 0x60#8]) =
      .setDemand (req .proc [0x01#8, 0, 0, 0xEA#8, 0x60#8]) ∧
    decodeTransfer (transfer .proc 0x27#8 [0x00#8]) = .calStart (req .proc [0x00#8]) ∧
    decodeTransfer (transfer .proc 0x2B#8 [0x03#8, 0x06#8, 0x72#8]) = .putMeas (req .proc [0x03#8, 0x06#8, 0x72#8]) ∧
    decodeTransfer (transfer .safe 0x47#8 [5, 2, 1, 2, 3, 3, 0]) = .setContact (req .safe [5, 2, 1, 2, 3, 3, 0]) ∧
    decodeTransfer (transfer .desk 0x63#8 []) = .silence (req .desk []) ∧
    decodeTransfer (transfer .desk 0x6A#8 []) = .closeShift (req .desk []) ∧
    decodeTransfer (transfer .proc 0x99#8 []) = .unknownCmd 0x99#8 (req .proc []) := by decide

/-- FLAME and COOLER_MODE fall into their two rows by the report and the mode byte (R173). -/
theorem test_decode_twins :
    decodeTransfer (transfer .safe 0x44#8 [0x04#8, 0x01#8]) = .flameProven (req .safe [0x04#8, 0x01#8]) ∧
    decodeTransfer (transfer .safe 0x44#8 [0x04#8, 0x02#8]) = .flameLost (req .safe [0x04#8, 0x02#8]) ∧
    decodeTransfer (transfer .proc 0x2F#8 [0x01#8]) = .coolerModeAuto (req .proc [0x01#8]) ∧
    decodeTransfer (transfer .proc 0x2F#8 [0, 0, 1, 0, 1, 0, 1, 0, 1]) =
      .coolerModeManual (req .proc [0, 0, 1, 0, 1, 0, 1, 0, 1]) := by decide

/-- The table gives no bits. -/
theorem test_no_table_word : decodeTableWord 8 0x42 = none := rfl

/-- R15: the RESET answer echoes NOP with RESET_DONE and the cause POWER; its length byte is 7 (R174). -/
theorem test_reset_answer :
    (State.reset.procLink.answer.bytes.take 4, (State.reset.procLink.answer.bytes.drop 4).take 3) =
      ([0x07#8, 0x01#8, 0x50#8, 0x08#8], [0x00#8, 0x20#8, 0x00#8]) := by decide

/-! ### Small states and readings of outcomes -/

/-- The state after an outcome, the given one where there is none. -/
def after (s : State) (o : Result) : State :=
  match o with
  | .next t => t
  | _ => s

/-- The result code of the pending answer of a link after an outcome. -/
def resultOn (l : Link) (s : State) (o : Result) : ResultCode := ((after s o).link l).answer.result

/-- Reset with stream i changed. -/
def withStream (i : Fin 8) (f : Stream → Stream) (s : State := State.reset) : State := s.modStream i f

/-- Reset with stream 0 in a firing state. -/
def inState (x : FiringState) : State := withStream 0 fun y => { y with state := x }

/-- Stream 4 of the worked cases of chapters 2 and 3, armed. -/
def stream4 (x : Stream) : Stream :=
  { x with
    limits := ⟨.calc, 12000, 1500, 9000, 300, 20, .flame, 10⟩
    plan := ⟨some 14800, 35, 4, 2000, 25, 12⟩
    limitsSet := true
    planSet := true }

/-! ### Worked cases -/

/-- 02, arming: SET_LIMITS carries stream 4's limits and sets the limits marker alone. -/
theorem test_setLimits :
    (let t := after State.reset
      (exec (.setLimits (req .safe (be8 4 ++ be8 1 ++ be16 12000 ++ be16 1500 ++ be16 9000 ++ be16 300 ++ be8 20 ++ be8 1 ++ be8 10)))
        State.reset)
     ((t.stream 4).limits, (t.stream 4).limitsSet, (t.stream 4).planSet)) =
      (⟨.calc, 12000, 1500, 9000, 300, 20, .flame, 10⟩, true, false) := by decide

/-- 02, arming: SET_PLAN on the armed stream 4 in OFF clears the limits marker. -/
theorem test_setPlan_pair :
    (let s := withStream 4 stream4
     let t := after s (exec (.setPlan (req .proc (be8 4 ++ be16 14800 ++ be8 35 ++ be8 4 ++ be16 2000 ++ be8 25 ++ be8 12))) s)
     ((t.stream 4).limitsSet, (t.stream 4).planSet)) = (false, true) := by decide

/-- 02, a clamp while firing: output 6,200 to 5,500, rate 5,500, planned kept. -/
theorem test_setLimits_clamps :
    (let s := withStream 0 fun x => { x with
        state := .firing, limits := ⟨.main, 10000, 2000, 9000, 200, 15, .all, 8⟩, output := 6200, rate := 6200, planned := 6265 }
     let t := after s (exec (.setLimits (req .safe (be8 0 ++ be8 0 ++ be16 10000 ++ be16 2000 ++ be16 5500 ++ be16 200 ++
        be8 15 ++ be8 2 ++ be8 8))) s)
     ((t.stream 0).output, (t.stream 0).rate, (t.stream 0).planned)) = (5500, 5500, 6265) := by decide

/-- 02, a shared poll line: stream 5 LIGHTING on line 2, stream 7 with no entry on line 3 SET_WHEN_FALSE: 0x0C. -/
theorem test_poll :
    (let s := withStream 5 (fun x => { x with state := .lighting, poll := ⟨some 2, .setWhenTrue, .burning⟩ })
        (withStream 7 fun x => { x with poll := ⟨some 3, .setWhenFalse, .unacked⟩ })
     ((after s (exec (.poll (req .safe [])) s)).safeLink.answer.body)) = [0x0C#8] := by decide

/-- 02: a GRANT of an unarmed stream is refused NOT_ARMED (R37). -/
theorem test_grant_not_armed :
    resultOn .safe State.reset (exec (.grant (req .safe [0x04#8])) State.reset) = .notArmed := by decide

/-- 03, light-off of stream 4: output 1,500, rate 1,250, 20 s. -/
theorem test_light :
    (let s := withStream 4 fun x => { stream4 x with state := .ready }
     let t := after s (exec (.light (req .proc [0x04#8])) s)
     ((t.stream 4).state, (t.stream 4).output, (t.stream 4).rate, (t.stream 4).lighting)) =
      (.lighting, 1500, 1250, some 20000) := by decide

/-- 03, light-off: the timer running out trips under FLAME to TRIPPED with LIGHT_FAIL, output 0. -/
theorem test_light_fail :
    (let s := withStream 4 fun x => { stream4 x with state := .lighting, lighting := some 0, output := 1500, rate := 1250 }
     let t := after s (exec (.lightingTimerExpiry 4) s)
     ((t.stream 4).state, (t.stream 4).cause, (t.stream 4).output, t.au.list.map Entry.state, t.su.shift.trips)) =
      (.tripped, some .lightFail, 0, [.activeUnack], 1) := by decide

/-- 03, light-off: the proof that comes after it is answered TOO_LATE. -/
theorem test_proven_too_late :
    resultOn .safe (inState .tripped) (exec (.flameProven (req .safe [0x00#8, 0x01#8])) (inState .tripped)) = .tooLate := by
  decide

/-- Three streams FIRING with holdoff ALL, FLAME and NONE and contact 5 over them (03, three holdoff modes). -/
def holdoffs : State :=
  withStream 0 (fun x => { x with state := .firing, limits := { x.limits with holdoff := .all } })
    (withStream 1 (fun x => { x with state := .firing, limits := { x.limits with holdoff := .flame } })
      (withStream 2 (fun x => { x with state := .firing, limits := { x.limits with holdoff := .none } })
        (State.reset.modContact 5 fun c => { c with role := .streamInterlock, mask := 0x07#8, debounce := 2, count := 1 })))

/-- 03, three holdoff modes: the states, the four unacknowledged P1 entries, horn A, three trips, first-out stream 0. -/
theorem test_holdoffs :
    (let t := after holdoffs (exec (.contactScan 0xFFFFDF#24) holdoffs)
     ([(t.stream 0).state, (t.stream 1).state, (t.stream 2).state], t.au.list.map Entry.state, t.au.hornA, t.su.shift.trips,
      t.au.firstOut.captured.map Capture.code)) =
      ([.tripped, .off, .off], [.activeUnack, .activeUnack, .clearedUnack, .clearedUnack], true, 3, some (.streamTrip 0)) := by
  decide

/-- 03, silence on the SAFE link: the expiry, and then a NOP that restores the link. -/
theorem test_link_loss :
    (let s := withStream 0 (fun x => { x with state := .firing })
        (withStream 3 (fun x => { x with state := .ready }) (withStream 5 fun x => { x with state := .tripped, cause := some .flameLost }))
     let t := after s (exec .safeLinkTimerExpiry s)
     let u := after t (exec (.nop (req .safe [])) t)
     ([(t.stream 0).cause, (t.stream 5).cause], (t.stream 3).state, [t.safeHealthy, u.safeHealthy], u.safeTimer,
      u.au.list.map Entry.state)) =
      ([some .linkLoss, some .flameLost], .off, [false, true], some 3000, [.activeUnack, .clearedUnack]) := by decide

/-- 03, stopping stream 4: 1,900 falls to 1,600, and 100 to 0 in READY. -/
theorem test_stopping :
    (let s := withStream 4 fun x => { stream4 x with state := .stopping, output := 1900 }
     let t := withStream 4 fun x => { stream4 x with state := .stopping, output := 100 }
     (((dose .calc s).stream 4).output, ((dose .calc t).stream 4).output, ((dose .calc t).stream 4).state)) =
      (1600, 0, .ready) := by decide

/-- The MAIN streams of the worked case of chapter 4. -/
def main3 : State :=
  withStream 0 (fun x => { x with
      state := .firing, limits := ⟨.main, 10000, 2000, 9000, 200, 15, .all, 8⟩, plan := ⟨some 26000, 60, 1, 1000, 20, 10⟩, output := 6000 })
    (withStream 1 (fun x => { x with
        state := .firing, limits := ⟨.main, 4000, 1000, 3000, 100, 15, .all, 8⟩, plan := ⟨some 32000, 20, 2, 1000, 20, 10⟩, output := 1650 })
      (withStream 2 (fun x => { x with
          state := .firing, limits := ⟨.main, 2000, 500, 1500, 50, 15, .all, 8⟩, plan := ⟨some 28000, 20, 3, 1000, 20, 10⟩, output := 1500 })
        (State.reset.modSite .main fun y => { y with demand := 72000, effective := 72000 })))

/-- 04, three FIRING streams: heats, planned setpoints, passes and the M of the last pass. -/
theorem test_allocation :
    (let a := main3.allocation .main
     (a.parts.map Share.heat, a.parts.map Share.mass, a.passes, a.lastM, a.unplaced)) =
      ([45250, 15083, 11667], [6265, 1697, 1500], 2, 60333, 0) := by decide

/-- 04, three FIRING streams: outputs and rates after the computation. -/
theorem test_outputs :
    (let t := dose .main main3
     ((t.stream 0).output, (t.stream 1).output, (t.stream 1).rate, (t.stream 2).rate, t.mainSite.compCount)) =
      (6200, 1697, 4243, 7500, 1) := by decide

/-- 04, the same site under a 10 % cut: E 64,800 and the heats of its two passes. -/
theorem test_allocation_cut :
    (let s := offerCut .main (.set 0) (some 10) main3
     (s.mainSite.effective, s.mainSite.capActive, (s.allocation .main).parts.map Share.heat)) =
      (64800, true, [39850, 13283, 11667]) := by decide

/-- 04, a site driven to its limits: stream 0 TRIPPED leaves 33,666 kW unplaced. -/
theorem test_allocation_short :
    (let s := withStream 0 (fun x => { x with state := .tripped }) main3
     ((s.allocation .main).unplaced, ((dose .main s).mainSite).unplacedCount)) = (33666, 1) := by decide

/-- 04: the tenth computation in a row with heat unplaced raises SITE_UNPLACED at P2, SHORT. -/
theorem test_unplaced_alarm :
    (let s := (withStream 0 (fun x => { x with state := .tripped }) main3).modSite .main fun y => { y with unplacedCount := 9 }
     (dose .main s).au.list.map fun e => (e.code, e.priority, e.detail)) = [(.siteUnplaced .main, .p2, some .short)] := by
  decide

/-- R63: a demand above 200,000 kW is stored as 200,000 and answered OK_CLAMPED. -/
theorem test_setDemand :
    (let o := exec (.setDemand (req .proc (be8 1 ++ be32 200001))) State.reset
     (resultOn .proc State.reset o, (after State.reset o).calcSite.demand)) = (.okClamped, 200000) := by decide

/-- The bridging feeder of chapter 5, its ring full, with its counters. -/
def bridged (sum : List Nat) (dev noFlow : Nat) (cond : Bool) : State :=
  withStream 1 fun x => { x with
    state := .firing, output := 1697, limits := ⟨.main, 4000, 1000, 3000, 100, 15, .flame, 8⟩
    plan := ⟨some 32000, 20, 2, 100, 20, 10⟩, fill := 8, ring := sum.map fun p => ⟨p, 1697⟩
    devCounter := dev, noFlowCounter := noFlow, devCond := cond }

/-- 05, closes 2 and 11: 1,350 kg/h counts a deviation; the tenth raises the alarm. -/
theorem test_deviation :
    (let a := periodClose (bridged [5, 5, 5, 5, 5, 5, 5, 0] 0 0 false) 1
     let b := periodClose (bridged [0, 0, 0, 0, 0, 0, 0, 0] 9 3 false) 1
     ((a.stream 1).flow, (a.stream 1).devCounter, (b.stream 1).devCond, (b.stream 1).noFlowCounter,
      b.au.list.map Entry.code)) = (1350, 1, true, 4, [.streamDeviation 1]) := by decide

/-- 05, close 15: the eighth short close reports no-flow, and the report sends the stream OFF under FLAME. -/
theorem test_no_flow :
    (let a := periodClose (bridged [0, 0, 0, 0, 0, 0, 0, 0] 0 7 true) 1
     let b := after a (exec (.noFlowReport 1) a)
     ((a.stream 1).noFlowDue, (b.stream 1).noFlowDue, (b.stream 1).state, (b.stream 1).output)) =
      (true, false, .off, 0) := by decide

/-- R86: with FLAME LOST, RELEASE, GRANT, LIGHT and FLAME PROVEN between the close and the report, the report is stale: a
trip voids it, and so does a STOPPING stream's fall to READY (R54). -/
theorem test_stale_no_flow :
    (let s := withStream 1 fun x => { x with state := .firing, noFlowDue := true }
     let t := withStream 1 fun x => { x with state := .stopping, noFlowDue := true }
     (((after s (exec (.flameLost (req .safe [0x01#8, 0x02#8])) s)).stream 1).noFlowDue,
      ((dose .main t).stream 1).state, ((dose .main t).stream 1).noFlowDue)) = (false, .ready, false) := by decide

/-- Stream 0 in its calibration window (05, a calibration run). -/
def calibrating (state : CalState) (elapsed : Nat) : State :=
  withStream 0 fun x => { x with
    state := if state = .opened then .calib else .firing, output := 6000
    cal := some ⟨state, ⟨412, 30600⟩, 6000, 1000, 4800, elapsed⟩ }

/-- R90: the window of an OPEN record is due at 3,600,000 ms and not one earlier; a tick adds its millisecond, up to there. -/
theorem test_calWindow_due :
    (let due (ms : Nat) := (calibrating .opened ms).due
     let next (ms : Nat) := ((calibrating .opened ms).tick.stream 0).cal.map CalRecord.elapsed
     (due 3599999, due 3600000, next 3599999, next 3600000)) =
      ([], [.calWindowTimeout 0], some 3600000, some 3600000) := by decide

/-- 05, CAL_STOP at 3,010 s latches DONE with CAL on all links; at 45 s it latches SHORT. -/
theorem test_calStop :
    (let run (ms : Nat) := after (calibrating .opened ms) (exec (.calStop (req .proc [0x00#8])) (calibrating .opened ms))
     (((run 3010000).stream 0).cal.map CalRecord.state, ((run 3010000).stream 0).state, (run 3010000).safeLink.factors.cal,
      ((run 45000).stream 0).cal.map CalRecord.state)) = (some .done, .firing, true, some .short) := by decide

/-- 05, CAL_ACCEPT of 5,016 kg gives 1,045 g; of 5,400 kg 1,100 g, OK_CLAMPED. -/
theorem test_calAccept :
    (let s := calibrating .done 3010000
     let run (kg : Nat) := exec (.calAccept (req .proc (be8 0 ++ be32 kg))) s
     (((after s (run 5016)).stream 0).plan.pulseWeight, (after s (run 5016)).su.shift.cals, resultOn .proc s (run 5016),
      ((after s (run 5400)).stream 0).plan.pulseWeight, resultOn .proc s (run 5400))) =
      (1045, 1, .ok, 1100, .okClamped) := by decide

/-- R77: a pulse at 65,535 is not added; an OPEN record counts it all the same. -/
theorem test_massPulse :
    (let s := (calibrating .opened 0).modStream 0 fun x => { x with pulses := 65535 }
     let t := after s (exec (.massPulse 0) s)
     ((t.stream 0).pulses, (t.stream 0).cal.map CalRecord.pulses)) = (65535, some 4801) := by decide

/-! #### Chapters 6 to 10 -/

/-- Slot 3 and cutback set 0 of the CO case of chapter 6, CALC at 60,000 kW. -/
def coState (value : Int) (stale : Bool) (state : SetState) (timer : DelayTimer) : State :=
  ((State.reset.modSlot 3 fun x =>
      { x with low := 0, high := 20000, staleTime := 5, value := value, isStale := stale,
               timer := if stale then none else some 5000, alarm := stale }).modSet 0 fun _ =>
    ⟨true, 3, .above, 1500, 300, 10, .calc, 15, state, timer⟩).modSite .calc fun y =>
      { y with demand := 60000, effective := 60000 }

/-- A PUT_MEAS to slot 3. -/
def putSlot3 (v : Nat) : Instr := .putMeas (req .proc (be8 3 ++ be16 v))

/-- 06, at 2, 4 and 20 s: the delay starts, is dropped, and resumes where it froze. -/
theorem test_putMeas :
    (let run (s : State) (v : Nat) := ((after s (exec (putSlot3 v) s)).cutSet 0)
     let a := run (coState 1200 false .idle .stopped) 1650
     let b := run (coState 1650 false .timing (.running 8000)) 1480
     let c := run (coState 1810 true .timing (.frozen 3000)) 1900
     [(a.state, a.timer), (b.state, b.timer), (c.state, c.timer)]) =
      [(.timing, .running 10000), (.idle, .stopped), (.timing, .running 3000)] := by decide

/-- 06, at 22 s: 25,000 is clamped to 20,000 and answered OK_CLAMPED. -/
theorem test_putMeas_clamps :
    (let s := coState 1900 false .timing (.running 1000)
     let o := exec (putSlot3 25000) s
     ((after s o).slot 3 |>.value, resultOn .proc s o)) = (20000, .okClamped) := by decide

/-- 06, at 12 s: the stale timer freezes the delay with what is left of it and raises MEAS_STALE at P3. -/
theorem test_staleTimer :
    (let s := coState 1810 false .timing (.running 3000)
     let t := after s (exec (.staleTimerExpiry 3) s)
     ((t.slot 3).isStale, (t.cutSet 0).timer, t.au.list.map fun e => (e.code, e.priority))) =
      (true, .frozen 3000, [(.measStale 3, .p3)]) := by decide

/-- A tick runs the delay timer of a set down by a millisecond and keeps a frozen one. -/
theorem test_tick_delay :
    (let next (t : DelayTimer) := ((coState 1810 false .timing t).tick.cutSet 0).timer
     [next (.running 3000), next (.running 1), next (.frozen 3000), next .stopped]) =
      [.running 2999, .running 0, .frozen 3000, .stopped] := by decide

/-- 06, at 23 and 25 s: ACTIVE takes CALC to 51,000 kW, the release back to 60,000 kW. -/
theorem test_delayTimer :
    (let s := coState 20000 false .timing (.running 0)
     let t := after s (exec (.delayTimerExpiry 0) s)
     let u := after t (exec (putSlot3 1150) t)
     ([t.calcSite.effective, u.calcSite.effective], [t.calcSite.capActive, u.calcSite.capActive], (u.cutSet 0).state)) =
      ([51000, 60000], [true, false], .idle) := by decide

/-- The cooler of chapter 7 in AUTO, section 1 at `s1`, the pressure at `p` mbar. -/
def coolerAt (p : Int) (s1 count : Nat) (cause : Bool) : State :=
  { State.reset.modSlot 0 (fun x => { x with value := p, isStale := false }) with
    cooler := { State.reset.cooler with
      settings := ⟨55, 120, 3, 70, 10, 20, 100, 0⟩
      ratios := #v[110, 90, 80]
      sections := #v[⟨40, 160, 4, 0, s1, none, false⟩, ⟨40, 180, 4, 0, 40, none, false⟩, ⟨30, 160, 4, 0, 30, none, false⟩,
        ⟨20, 140, 4, 0, 20, none, false⟩]
      mode := .auto, pressureCount := count, pressureCause := cause, holdback := cause } }

/-- The outputs of the four sections. -/
def outputs (s : State) : List Nat := s.cooler.sections.toList.map fun x => x.output

/-- 07, periods 1 and 5: 139, 153, 125, 111 and 155, 171, 140, 124. -/
theorem test_coolerPeriod :
    (let run (s : State) := outputs (after s (exec .coolerPeriod s))
     (run (coolerAt 62 135 0 false), run (coolerAt 72 151 0 false))) =
      ([139, 153, 125, 111], [155, 171, 140, 124]) := by decide

/-- 07, periods 16 and 18: the tenth count makes the cause stand; 54 mbar drops it. -/
theorem test_pressureCause :
    (let run (s : State) := let t := after s (exec .coolerPeriod s); (t.cooler.pressureCause, t.cooler.pressureCount, t.cooler.holdback)
     (run (coolerAt 72 160 9 false), run (coolerAt 54 156 0 true))) = ((true, 0, true), (false, 0, false)) := by decide

/-- 07, manual rates with clamping: 120, 180, 100, 20 and OK_CLAMPED. -/
theorem test_coolerModeManual :
    (let s := coolerAt 54 152 0 false
     let o := exec (.coolerModeManual (req .proc (be8 0 ++ be16 120 ++ be16 350 ++ be16 100 ++ be16 10))) s
     (outputs (after s o), resultOn .proc s o)) = ([120, 180, 100, 20], .okClamped) := by decide

/-- 07, a stalled drive: at 30 s section 3's stall makes holdback active, and a stroke of it ends the stall. -/
theorem test_stall :
    (let s := coolerAt 54 152 0 false
     let s := { s with cooler := { s.cooler with sections := s.cooler.sections.set 2 ⟨30, 160, 4, 0, 137, some 0, false⟩ } }
     let t := after s (exec (.stallTimerExpiry 2) s)
     let u := after t (exec (.strokePulse 2) t)
     ([t.cooler.stallCause, u.cooler.stallCause], [t.cooler.holdback, u.cooler.holdback], t.au.list.map fun e => (e.code, e.priority))) =
      ([true, false], [true, false], [(.sectionStalled 2, .p1), (.coolerHoldback, .p2)]) := by decide

/-- R120: a stroke of section 1 adds a stroke and the clinker per stroke. -/
theorem test_strokePulse :
    (let t := after State.reset (exec (.strokePulse 0) State.reset)
     (t.cooler.strokes, t.cooler.clinker, t.su.shift.clinker)) = (1, 100, 100) := by decide

/-- Contact 5 of chapter 8, abnormal and accepted, stream 0 in a state, stream 1 READY. -/
def damper (forced : Bool) (x : FiringState) : State :=
  withStream 0 (fun y => { stream4 y with state := x, limits := { (stream4 y).limits with holdoff := .all } })
    (withStream 1 (fun y => { y with state := .ready })
      (State.reset.modContact 5 fun c =>
        { c with role := .streamInterlock, mask := 0x03#8, debounce := 3, accepted := .opened, forced := forced,
                 forcedCond := forced, cond := !forced }))

/-- 08, scans at 20 to 100 ms: two open samples count 2 with nothing accepted; the third trips stream 0 and takes stream 1
OFF. -/
theorem test_contactScan :
    (let s := withStream 0 (fun y => { y with state := .firing }) (withStream 1 (fun y => { y with state := .ready })
        (State.reset.modContact 5 fun c => { c with role := .streamInterlock, mask := 0x03#8, debounce := 3, count := 1 }))
     let t := after s (exec (.contactScan 0xFFFFDF#24) s)
     let u := after t (exec (.contactScan 0xFFFFDF#24) t)
     ([(t.contact 5).count, (u.contact 5).count], [(t.contact 5).accepted, (u.contact 5).accepted],
       [(t.stream 0).state, (u.stream 0).state, (u.stream 1).state])) =
      ([2, 0], [.closed, .opened], [.firing, .tripped, .off]) := by decide

/-- 08: FORCE_CONTACT is taken with no stream of the mask burning, and LIGHT is then refused FORCED. -/
theorem test_forceContact :
    (let s := damper false .tripped
     let t := after s (exec (.forceContact (req .desk [0x05#8])) s)
     ((t.contact 5).forced, (t.contact 5).cond, t.au.list.map fun e => (e.code, e.priority),
       resultOn .proc (damper true .ready) (exec (.light (req .proc [0x00#8])) (damper true .ready)))) =
      (true, false, [(.contactForced 5, .p3)], .forced) := by decide

/-- 08: UNFORCE with the circuit still open takes the READY stream 0 OFF with no trip. -/
theorem test_unforce :
    (let s := damper true .ready
     let t := after s (exec (.unforce (req .desk [0x05#8])) s)
     ((t.contact 5).forced, (t.contact 5).cond, (t.stream 0).state, t.su.shift.trips)) = (false, true, .off, 0) := by decide

/-- A list entry. -/
def entry (c : AlarmCode) (p : Priority) (x : EntryState) (active : Bool) : Entry :=
  ⟨c, p, x, active, ⟨0, 0⟩, 1, none, if x = .shelved then some 1000 else none⟩

/-- Reset with a list of entries and the horns as they follow. -/
def withList (l : List Entry) (s : State := State.reset) : State := { s with au := { s.au with list := l }.settleHorns }

/-- The list before event 3 of the case of chapter 9. -/
def list2 : List Entry := [entry (.measStale 2) .p3 .activeUnack true, entry (.cutback 0) .p2 .activeUnack true]

/-- 09, event 3: the trip of stream 6 under FLAME sounds horn A, stops horn B and is captured. -/
theorem test_trip_alarm :
    (let s := withList list2 (withStream 6 fun x => { x with state := .firing, limits := { x.limits with holdoff := .flame } })
     let t := trip 6 .noFlow s
     ([s.au.hornB, t.au.hornB], t.au.hornA, t.au.list.map Entry.state,
       t.au.firstOut.captured.map fun c => (c.code, c.states.getD 6 .off))) =
      ([.onHalf, .silent], true, [.activeUnack, .activeUnack, .clearedUnack], some (.streamTrip 6, .firing)) := by decide

/-- 09, events 4 and 5: SILENCE stops horn A; ACK removes the cleared entry, and a second ACK finds it absent. -/
theorem test_silence_ack :
    (let s := withList (list2 ++ [entry (.streamTrip 6) .p1 .clearedUnack false])
     let t := after s (exec (.silence (req .desk [])) s)
     let u := after t (exec (.ack (req .proc [0x01#8, 0x06#8])) t)
     ([s.au.hornA, t.au.hornA, u.au.hornA], u.au.list.length,
       resultOn .desk u (exec (.ack (req .desk [0x01#8, 0x06#8])) u))) = ([true, false, false], 2, .noEntry) := by decide

/-- 09, event 7: SHELVE for 30 minutes takes the entry out of the unacknowledged count. -/
theorem test_shelve :
    (let s := withList list2
     let t := after s (exec (.shelve (req .desk [0x06#8, 0x00#8, 0x00#8, 0x1E#8])) s)
     (t.au.list.map Entry.shelf, t.au.unackCount, t.deskLink.answer.body)) =
      ([none, some 1800000], 1, [0x06#8, 0x00#8, 0x07#8, 0x08#8]) := by decide

/-- 09, events 10 and 11: a raise of a cleared entry counts 2 at the tail; a shelf that ends with its condition clear is
removed. -/
theorem test_raise_again_shelf_end :
    (let s := withList [entry (.measStale 2) .p3 .clearedUnack false, entry (.cutback 0) .p2 .shelved false]
     let t := raiseAlarm ⟨.measStale 2, .p3, none⟩ s
     let u := after t (exec (.shelfExpiry (.cutback 0)) t)
     (t.au.list.map fun e => (e.code, e.count), u.au.list.map Entry.code)) =
      ([(.cutback 0, 1), (.measStale 2, 2)], [.measStale 2]) := by decide

/-- A full list: `n` entries P1 CLEARED_UNACK and the rest P3, of which CONTACT_FORCED 2 is the oldest acknowledged. -/
def fullList : List Entry :=
  (all24.map fun k => entry (.contact k) .p1 .clearedUnack false) ++ (all8.map fun n => entry (.measStale n) .p3 .activeUnack true) ++
    [entry (.contactForced 2) .p3 .activeAck true] ++
    (all24.filterMap fun k => if k = 2 ∨ k = 9 then none else some (entry (.contactForced k) .p3 .activeAck true)) ++
    (all8.map fun i => entry (.streamDeviation i) .p2 .activeUnack true) ++ [entry .safeLink .p1 .clearedUnack false]

/-- 09, eviction: a P3 raise on 64 entries evicts the oldest acknowledged P3 entry and sets the overflow flag. -/
theorem test_eviction :
    (let s := withList fullList
     let t := raiseAlarm ⟨.contactForced 9, .p3, none⟩ s
     ([s.au.list.length, t.au.list.length], t.au.overflow, t.au.find (.contactForced 2), (t.au.list.map Entry.code).getLast?)) =
      ([64, 64], true, none, some (.contactForced 9)) := by decide

/-- 09, eviction: ACK_ALL removes the cleared entries and acknowledges the others; at 48 or fewer the overflow flag
clears. -/
theorem test_ackAll :
    (let s := withList fullList
     let t := after s (exec (.ackAll (req .desk [])) { s with au := { s.au with overflow := true } })
     (t.au.list.length, t.au.overflow, t.au.unackCount, [t.au.hornA, t.au.hornB != .silent])) =
      (39, false, 0, [false, false]) := by decide

/-- The shift books before the close of shift 57 (10). -/
def books57 : State :=
  withStream 1 (fun x => { x with state := .firing }) (withStream 4 (fun x => { x with state := .firing, limits := (stream4 x).limits })
    { State.reset with
      su := { State.reset.su with
        clock := ⟨412, 32399⟩
        changeTimes := [3600, 32400, 61200]
        shift := { State.reset.su.shift with
          number := 57
          opened := ⟨412, 20885⟩
          mass := #v[19900000, 5400000, 4800000, 0, 16350320, 10600000, 8082512, 2500]
          heat := #v[517400000000, 172800000000, 134400000000, 0, 241984736000, 275600000000, 177815264000, 0]
          burnMain := 11514
          burnCalc := 11199
          strokes := 4900
          clinker := 490000 } } })

/-- 10, the close of shift 57: masses, heats and SHC. -/
theorem test_clockAdvance_closes :
    ((after books57 (exec .clockAdvance books57)).su.history.map fun c => (c.number, c.mass, c.heat, c.shc)) =
      [(57, [19900, 5400, 4800, 0, 16350, 10600, 8082, 2], [517400, 172800, 134400, 0, 241984, 275600, 177815, 0], some 3102)] := by
  decide

/-- 10, the close of shift 57: burning seconds, closing time, cause, the next shift and SHIFT on all links. -/
theorem test_clockAdvance_opens :
    (let t := after books57 (exec .clockAdvance books57)
     (t.su.history.map fun c => (c.burnMain, c.burnCalc, c.closed, c.cause), t.su.shift, t.procLink.factors.shift)) =
      ([(11515, 11200, ⟨412, 32400⟩, .clock)], OpenShift.fresh 58 ⟨412, 32400⟩, true) := by decide

/-- 10: with a clinker mass of 900 kg the SHC is absent. -/
theorem test_close_no_shc :
    ((closeOpenShift .desk (books57.modShift fun o => { o with clinker := 900 })).su.history.map ClosedShift.shc) = [none] := by
  decide

/-- R164: times that do not increase are refused RANGE, and a count of 0 empties the table. -/
theorem test_setShifts :
    (let bad := exec (.setShifts (req .desk (be8 2 ++ be32 3600 ++ be32 3600))) books57
     let empty := exec (.setShifts (req .desk [0x00#8])) books57
     (resultOn .desk books57 bad, (after books57 bad).su.changeTimes, (after books57 empty).su.changeTimes)) =
      (.range, [3600, 32400, 61200], []) := by decide

/-- R163: second 86,400 is refused RANGE, and a load closes nothing. -/
theorem test_setClock :
    (let bad := exec (.setClock (req .desk (be16 412 ++ be24 86400))) books57
     let good := after books57 (exec (.setClock (req .desk (be16 412 ++ be24 32400))) books57)
     (resultOn .desk books57 bad, good.su.clock, good.su.shift.number)) = (.range, ⟨412, 32400⟩, 57) := by decide

/-- R16: FULL_RESET is refused WRONG_STATE while a stream is READY, and otherwise answers RESET_DONE with the cause. -/
theorem test_fullReset :
    (let o := exec (.fullReset (req .safe []) none none) State.reset
     (resultOn .safe (inState .ready) (exec (.fullReset (req .safe []) none none) (inState .ready)),
       resultOn .safe State.reset o, (after State.reset o).resetCause, (after State.reset o).safeLink.answer.echo)) =
      (.wrongState, .resetDone, .command, 0x4A#8) := by decide

/-- R15: a transfer in progress at a reset is discarded at its release, and its RESET answer stays pending. -/
theorem test_abandoned :
    (let s := after State.reset (exec (.powerOnReset none (some 3) none) State.reset)
     let t := after s (exec (.grant (req .safe [0x00#8])) s)
     (s.safeLink.abandoned.isSome, t.safeLink.abandoned, t.safeLink.answer.result)) = (true, none, .resetDone) := by decide

/-- R8: a command of another link's is answered NOT_OWNER. -/
theorem test_notOwner :
    resultOn .desk State.reset (exec (.grant (req .desk [0x00#8])) State.reset) = .notOwner := by decide

/-- R11: an enabled factor asserts the attention output, and masking it releases the output. -/
theorem test_attention :
    (let s := State.reset.setFactors ⟨true, false, false, false⟩
     let t := after s (exec (.attnMask (req .desk [0x08#8])) s)
     let u := after t (exec (.attnMask (req .desk [0x00#8])) t)
     [s.deskLink.attention, t.deskLink.attention, u.deskLink.attention]) = [false, true, false] := by decide

/-- R152: horn B comes to sound with an on half and 1 s, and a second raise leaves the half and its time as they are. -/
theorem test_horn_b_starts :
    (let s := raiseAlarm ⟨.cutback 0, .p2, none⟩ State.reset
     let t := raiseAlarm ⟨.cutback 1, .p2, none⟩ { s with au := { s.au with hornB := .offHalf, hornBTimer := some 300 } }
     [(s.au.hornB, s.au.hornBTimer), (t.au.hornB, t.au.hornBTimer)]) = [(.onHalf, some 1000), (.offHalf, some 300)] := by decide

/-- R67, note 1 and step 5: M = 7 kW over weights 1, 1 and 0: shares 3, 3 and 0, and the remainder 1 to the best rank, which
weight 0 does not bar. -/
theorem test_remainder :
    (let l := [(⟨0, 3600, 1, 2, 0, 9, .unfixed, 0, 0⟩ : Share), ⟨3, 3600, 1, 2, 0, 9, .unfixed, 0, 0⟩, ⟨5, 3600, 0, 1, 0, 9, .unfixed, 0, 0⟩]
     (allocate 7 l).parts.map Share.heat) = [3, 3, 1] := by decide

/-! ### Witnesses: the hypotheses of each statement can be met -/

/-- The hypothesis `Sent`, by computation. -/
theorem sent {links : List Link} {n : Nat} {r : Request} {s : State}
    (h : (links.contains r.link && r.body.length == n && (s.link r.link).abandoned == none) = true) : Sent links n r s := by
  simp only [Bool.and_eq_true, List.contains_iff_mem, beq_iff_eq] at h
  exact ⟨h.1.1, h.1.2, h.2⟩

/-- Two links with transfers in progress at a reset, one of them abandoned by a reset before: 3 bytes of the pending
answer, and fill behind what that one had put out (R15). -/
theorem test_abandoned_bytes :
    (let s := resetAll .power none (some 3) none State.reset
     let t := after s (exec (.powerOnReset (some 2) (some 5) none) s)
     (s.safeLink.abandoned, t.procLink.abandoned, t.safeLink.abandoned, t.deskLink.abandoned)) =
      (some [0x07#8, 0x01#8, 0x50#8], some [0x07#8, 0x01#8], some [0x07#8, 0x01#8, 0x50#8, 0, 0], none) := by decide

/-- R52: two burning streams under MASTER_TRIP: their raises in stream order, TRIP and NEWS, the first-out record. -/
theorem test_master_trip :
    (let s := withStream 6 (fun x => { x with state := .held }) (withStream 2 (fun x => { x with state := .firing }) (inState .ready))
     let t := after s (exec (.masterTrip (req .safe [])) s)
     (t.au.list.map Entry.code, t.deskLink.factors, t.au.firstOut.captured.map Capture.code, t.su.shift.alarmsP1, (t.stream 0).state)) =
      ([.streamTrip 2, .streamTrip 6], ⟨true, true, false, false⟩, some (.streamTrip 2), 2, .off) := by decide

/-- R133: SET_CONTACT that inverts an interlock contact raises CONTACT at P1 before the trip of the burning stream of its
mask. -/
theorem test_setContact_order :
    (let s := inState .firing
     let o := exec (.setContact (req .safe [5, 2, 0, 3, 1, 2, 0])) s
     let t := after s o
     (resultOn .safe s o, t.au.list.map fun e => (e.code, e.priority), (t.stream 0).state, t.su.shift.alarmsP1)) =
      (.ok, [(.contact 5, .p1), (.streamTrip 0, .p1)], .tripped, 2) := by decide

/-- Reset with a command waiting. -/
def waiting (c : Instr) : State := { State.reset with pending := [c] }

theorem witness_StepTakesFrontCommand : (waiting .clockAdvance).pending = .clockAdvance :: [] := rfl

theorem witness_IdleStepQueuesDueEvent :
    State.reset.pending = [] ∧ State.reset.due = [] ∧ { State.reset with scanTimer := 0 }.due ≠ [] := by decide

/-- A shelved entry with no time left, and one with some. -/
def shelved (ms : Nat) : State :=
  { State.reset with au := { State.reset.au with list := [⟨.safeLink, .p2, .shelved, true, ⟨0, 0⟩, 1, none, some ms⟩] } }

theorem witness_IdleStepQueuesDueEvent_shelf :
    ((shelved 0).due, (shelved 1).due, (shelved 1).tick.au.list.map Entry.shelf) = ([.shelfExpiry .safeLink], [], [some 0]) := by
  decide

theorem witness_ExecKeepsQueue : ∃ t, exec .dosingPeriodExpiry State.reset = .next t := ⟨_, rfl⟩

/-- SAFE with a transfer that a reset abandoned after 3 bytes. -/
def abandoned : State := resetAll .power none (some 3) none State.reset

theorem witness_WellFormedCommandCompletes :
    (Instr.nop (req .proc [])).wellFormed = true ∧ (Instr.abandonedTransfer .safe []).wellFormed = true ∧
      (abandoned.link .safe).abandoned ≠ none := by decide

theorem witness_TransfersDecodeAndEncode :
    (Instr.grant (req .safe [0x04#8])).wellFormed = true ∧
    transferOf (.grant (req .safe [0x04#8])) = some (transfer .safe 0x42#8 [0x04#8]) ∧
    (transfer .safe 0x42#8 [0x04#8]).procBusy = none ∧ (transfer .safe 0x42#8 [0x04#8]).deskBusy = none := by decide

theorem witness_AnswersStayWithinFrame : AnswersSound State.reset ∧ ∃ t, step State.reset = .next t :=
  ⟨⟨fun l => by cases l <;> decide, fun c h => by simp [State.reset, AlarmUnit.reset] at h⟩, _, rfl⟩

theorem witness_TakingOpensAndAnswers :
    (req .proc []).link ≠ .safe ∧ (req .safe []).link = .safe ∧ (Link.desk ≠ Link.proc) := by decide

theorem witness_RefusedRequestHasNoEffect :
    (Instr.grant (req .desk [0x08#8])).commandRow = some Cmd.grant ∧
    (Instr.grant (req .desk [0x08#8])).request = some (req .desk [0x08#8]) ∧ Link.desk ∉ Cmd.grant.owners ∧
    Link.safe ∈ Cmd.grant.owners ∧ (req .safe []).body.length ∉ Cmd.grant.lengths ∧
    (req .safe [0x08#8]).body.length ∈ Cmd.grant.lengths ∧ 7 < u8 (req .safe [0x08#8]).body 0 ∧
    (State.reset.link .safe).abandoned = none ∧ (State.reset.link .desk).abandoned = none := by decide

theorem witness_BadTransfersTaken :
    parseFrame [0x01#8, 0x00#8, 0x14#8] = none ∧ knownCode 0x99#8 = false ∧
    (State.reset.link .safe).abandoned = none ∧ (abandoned.link .safe).abandoned = some (abandoned.safeLink.abandoned.getD []) := by
  decide

/-- A row of the table, an unknown code and a bad frame on the link of an abandoned transfer. -/
theorem witness_BadTransfersTaken_abandoned :
    (Instr.grant (req .safe [0x00#8])).commandRow = some Cmd.grant ∧
    (Instr.grant (req .safe [0x00#8])).request = some (req .safe [0x00#8]) ∧ (req .safe [0x00#8]).body.length ≤ 60 ∧
    (abandoned.link (req .safe []).link).abandoned ≠ none := by decide

theorem witness_LinkFlagsTaken :
    Sent [.proc, .safe, .desk] 0 (req .proc []) State.reset ∧ Sent [.proc, .safe, .desk] 1 (req .desk [0x08#8]) State.reset ∧
    u8 [0x00#8] 0 = 0 ∧ (0 < u8 [0x3F#8] 0 ∧ u8 [0x3F#8] 0 ≤ 63) ∧ 63 < u8 [0x40#8] 0 :=
  ⟨sent (by decide), sent (by decide), by decide⟩

theorem witness_LinkResetActsOnItsLink : Sent [.proc, .safe, .desk] 0 (req .safe []) State.reset := sent (by decide)

theorem witness_FullResetOnlyAtRest :
    Sent [.safe] 0 (req .safe []) (inState .tripped) ∧
    (∀ i, ((inState .tripped).stream i).state = .off ∨ ((inState .tripped).stream i).state = .tripped) ∧
    (∃ i, ((inState .stopping).stream i).state ≠ .off ∧ ((inState .stopping).stream i).state ≠ .tripped) :=
  ⟨sent (by decide), by decide, by decide⟩

/-- A SET_LIMITS body for stream 0: site, scale, min, max, at the ends of the other ranges. -/
def limitsBody (site scale min max : Nat) : List Byte :=
  be8 0 ++ be8 site ++ be16 scale ++ be16 min ++ be16 max ++ be16 1 ++ be8 5 ++ be8 2 ++ be8 60

theorem witness_SetLimitsReplacesHalf :
    Sent [.safe] 13 (req .safe (limitsBody 0 1000 0 1000)) State.reset ∧
    limitsOf (limitsBody 2 1000 0 1000) = none ∧ limitsOf (limitsBody 0 999 0 0) = none ∧
    limitsOf (limitsBody 1 1000 1000 1000) = some ⟨.calc, 1000, 1000, 1000, 1, 5, .all, 60⟩ ∧
    limitsOf (limitsBody 0 60000 2 1) = some ⟨.main, 60000, 2, 1, 1, 5, .all, 60⟩ ∧
    Site.calc ≠ ((inState .tripped).stream 0).limits.site ∧ ((inState .tripped).stream 0).state ≠ .off ∧
    (State.reset.stream 0).state = .off ∧ ((inState .held).stream 0).state = .held ∧
    ((inState .stopping).stream 0).state = .stopping :=
  ⟨sent (by decide), by decide, by decide, by decide, by decide, by decide, by decide, by decide, by decide, by decide⟩

/-- A SET_PLAN body for stream 0 with an NCV and a pulse weight, at the ends of the other ranges. -/
def planBody (ncv pulse : Nat) : List Byte := be8 0 ++ be16 ncv ++ be8 100 ++ be8 8 ++ be16 pulse ++ be8 50 ++ be8 60

theorem witness_SetPlanReplacesHalf :
    Sent [.proc] 9 (req .proc (planBody 5000 1)) State.reset ∧ planOf (planBody 4999 1) = none ∧
    planOf (planBody 40000 65535) = some ⟨some 40000, 100, 8, 65535, 50, 60⟩ ∧ ((inState .ready).stream 0).state ≠ .off ∧
    (65535 : Nat) ≠ ((inState .ready).stream 0).plan.pulseWeight ∧ (State.reset.stream 0).state = .off ∧
    (1000 : Nat) = ((inState .firing).stream 0).plan.pulseWeight :=
  ⟨sent (by decide), by decide, by decide, by decide, by decide, by decide, by decide⟩

theorem witness_PulseWeightKept :
    (let s := calibrating .done 60000
     ((after s (exec (.calAccept (req .proc (be8 0 ++ be32 5016))) s)).stream 0).plan.pulseWeight ≠ (s.stream 0).plan.pulseWeight) := by
  decide

theorem witness_SetCheckStoresWord :
    Sent [.safe] 2 (req .safe [0xFF#8, 0xFF#8]) (inState .firing) ∧ Sent [.proc, .desk] 2 (req .desk [0, 0]) State.reset :=
  ⟨sent (by decide), sent (by decide)⟩

theorem witness_PollLinesFollowStreams :
    Sent [.safe] 4 (req .safe [0, 7, 1, 1]) State.reset ∧ pollOf [0, 7, 1, 1] = some ⟨some 7, .setWhenFalse, .unacked⟩ ∧
    pollOf [0, 0xFF#8, 0, 0] = some ⟨none, .setWhenTrue, .burning⟩ ∧ pollOf [0, 8, 0, 0] = none ∧
    Sent [.proc, .safe, .desk] 0 (req .proc []) State.reset :=
  ⟨sent (by decide), by decide, by decide, by decide, sent (by decide)⟩

theorem witness_ReadsChangeNothing :
    Sent [.proc, .safe, .desk] 1 (req .desk [0x07#8]) State.reset ∧ u8 [0x01#8] 0 = siteByte .calc ∧ u8 [0x17#8] 0 = (23 : Fin 24).val ∧
    1 < u8 [0x02#8] 0 ∧ Sent [.proc, .safe, .desk] 2 (req .proc [0, 7]) State.reset ∧ u8 [1, 3] 0 = 1 ∧ u8 [1, 3] 1 = (3 : Fin 4).val ∧
    Sent [.proc, .safe, .desk] 0 (req .safe []) State.reset ∧ Sent [.proc, .safe, .desk] 5 (req .proc (be32 1 ++ be8 2)) State.reset ∧
    u8 (be32 1 ++ be8 2) 4 ≤ 2 ∧ u32 (be32 1 ++ be8 2) 0 = State.reset.su.shift.number ∧
    u32 (be32 0 ++ be8 0) 0 ≠ State.reset.su.shift.number ∧ (∀ c ∈ State.reset.su.history, c.number ≠ u32 (be32 0 ++ be8 0) 0) :=
  ⟨sent (by decide), by decide, by decide, by decide, sent (by decide), by decide, by decide, sent (by decide), sent (by decide),
    by decide, by decide, by decide, by decide⟩

/-- The numbers just past each range: site 2, contact 24, slot 8, set 4, kind 2, selector 3. -/
theorem witness_ReadsChangeNothing_refused :
    Sent [.proc, .safe, .desk] 1 (req .proc [0x02#8]) State.reset ∧ 1 < u8 [0x02#8] 0 ∧ 23 < u8 [0x18#8] 0 ∧
    Sent [.proc, .safe, .desk] 2 (req .desk [0, 8]) State.reset ∧ (u8 [0, 8] 0 = 0 ∧ 7 < u8 [0, 8] 1) ∧
    (u8 [1, 4] 0 = 1 ∧ 3 < u8 [1, 4] 1) ∧ 1 < u8 [2, 0] 0 ∧
    Sent [.proc, .safe, .desk] 5 (req .safe (be32 1 ++ be8 3)) State.reset ∧ 2 < u8 (be32 1 ++ be8 3) 4 :=
  ⟨sent (by decide), by decide, by decide, sent (by decide), by decide, by decide, by decide, sent (by decide), by decide⟩

theorem test_reads_refused :
    (let run (c : Instr) := resultOn .proc State.reset (exec c State.reset)
     [run (.readSite (req .proc [2])), run (.readContacts (req .proc [24])), run (.readMeas (req .proc [0, 8])),
       run (.readMeas (req .proc [1, 4])), run (.readMeas (req .proc [2, 0])), run (.readShift (req .proc [0, 0, 0, 1, 3]))]) =
      [.range, .badIndex, .badIndex, .badIndex, .range, .badIndex] := by decide

/-- A READ_SHIFT of a shift in the ring. -/
theorem witness_ReadsChangeNothing_ring :
    (let s := closeOpenShift .desk State.reset
     (s.su.shift.number, (s.su.history.find? fun c => c.number == 1).isSome)) = (2, true) := by decide

theorem witness_ReadoutsLieAsLaidOut : ∀ c, State.reset.au.firstOut.captured = some c → c.states.length = 8 := by
  intro c h; simp [State.reset, AlarmUnit.reset] at h

/-- R177: the readout of contact 5, written by hand: role 2, normal CLOSED, priority 1, mask 0x01, debounce 3, no slow
scan, forced (bits 1 and 2 of the state byte), and the three masks of 24 bits. -/
theorem test_contact_readout :
    contactReadout 5 (State.reset.modContact 5 fun c =>
        { c with role := .streamInterlock, priority := .p1, mask := 0x01#8, debounce := 3, accepted := .opened, forced := true }) =
      [5, 2, 1, 1, 1, 3, 0, 0x06#8, 0, 0xFF#8, 0xFF#8, 0xDF#8, 0, 0, 0, 0, 0, 0x20#8] := by decide

/-- A captured raise, an entry at the head of the list, a share of a record, a running delay. -/
theorem witness_ReadoutsLieAsLaidOut_fields :
    (∃ c, (trip 0 .noFlow (inState .firing)).au.firstOut.captured = some c ∧ c.states[0]? = some .firing) ∧
    (∃ e, (shelved 1).au.list[0 + (0 : Fin 4).val]? = some e ∧ e.shelf = some 1) ∧
    State.reset.mainSite.record.parts[(7 : Fin 8)] = some ⟨.none, 0⟩ ∧ State.reset.calcSite.record.parts[(7 : Fin 8)] = none ∧
    ((coState 0 false .timing (.running 1)).cutSet 0).timer = .running 1 ∧ (State.reset.stream 0).cal = none ∧
    ((calibrating .opened 5).stream 0).cal ≠ none ∧ (4 + (3 : Fin 4).val = (7 : Fin 8).val) :=
  ⟨⟨_, by rfl, by decide⟩, ⟨_, by rfl, rfl⟩, by decide, by decide, by decide, by decide, by decide, by decide⟩

/-- Stream 0 armed in OFF, the word expected being the word computed. -/
def armed : State := withStream 0 stream4 { State.reset with computedWord := 7, expectedWord := 7 }

/-- Contact 5 over stream 0, accepted open. -/
def guarded (s : State) (forced : Bool) : State :=
  s.modContact 5 fun c => { c with role := .streamInterlock, mask := 0x01#8, accepted := .opened, forced := forced }

theorem witness_OnlyGrantLeavesOff :
    Sent [.safe] 1 (req .safe [0x00#8]) armed ∧ ((inState .tripped).stream 0).state = .tripped ∧
    ((inState .ready).stream 0).state ≠ .tripped ∧ ((inState .ready).stream 0).state ≠ .off ∧
    ((State.reset.stream 0).limitsSet && (State.reset.stream 0).planSet) = false ∧
    ((armed.stream 0).limitsSet && (armed.stream 0).planSet) = true ∧ armed.computedWord = armed.expectedWord ∧
    { armed with computedWord := 6 }.computedWord ≠ { armed with computedWord := 6 }.expectedWord ∧
    Interlocked (guarded armed false) 0 ∧ ¬Interlocked armed 0 ∧ (armed.stream 0).state = .off ∧
    ((after armed (exec (.grant (req .safe [0x00#8])) armed)).stream 0).state ≠ .off :=
  ⟨sent (by decide), by decide, by decide, by decide, by decide, by decide, by decide, by decide, by unfold Interlocked; decide,
    by unfold Interlocked; decide, by decide, by decide⟩

theorem witness_OnlyReleaseLeavesTripped :
    Sent [.safe] 1 (req .safe [0x00#8]) (inState .tripped) ∧ Sent [.proc, .desk] 1 (req .desk [0x00#8]) State.reset ∧
    ((inState .tripped).stream 0).state = .tripped ∧ ((inState .calib).stream 0).state ≠ .tripped ∧
    ((after (inState .tripped) (exec (.release (req .safe [0x00#8])) (inState .tripped))).stream 0).state ≠ .tripped :=
  ⟨sent (by decide), sent (by decide), by decide, by decide, by decide⟩

theorem witness_TripIsTakenWhole :
    (holdoffs.stream 0).limits.holdoff = .all ∧ ((holdoffs.stream 1).limits.holdoff = .flame ∧ TripCause.noFlow ≠ .lightFail) ∧
    (holdoffs.stream 2).limits.holdoff = .none := by decide

/-- Stream 0 LIGHTING with its timer running out. -/
def lightingOut : State := withStream 0 fun x => { x with state := .lighting, lighting := some 0 }

theorem witness_TripCausesActByState :
    Sent [.safe] 1 (req .safe [0x00#8]) (inState .stopping) ∧ Sent [.safe] 2 (req .safe [0x00#8, 0x02#8]) (inState .lighting) ∧
    ((inState .stopping).stream 0).state.burning = true ∧ ((inState .ready).stream 0).state.burning = false ∧
    (State.reset.stream 0).state = .off ∧ (lightingOut.stream 0).state = .lighting ∧ (lightingOut.stream 0).lighting ≠ none ∧
    (State.reset.stream 0).lighting = none ∧ ((inState .held).stream 0).state = .held ∧ ((inState .calib).stream 0).state ≠ .held :=
  ⟨sent (by decide), sent (by decide), by decide, by decide, by decide, by decide, by decide, by decide, by decide, by decide⟩

theorem witness_AllStreamsWithdrawn :
    Sent [.safe] 0 (req .safe []) holdoffs ∧ (holdoffs.stream 0).state.burning = true ∧ ((inState .ready).stream 0).state = .ready ∧
    (State.reset.stream 7).state = .off ∧ State.reset.su.shift.trips ≤ 65535 ∧ State.reset.safeTimer ≠ none ∧
    { State.reset with safeTimer := none }.safeTimer = none :=
  ⟨sent (by decide), by decide, by decide, by decide, by decide, by decide, by decide⟩

theorem witness_FiringCommandsTaken :
    Sent [.proc] 1 (req .proc [0x00#8]) (inState .ready) ∧ Sent [.safe] 2 (req .safe [0x00#8, 0x01#8]) (inState .lighting) ∧
    GuardForced (guarded (inState .ready) true) 0 ∧ ¬GuardForced (inState .ready) 0 ∧ u8 [0x00#8, 0x00#8] 1 ≠ 0x01 ∧
    u8 [0x00#8, 0x03#8] 1 ≠ 0x02 ∧ ((inState .tripped).stream 0).state = .tripped ∧ ((inState .firing).stream 0).state = .firing ∧
    ((inState .held).stream 0).state = .held ∧ ((inState .stopping).stream 0).state = .stopping :=
  ⟨sent (by decide), sent (by decide), by unfold GuardForced; decide, by unfold GuardForced; decide, by decide, by decide,
    by decide, by decide, by decide, by decide⟩

theorem witness_DemandAndCutGiveEffective :
    Sent [.proc] 5 (req .proc (be8 1 ++ be32 200000)) State.reset ∧ u8 (be8 1 ++ be32 200000) 0 = siteByte .calc ∧
    u32 (be8 1 ++ be32 200000) 1 ≤ 200000 ∧ ¬u32 (be8 0 ++ be32 200001) 1 ≤ 200000 ∧ 1 < u8 (be8 2 ++ be32 0) 0 ∧
    (offerCut .main (.set 0) (some 50) main3).mainSite.setOffers[0] = some 50 :=
  ⟨sent (by decide), by decide, by decide, by decide, by decide, by decide⟩

theorem witness_PeriodAndTimeoutStored :
    Sent [.proc] 1 (req .proc [0x03#8]) State.reset ∧ u8 [0x03#8] 0 = periodByte .ms2000 ∧ 3 < u8 [0x04#8] 0 ∧
    (∃ i, ((inState .tripped).stream i).state ≠ .off ∧ ((inState .tripped).stream i).state ≠ .ready) ∧
    (∀ i, ((inState .ready).stream i).state = .off ∨ ((inState .ready).stream i).state = .ready) ∧
    Sent [.safe] 1 (req .safe [0x0A#8]) State.reset ∧ u8 [0x0A#8] 0 ≤ 10 ∧ 1 ≤ u8 [0x01#8] 0 ∧ u8 [0x00#8] 0 < 1 ∧ 10 < u8 [0x0B#8] 0 ∧
    (after State.reset (exec (.setLinkTimeout (req .safe [0x0A#8])) State.reset)).safeTimeout ≠ State.reset.safeTimeout :=
  ⟨sent (by decide), by decide, by decide, by decide, by decide, sent (by decide), by decide, by decide, by decide, by decide,
    by decide⟩

/-- MAIN with stream 0 tripped, which leaves heat unplaced. -/
def short : State := withStream 0 (fun x => { x with state := .tripped }) main3

theorem witness_AllocationPlacesDemand :
    (main3.allocation .main).final = true ∧ (short.allocation .main).final = false ∧
    ∃ p ∈ (main3.allocation .main).parts, p.role = .unfixed := by decide

/-- A part of rank 1 with min 10 and max 20, of a role and a weight, at a mass. -/
def part (i : Fin 8) (x : Role) (weight : Nat) (mass : Int) : Share := ⟨i, 3600, weight, 1, 10, 20, x, mass, mass⟩

/-- A pass with no UNFIXED part, with weights that sum to 0, with a share above max, below min, and at both limits. -/
theorem witness_AllocationPlacesDemand_passes :
    unfixedOf [part 0 .fixedMin 1 10] = [] ∧ ((unfixedOf [part 0 .unfixed 0 0]).map Share.weight).sum = 0 ∧
    (let pass (e : Nat) := runPasses e 1 0 [part 0 .unfixed 1 0, part 1 .unfixed 1 0]
     ([part 0 .unfixed 1 0, part 1 .unfixed 1 0].Pairwise fun p q => p.idx < q.idx) ∧
       (pass 41).parts.map Share.role = [.fixedMax, .unfixed] ∧ (pass 19).parts.map Share.role = [.unfixed, .fixedMin] ∧
       (pass 40).final = true ∧ (pass 20).final = true) := by decide

theorem witness_DosingMovesOutputs :
    (main3.stream 0).limits.site ≠ .calc ∧ (main3.stream 0).limits.site = .main ∧ (main3.stream 0).state = .firing ∧
    (main3.stream 0).limits.min ≤ (main3.stream 0).limits.max ∧ (main3.stream 3).state = .off ∧
    ((inState .held).stream 0).state = .held ∧ ((inState .stopping).stream 0).state = .stopping ∧
    ((inState .stopping).stream 0).output ≤ ((inState .stopping).stream 0).limits.ramp ∧
    ((withStream 0 fun x => { x with state := .stopping, output := 2 }).stream 0).limits.ramp <
      ((withStream 0 fun x => { x with state := .stopping, output := 2 }).stream 0).output := by decide

/-- The allocation behind a computation has a share for the FIRING stream 0 and none for stream 3, which is OFF. -/
theorem witness_DosingMovesOutputs_allocation :
    (let a := State.allocation .main { main3 with streams := lowerStreams .main main3.streams }
     ((∃ p ∈ a.parts, p.idx = 0) ∧ ∀ p ∈ a.parts, p.idx ≠ 3)) := by decide

theorem witness_UnplacedHeatRaisesAlarm :
    (∃ i, (short.stream i).limits.site = .main ∧ (short.stream i).state = .firing) ∧
    ((dose .main short).siteRec .main).unplaced ≠ 0 ∧
    ((dose .main (short.modSite .main fun y => { y with unplacedCount := 9 })).siteRec .main).unplacedCond = true ∧
    (short.siteRec .main).unplacedCond = ((dose .main short).siteRec .main).unplacedCond ∧
    (∀ i, (State.reset.stream i).limits.site = .main → (State.reset.stream i).state ≠ .firing) ∧
    ((dose .main main3).siteRec .main).unplaced = 0 := by decide

theorem witness_PulsesCountedAndBooked :
    (main3.stream 0).plan.ncv = some 26000 ∧ (State.reset.stream 0).plan.ncv = none ∧ (State.reset.stream 0).ring.length < 8 ∧
    ((bridged [0, 0, 0, 0, 0, 0, 0, 0] 0 0 false).stream 1).ring.length = 8 ∧ (1 : Fin 8) ≠ 0 := by decide

/-- The average setpoint of stream 1 after its period close. -/
def average (s : State) : Nat := (((periodClose s 1).stream 1).ring.map WindowEntry.output).sum / 8

/-- The bridging feeder in band, out of band with the condition inactive and active, short of flow at the count and before
it, and a stream outside supervision. -/
theorem witness_PeriodCloseSupervises :
    (let s := bridged [5, 5, 5, 5, 5, 5, 5, 5] 9 7 false
     let t := bridged [5, 5, 5, 5, 5, 5, 5, 5] 0 0 true
     let u := withStream 1 (fun x => { x with pulses := 5 }) (bridged [5, 5, 5, 5, 5, 5, 5, 5] 0 0 true)
     let v := bridged [0, 0, 0, 0, 0, 0, 0, 0] 9 7 false
     (((s.stream 1).state = .firing ∧ ((periodClose s 1).stream 1).fill = 8) ∧
       ((State.reset.stream 1).state ≠ .firing ∧ (State.reset.stream 1).state ≠ .held) ∧
       (average v * 20 < (max ((periodClose v 1).stream 1).flow (average v) - min ((periodClose v 1).stream 1).flow (average v)) * 100) ∧
       (v.stream 1).plan.devCount ≤ min 60 ((v.stream 1).devCounter + 1)) ∧
     ((max ((periodClose s 1).stream 1).flow (average s) - min ((periodClose s 1).stream 1).flow (average s)) * 100 ≤ average s * 20 ∧
       (t.stream 1).devCond = true ∧
       (max ((periodClose u 1).stream 1).flow (average u) - min ((periodClose u 1).stream 1).flow (average u)) * 100 ≤ average u * 20) ∧
     (((periodClose v 1).stream 1).flow < average v / 10 ∧ (v.stream 1).limits.noFlowCount ≤ min 60 ((v.stream 1).noFlowCounter + 1) ∧
       average s / 10 ≤ ((periodClose s 1).stream 1).flow)) := by decide

theorem witness_CalibrationTaken :
    Sent [.proc] 1 (req .proc [0x00#8]) (inState .firing) ∧ ((inState .firing).stream 0).cal = none ∧
    ((calibrating .opened 59999).stream 0).state = .calib ∧ ((calibrating .opened 59999).stream 0).calOpen = true ∧
    ((calibrating .done 60000).stream 0).cal = some ⟨.done, ⟨412, 30600⟩, 6000, 1000, 4800, 60000⟩ ∧
    Sent [.proc] 5 (req .proc (be8 0 ++ be32 100000)) (calibrating .done 60000) ∧ u32 (be8 0 ++ be32 100000) 1 ≤ 100000 ∧
    100000 < u32 (be8 0 ++ be32 100001) 1 ∧ u32 (be8 0 ++ be32 0) 1 < 1 ∧ ((calibrating .done 60000).stream 0).state ≠ .tripped ∧
    ((calibrating .short 0).stream 0).cal.map CalRecord.state = some .short :=
  ⟨sent (by decide), by decide, by decide, by decide, by decide, sent (by decide), by decide, by decide, by decide, by decide,
    by decide⟩

theorem witness_SlotsTakeAndLoseValues :
    Sent [.proc] 3 (req .proc (be8 3 ++ be16 25000)) (coState 0 false .idle .stopped) ∧ 7 < u8 (be8 8 ++ be16 0) 0 ∧
    s16 (be8 3 ++ be16 0xFFFF) 1 = -1 ∧ clampInt 0 20000 25000 ≠ 25000 ∧
    Sent [.proc] 6 (req .proc (be8 3 ++ be16 0 ++ be16 0 ++ be8 2)) State.reset ∧
    s16 (be8 3 ++ be16 1 ++ be16 0 ++ be8 2) 3 < s16 (be8 3 ++ be16 1 ++ be16 0 ++ be8 2) 1 ∧
    u8 (be8 3 ++ be16 0 ++ be16 0 ++ be8 1) 5 < 2 ∧ 30 < u8 (be8 3 ++ be16 0 ++ be16 0 ++ be8 31) 5 ∧
    ((coState 0 false .idle .stopped).slot 3).timer ≠ none ∧ ((coState 0 true .idle .stopped).slot 3).alarm = true :=
  ⟨sent (by decide), by decide, by decide, by decide, sent (by decide), by decide, by decide, by decide, by decide, by decide⟩

/-- Set 0 of the CO case in each state: its condition met above 1,500 and not at it, its release point passed below 1,200
and not at it. -/
theorem witness_FreshValueActsBySetState :
    (let c (x : SetState) (t : DelayTimer) := (coState 0 false x t).cutSet 0
     ((c .idle .stopped).state = .idle ∧ (c .idle .stopped).delay ≠ 0 ∧ (c .timing (.frozen 3000)).timer = .frozen 3000 ∧
       (c .timing (.running 1)).timer = .running 1 ∧ (c .active .stopped).state = .active ∧ (State.reset.cutSet 0).state = .disabled) ∧
     ((c .idle .stopped).condition 1501 = true ∧ (c .idle .stopped).condition 1500 = false ∧
       (c .active .stopped).released 1199 = true ∧ (c .active .stopped).released 1200 = false) ∧
     ((c .idle .stopped).enable = true ∧ (c .idle .stopped).slot = 3 ∧ (State.reset.cutSet 0).enable = false)) := by decide

theorem witness_CutIsOfferedWhileActive :
    ((coState 0 false .timing (.running 0)).cutSet 0).timer = .running 0 ∧
    ((coState 0 false .timing (.running 0)).cutSet 0).state = .timing ∧ ((coState 0 false .idle .stopped).cutSet 0).state ≠ .timing := by
  decide

/-- A SET_CUTBACK body: set, enable, slot, sense, threshold, hysteresis, delay, sites, cut. -/
def cutBody (k slot cut : Nat) : List Byte :=
  be8 k ++ be8 1 ++ be8 slot ++ be8 1 ++ be16 0x8000 ++ be16 10000 ++ be8 60 ++ be8 2 ++ be8 cut

theorem witness_SetCutbackRewritesSet :
    Sent [.proc] 11 (req .proc (cutBody 3 7 50)) State.reset ∧ 3 < u8 (cutBody 4 7 50) 0 ∧ 7 < u8 (cutBody 3 8 50) 2 ∧
    cutSetOf (cutBody 3 7 51) 7 = none ∧
    cutSetOf (cutBody 3 7 50) 7 = some ⟨true, 7, .below, -32768, 10000, 60, .both, 50, .idle, .stopped⟩ :=
  ⟨sent (by decide), by decide, by decide, by decide, by decide⟩

/-- A SET_COOLER body with a pressure slot, section limits and a ratio. -/
def coolerBody (slot lo hi ratio : Nat) : List Byte :=
  be16 55 ++ be16 120 ++ be8 3 ++ be16 70 ++ be16 10 ++ be8 20 ++ be16 100 ++ be8 slot ++
    (all4.flatMap fun _ => be16 lo ++ be16 hi ++ be8 20) ++ be8 ratio ++ be8 50 ++ be8 200

theorem witness_SetCoolerReplacesSettings :
    Sent [.proc] 36 (req .proc (coolerBody 7 40 300 110)) State.reset ∧ 7 < u8 (coolerBody 8 40 300 110) 12 ∧
    u8 (coolerBody 7 40 300 110) 12 = (7 : Fin 8).val ∧ coolerInRange (coolerBody 7 40 301 110) 7 = false ∧
    coolerOrdered (coolerBody 7 41 40 110) = false ∧ coolerInRange (coolerBody 7 300 300 110) 7 = true ∧
    coolerOrdered (coolerBody 7 300 300 110) = true :=
  ⟨sent (by decide), by decide, by decide, by decide, by decide, by decide, by decide⟩

theorem witness_CoolerModeTaken :
    Sent [.proc] 9 (req .proc (be8 0 ++ be16 0 ++ be16 0 ++ be16 0 ++ be16 300)) State.reset ∧
    Sent [.proc] 1 (req .proc [0x01#8]) State.reset ∧ u8 [0x02#8] 0 ≠ 0x01 ∧ u8 [0x01#8] 0 = 0x01 ∧ State.reset.cooler.mode = .manual :=
  ⟨sent (by decide), sent (by decide), by decide, by decide, by decide⟩

theorem witness_CoolerModeTaken_neither :
    Sent [.proc] 9 (req .proc [2, 0, 0, 0, 0, 0, 0, 0, 0]) State.reset ∧ u8 [2, 0, 0, 0, 0, 0, 0, 0, 0] 0 ≠ 0x00 ∧
    u8 [1, 0, 0, 0, 0, 0, 0, 0, 0] 0 = 0x01 ∧ State.reset.cooler.sections[(3 : Fin 4)].stalled = false :=
  ⟨sent (by decide), by decide, by decide, by decide⟩

/-- AUTO with the slot fresh or stale, under the stop cause or not; the pressure reached at smax with the count below the
holdback time and at it, and not reached; a cause standing, at the target and below it. -/
theorem witness_CoolerPeriodTaken :
    (let s := coolerAt 70 160 9 false
     let next (s : State) := (after s (exec .coolerPeriod s)).cooler
     (s.cooler.mode = .auto ∧ s.cooler.stopContacts = [] ∧ (s.slot s.cooler.settings.slot).isStale = false ∧
       (State.reset.slot 0).isStale = true ∧ State.reset.cooler.mode = .manual ∧ (stopReported 17 s).cooler.stopContacts ≠ []) ∧
     (((next s).sections[0].output = s.cooler.sections[0].smax ∧ s.cooler.settings.holdbackTime ≤ min 300 (s.cooler.pressureCount + 1)) ∧
       min 300 ((coolerAt 70 160 8 false).cooler.pressureCount + 1) < (coolerAt 70 160 8 false).cooler.settings.holdbackTime) ∧
     ((next (coolerAt 69 160 0 false)).pressureCount = 0 ∧ (coolerAt 55 160 0 true).cooler.pressureCause = true ∧
       (next (coolerAt 54 160 0 true)).pressureCause = false)) := by decide

theorem witness_CoolerCausesStand :
    (let s := { State.reset with cooler := { State.reset.cooler with sections := State.reset.cooler.sections.set 0 ⟨0, 9, 1, 9, 9, some 0, false⟩ } }
     let t := after s (exec (.stallTimerExpiry 0) s)
     (s.cooler.sections[0].output ≠ 0 ∧ s.cooler.sections[0].stall ≠ none ∧ t.cooler.sections[0].stalled = true ∧
       s.cooler.holdback = false ∧ (refreshHoldback { s with cooler := { s.cooler with stallCause := true } }).cooler.holdback = true) ∧
     (t.cooler.holdback = true ∧ (refreshHoldback { t with cooler := { t.cooler with stallCause := false } }).cooler.holdback = false ∧
       (refreshHoldback s).cooler.holdback = s.cooler.holdback)) := by decide

/-- A stalled and an unstalled section, a driven and an idle one, a stopped stall timer. -/
theorem witness_CoolerCausesStand_stroke :
    (let s := coolerAt 54 152 0 false
     s.cooler.sections[(0 : Fin 4)].stall = none ∧ s.cooler.sections[(0 : Fin 4)].output ≠ 0 ∧
       State.reset.cooler.sections[(3 : Fin 4)].output = 0 ∧ State.reset.cooler.sections[(3 : Fin 4)].stalled = false) := by
  decide

/-- A contact with slow scan at a scan that samples it and at one that does not, an agreeing sample, a differing one short of
the debounce, and the one that reaches it. -/
theorem witness_ContactScanDebounces :
    (let s := State.reset.modContact 5 fun c => { c with slow := true, count := 3 }
     ((s.contact 5).slow = true ∧ (s.scanCount + 1) % 4 ≠ 0 ∧ ({ s with scanCount := 3 }.scanCount + 1) % 4 = 0 ∧ (s.contact 4).slow = false) ∧
     (Level.closed = (s.contact 4).accepted ∧ Level.opened ≠ (s.contact 4).accepted ∧
       (s.contact 4).count + 1 < (s.contact 4).debounce ∧ (s.contact 5).debounce ≤ (s.contact 5).count + 1)) := by decide

/-- A sample at the debounce of a forced contact and of one not forced, away from the normal state and back to it. -/
theorem witness_ContactScanDebounces_accepted :
    (let c (forced : Bool) := (guarded State.reset forced).contact 5
     (c true).forced = true ∧ (c false).forced = false ∧ Level.closed ≠ (c false).accepted ∧ Level.closed = (c false).normal ∧
       Level.opened ≠ (State.reset.contact 5).accepted ∧ Level.opened ≠ (State.reset.contact 5).normal) := by decide

/-- Contact 17 with role COOLER_STOP. -/
def stopContact : State := State.reset.modContact 17 fun c => { c with role := .coolerStop }

theorem witness_ContactRolesAct :
    ((State.reset.contact 0).role = .none ∧ (stopContact.contact 17).role = .coolerStop ∧ (holdoffs.contact 5).role = .streamInterlock) ∧
    ((holdoffs.contact 5).mask.getLsbD (0 : Fin 8).val = true ∧ (holdoffs.stream 0).state.burning = true ∧
      (holdoffs.contact 5).mask.getLsbD (3 : Fin 8).val = false) ∧
    ((17 : Fin 24) ∉ stopContact.cooler.stopContacts ∧ (17 : Fin 24) ∈ (stopReported 17 stopContact).cooler.stopContacts ∧
      (stopReported 17 stopContact).cooler.mode = .manual) ∧
    ((State.reset.modContact 1 fun c => { c with role := .alarm }).contact 1).role = .alarm := by decide

/-- A SET_CONTACT body: contact, role, normal state, priority, mask, debounce, slow scan. -/
def contactBody (k role debounce : Nat) : List Byte := be8 k ++ be8 role ++ be8 1 ++ be8 3 ++ be8 1 ++ be8 debounce ++ be8 1

theorem witness_SetContactComparesOldAndNew :
    Sent [.safe] 7 (req .safe (contactBody 23 2 8)) State.reset ∧ 23 < u8 (contactBody 24 2 8) 0 ∧
    roleOf (u8 (contactBody 23 4 8) 1) = none ∧ u8 (contactBody 23 2 1) 5 < 2 ∧ 8 < u8 (contactBody 23 2 9) 5 ∧
    roleOf (u8 (contactBody 23 2 8) 1) = some .streamInterlock ∧ levelOf (u8 (contactBody 23 2 8) 2) = some .closed ∧
    priorityOf (u8 (contactBody 23 2 8) 3) = some .p3 ∧ u8 (contactBody 23 2 8) 6 ≤ 1 ∧
    ((guarded (inState .firing) true).contact 5).forced = true ∧ MasksBurning (inState .firing) 0x01#8 ∧
    ¬MasksBurning (inState .ready) 0x01#8 :=
  ⟨sent (by decide), by decide, by decide, by decide, by decide, by decide, by decide, by decide, by decide, by decide,
    by unfold MasksBurning; decide, by unfold MasksBurning; decide⟩

/-- The condition due and not standing, standing and no longer due, and unchanged; a stop that begins, ends and stays. -/
theorem witness_SetContactComparesOldAndNew_due :
    (let old := (guarded State.reset false).contact 5
     let stop := (stopContact.modContact 17 fun c => { c with accepted := .opened, cond := true }).contact 17
     (old.cond = false ∧ old.forced = false ∧ old.reading ≠ old.normal ∧ (State.reset.contact 5).cond = false ∧
       (State.reset.contact 5).reading = (State.reset.contact 5).normal) ∧
     (stop.role = .coolerStop ∧ stop.reading ≠ stop.normal ∧ stop.cond = true ∧ stop.accepted ≠ stop.normal)) := by decide

theorem witness_ForceHeldAndLifted :
    Sent [.desk] 1 (req .desk [0x05#8]) (guarded (inState .ready) false) ∧ 23 < u8 [0x18#8] 0 ∧
    MasksBurning (guarded (inState .firing) false) ((guarded (inState .firing) false).contact 5).mask ∧
    ¬MasksBurning (guarded (inState .ready) true) ((guarded (inState .ready) true).contact 5).mask ∧
    ((guarded (inState .ready) true).contact 5).forced = true ∧ ((guarded (inState .ready) false).contact 5).forced = false ∧
    ((guarded (inState .ready) false).contact 5).accepted ≠ ((guarded (inState .ready) false).contact 5).normal ∧
    (stopContact.contact 17).accepted = (stopContact.contact 17).normal :=
  ⟨sent (by decide), by decide, by unfold MasksBurning; decide, by unfold MasksBurning; decide, by decide, by decide, by decide,
    by decide⟩

/-- A present code, shelved and not; an absent one with room; a full list with and without a candidate; both modes of the
first-out record. -/
theorem witness_RaiseActsByEntry :
    ((withList list2).au.find (.measStale 2) = some (entry (.measStale 2) .p3 .activeUnack true)) ∧
    ((withList [entry .safeLink .p2 .shelved true]).au.find .safeLink = some (entry .safeLink .p2 .shelved true)) ∧
    ((withList list2).au.find .safeLink = none ∧ (withList list2).au.list.length < 64) ∧
    ((withList fullList).au.find (.streamTrip 0) = none ∧ 64 ≤ (withList fullList).au.list.length) ∧
    (∃ e ∈ (withList fullList).au.list, Priority.p3.num ≤ e.priority.num) ∧
    (∀ e ∈ (withList (fullList.map fun e => { e with priority := .p1 })).au.list, e.priority.num < Priority.p3.num) ∧
    (State.reset.au.firstOut.captured = none ∧ State.reset.au.firstOut.mode = .trip) ∧
    (trip 0 .noFlow (inState .firing)).au.firstOut.captured ≠ none :=
  ⟨by decide, by decide, by decide, by decide, by decide, by decide, by decide, by decide⟩

/-- One entry of SAFE_LINK in a state. -/
def oneEntry (x : EntryState) (active : Bool) : State := withList [entry .safeLink .p2 x active]

theorem witness_ClearsAndAcknowledgements :
    (State.reset.au.find .safeLink = none ∧
      (oneEntry .activeUnack true).au.find .safeLink = some (entry .safeLink .p2 .activeUnack true) ∧
      (oneEntry .activeAck true).au.find .safeLink = some (entry .safeLink .p2 .activeAck true) ∧
      (oneEntry .shelved true).au.find .safeLink = some (entry .safeLink .p2 .shelved true) ∧
      (oneEntry .shelved false).au.find .safeLink = some (entry .safeLink .p2 .shelved false) ∧
      (oneEntry .clearedUnack false).au.find .safeLink = some (entry .safeLink .p2 .clearedUnack false)) ∧
    (alarmCodeOf 0x04 0x00 = some .safeLink ∧ alarmCodeOf 0x04 0x01 = none ∧ alarmCodeOf 0x07 0x00 = none ∧
      alarmCodeOf 0x07 0x04 = some (.sectionStalled 3) ∧ alarmCodeOf 0x0B 0x00 = none) ∧
    Sent [.proc, .desk] 2 (req .proc [0x04#8, 0x00#8]) State.reset ∧ Sent [.desk] 0 (req .desk []) State.reset :=
  ⟨by decide, by decide, sent (by decide), sent (by decide)⟩

theorem witness_ShelfBeginsAndEnds :
    Sent [.desk] 4 (req .desk [0x04#8, 0x00#8, 0x01#8, 0xE0#8]) (oneEntry .activeUnack true) ∧
    (u16 [0x04#8, 0x00#8, 0x01#8, 0xE0#8] 2 = 480 ∧ u16 [0x04#8, 0x00#8, 0x00#8, 0x01#8] 2 = 1 ∧
      u16 [0x04#8, 0x00#8, 0x00#8, 0x00#8] 2 < 1 ∧ 480 < u16 [0x04#8, 0x00#8, 0x01#8, 0xE1#8] 2) ∧
    ((withList [entry .safeLink .p1 .activeUnack true]).au.find .safeLink = some (entry .safeLink .p1 .activeUnack true) ∧
      (oneEntry .activeUnack true).au.find .safeLink = some (entry .safeLink .p2 .activeUnack true)) ∧
    Sent [.desk] 2 (req .desk [0x04#8, 0x00#8]) (oneEntry .shelved false) ∧
    ((oneEntry .shelved false).au.find .safeLink = some (entry .safeLink .p2 .shelved false) ∧
      (oneEntry .shelved true).au.find .safeLink = some (entry .safeLink .p2 .shelved true)) :=
  ⟨sent (by decide), by decide, by decide, sent (by decide), by decide⟩

theorem witness_SilenceAndFirstoutTaken :
    Sent [.desk] 0 (req .desk []) State.reset ∧ Sent [.desk] 1 (req .desk [0x01#8]) State.reset ∧
    (State.reset.au.hornBTimer = none ∧ (withList list2).au.hornBTimer ≠ none ∧ (withList list2).au.hornB = .onHalf ∧
      (after (withList list2) (exec .hornBIntervalExpiry (withList list2))).au.hornB = .offHalf) ∧
    (1 < u8 [0x02#8] 0 ∧ u8 [0x01#8] 0 ≤ 1 ∧ State.reset.au.firstOut.captured = none ∧
      (trip 0 .noFlow (inState .firing)).au.firstOut.captured ≠ none) :=
  ⟨sent (by decide), sent (by decide), by decide, by decide⟩

theorem witness_ClockAndTableLoaded :
    Sent [.desk] 5 (req .desk (be16 65535 ++ be24 86399)) State.reset ∧
    (u24 (be16 65535 ++ be24 86399) 2 ≤ 86399 ∧ 86399 < u24 (be16 0 ++ be24 86400) 2) ∧
    (be8 2 ++ be32 0 ++ be32 86399 = be8 [0, 86399].length ++ [0, 86399].flatMap be32 ∧ [0, 86399].length ≤ 4 ∧
      (∀ x ∈ [0, 86399], x ≤ 86399) ∧ [0, 86399].Pairwise (· < ·)) ∧
    (¬∃ times : List Nat, [] = be8 times.length ++ times.flatMap be32 ∧ times.length ≤ 4 ∧ (∀ x ∈ times, x ≤ 86399) ∧
      times.Pairwise (· < ·)) ∧
    (req .proc []).link ≠ .desk ∧ (State.reset.link .proc).abandoned = none :=
  ⟨sent (by decide), by decide, by decide, by simp [be8], by decide, by decide⟩

theorem witness_CloseBooksShift :
    Sent [.desk] 0 (req .desk []) State.reset ∧ State.reset.su.shift.number ≠ 4294967295 ∧
    (State.reset.modShift fun o => { o with number := 4294967295 }).su.shift.number = 4294967295 ∧
    ((∃ i, (books57.stream i).limits.site = .main ∧ (books57.stream i).state = .firing) ∧
      (∀ i, (State.reset.stream i).limits.site = .main → (State.reset.stream i).state ≠ .firing)) ∧
    (32400 ∈ books57.su.changeTimes ∧ books57.su.shift.number < 4294967295 ∧ 1 ∉ State.reset.su.changeTimes) :=
  ⟨sent (by decide), by decide, by decide, by decide, by decide⟩

/-- The machine after reset meets every invariant but `ResetIsSound`'s whole, of which the parts that the invariants below
take as hypotheses are shown here. -/
theorem witness_StepKeepsSound :
    AlarmSound State.reset.au ∧ HistorySound State.reset.su ∧ CoolerSound State.reset.cooler ∧ SlotsSound State.reset ∧
      ∃ t, step State.reset = .next t :=
  ⟨⟨by decide, by decide, fun _ h => (List.not_mem_nil h).elim, by decide, by decide, by decide, by decide⟩, ⟨by decide, by decide, by decide⟩,
    ⟨fun n => ⟨by revert n; decide⟩, by decide, by decide, by decide, by decide, fun _ => ⟨by decide, fun _ => by decide⟩⟩,
    fun n => ⟨by revert n; decide, by revert n; decide, by revert n; decide⟩, _, rfl⟩

theorem witness_StepKeepsStreamsSound_word : WordSound State.reset := by
  simp only [WordSound, State.reset]

theorem witness_StepKeepsStreamsSound : StreamsSound State.reset :=
  fun i => ⟨⟨by revert i; decide, by revert i; decide⟩, by revert i; decide, by revert i; decide, by revert i; decide,
    fun _ => by revert i; decide, by revert i; decide, by revert i; decide, by revert i; decide,
    fun h => by revert h; revert i; decide, by revert i; decide, by revert i; decide⟩

theorem witness_StepKeepsOffersSound : CutsSound State.reset :=
  ⟨fun k => ⟨by revert k; decide, by revert k; decide, by revert k; decide⟩,
    fun x => ⟨by cases x <;> decide, by cases x <;> rfl, by cases x <;> decide, by cases x <;> decide⟩⟩

theorem witness_StepKeepsContactsSound : ContactsSound State.reset ∧ ForcesSound State.reset :=
  ⟨⟨fun k => ⟨fun _ => by revert k; decide, by revert k; decide, by revert k; decide, by revert k; decide⟩, by decide⟩,
    ⟨fun k _ => by revert k; decide, fun k i h => absurd h (by revert k; decide)⟩⟩

end Sys2Proof.Tests
end

section
/-! PROOFS. Taking a request: every row of the command table is opened, checked and answered by `takeRequest`, whatever
its own meaning, so what a refused, abandoned or completed request does is proved once for all rows (R4 to R8, R15). -/

namespace Sys2Proof.Machine

/-! ### The rows that carry a request -/

/-- A command of the table is taken by `takeRequest` on its row of R176. -/
theorem exec_eq_takeRequest {c : Instr} {row : CommandRow} {r : Request} (hrow : c.commandRow = some row)
    (hr : c.request = some r) : ∃ act, ∀ s, exec c s = takeRequest row r act s := by
  cases c <;> cases hrow <;> cases hr <;> exact ⟨_, fun _ => rfl⟩

/-- A well-formed request carries a body that a good frame can hold (R2). -/
theorem body_le_of_wellFormed {c : Instr} {r : Request} (hc : c.wellFormed = true) (hr : c.request = some r) :
    r.body.length ≤ 60 := by
  cases c
  case unknownCmd | coolerModeManual | coolerModeAuto | flameProven | flameLost =>
    exact Laws.body_le_of_fits_and _ _ hc _ hr
  case powerOnReset | frameErr | massPulse | strokePulse | dosingPeriodExpiry | noFlowReport | lightingTimerExpiry |
      safeLinkTimerExpiry | calWindowTimeout | staleTimerExpiry | delayTimerExpiry | coolerPeriod | stallTimerExpiry |
      contactScan | shelfExpiry | hornBIntervalExpiry | clockAdvance | abandonedTransfer =>
    cases hr
  all_goals exact Laws.body_le_of_fits _ hc _ hr

/-! ### Every command completes -/

/-- The operands of a request decide whether it is refused as no transfer's; its state does not. -/
theorem takeRequest_completes (row : CommandRow) {r : Request} (act : State → Reply) (s : State)
    (fits : r.body.length ≤ 60) : ∃ t, takeRequest row r act s = .next t := by
  unfold takeRequest
  rw [if_neg (by omega)]
  split <;> exact ⟨_, rfl⟩

theorem execFrameErr_completes {l : Link} {bytes : List Byte} (s : State) (bad : parseFrame bytes = none) :
    ∃ t, execFrameErr l bytes s = .next t := by
  unfold execFrameErr
  rw [bad, if_neg (by decide)]
  split <;> exact ⟨_, rfl⟩

theorem execUnknownCmd_completes {code : Byte} {r : Request} (s : State) (fits : r.body.length ≤ 60)
    (unknown : knownCode code = false) : ∃ t, execUnknownCmd code r s = .next t := by
  unfold execUnknownCmd
  rw [if_neg (by simp [unknown, fits])]
  split <;> exact ⟨_, rfl⟩

/-- A timer, a pulse, a scan, a report or a power-on reset answers a next state on each of its paths. -/
theorem event_completes {c : Instr} (s : State) (hr : c.request = none) (hf : ∀ l b, c ≠ .frameErr l b)
    (ha : ∀ l b, c ≠ .abandonedTransfer l b) : ∃ t, exec c s = .next t := by
  cases c
  case powerOnReset | massPulse | strokePulse | dosingPeriodExpiry | contactScan => exact ⟨_, rfl⟩
  case noFlowReport i => simp only [exec, execNoFlowReport]; split <;> exact ⟨_, rfl⟩
  case lightingTimerExpiry i => simp only [exec, execLightingTimerExpiry]; split <;> exact ⟨_, rfl⟩
  case safeLinkTimerExpiry => simp only [exec, execSafeLinkTimerExpiry]; split <;> exact ⟨_, rfl⟩
  case calWindowTimeout i =>
    simp only [exec, execCalWindowTimeout]
    split
    · split <;> exact ⟨_, rfl⟩
    · exact ⟨_, rfl⟩
  case staleTimerExpiry n => simp only [exec, execStaleTimerExpiry]; split <;> exact ⟨_, rfl⟩
  case delayTimerExpiry k => simp only [exec, execDelayTimerExpiry]; split <;> exact ⟨_, rfl⟩
  case coolerPeriod =>
    simp only [exec, execCoolerPeriod]
    split
    · exact ⟨_, rfl⟩
    · split <;> exact ⟨_, rfl⟩
  case stallTimerExpiry n => simp only [exec, execStallTimerExpiry]; split <;> exact ⟨_, rfl⟩
  case shelfExpiry a =>
    simp only [exec, execShelfExpiry]
    split
    · split <;> exact ⟨_, rfl⟩
    · exact ⟨_, rfl⟩
  case hornBIntervalExpiry => simp only [exec, execHornBIntervalExpiry]; split <;> exact ⟨_, rfl⟩
  case clockAdvance => simp only [exec, execClockAdvance]; split <;> exact ⟨_, rfl⟩
  case frameErr l b => exact absurd rfl (hf l b)
  case abandonedTransfer l b => exact absurd rfl (ha l b)
  all_goals cases hr

/-- Every request is a row of the table or an UNKNOWN_CMD. -/
theorem Instr.row_or_unknownCmd {c : Instr} {r : Request} (hr : c.request = some r) :
    (∃ row, c.commandRow = some row) ∨ ∃ code, c = .unknownCmd code r := by
  cases c <;> cases hr
  case unknownCmd.refl code => exact .inr ⟨code, rfl⟩
  all_goals exact .inl ⟨_, rfl⟩

/-- Settles O4: requests complete by `takeRequest_completes`, whatever their row; events each by their own paths. -/
theorem wellFormedCommandCompletes : Obligations.WellFormedCommandCompletes := by
  intro c s hc hab
  cases hr : c.request with
  | some r =>
    have fits := body_le_of_wellFormed hc hr
    obtain ⟨row, hrow⟩ | ⟨code, rfl⟩ := Instr.row_or_unknownCmd hr
    · obtain ⟨act, hact⟩ := exec_eq_takeRequest hrow hr
      rw [hact]
      exact takeRequest_completes row act s fits
    · have unknown : knownCode code = false := by
        simpa using (Bool.and_eq_true_iff.mp hc).2
      exact execUnknownCmd_completes s fits unknown
  | none =>
    by_cases hf : ∃ l b, c = .frameErr l b
    · obtain ⟨l, b, rfl⟩ := hf
      exact execFrameErr_completes s (Option.isNone_iff_eq_none.mp hc)
    by_cases ha : ∃ l b, c = .abandonedTransfer l b
    · obtain ⟨l, b, rfl⟩ := ha
      refine ⟨endAbandoned l b.length s, ?_⟩
      simp only [exec, execAbandonedTransfer, Option.isSome_iff_ne_none.mpr (hab l b rfl), if_true]
    · exact event_completes s hr (fun l b e => hf ⟨l, b, e⟩) fun l b e => ha ⟨l, b, e⟩

/-! ### Requests that are refused -/

/-- Above 7 no stream and no slot has the number. -/
theorem index8_none {v : Nat} (h : 7 < v) : index8 v = none := by
  simp [index8, Nat.not_lt.mpr h]

theorem onStream_badIndex {body : List Byte} (act : Fin 8 → State → Reply) (s : State) (h : 7 < u8 body 0) :
    onStream body act s = .refuse .badIndex := by
  simp only [onStream, index8_none h]

theorem putMeas_badIndex {body : List Byte} (s : State) (h : 7 < u8 body 0) :
    putMeas body s = .refuse .badIndex := by
  simp only [putMeas, index8_none h]

theorem setMeasConfig_badIndex {body : List Byte} (s : State) (h : 7 < u8 body 0) :
    setMeasConfig body s = .refuse .badIndex := by
  simp only [setMeasConfig, index8_none h]

/-- The commands that name a stream in the first byte of their body (R36). -/
def onStreamCommands (r : Request) : List Instr :=
  [.readStream r, .readCal r, .setLimits r, .setPlan r, .setPoll r, .grant r, .revoke r, .light r, .flameProven r,
    .flameLost r, .hold r, .resume r, .stop r, .release r, .calStart r, .calStop r, .calAccept r, .calDiscard r]

/-- A command that names a stream makes nothing of a number above 7 but BAD_INDEX. -/
theorem onStreamCommands_badIndex {c : Instr} {row : CommandRow} {r : Request} (hc : c ∈ onStreamCommands r)
    (hrow : c.commandRow = some row) (h : 7 < u8 r.body 0) :
    ∃ act, (∀ s, exec c s = takeRequest row r act s) ∧ ∀ s, act s = .refuse .badIndex := by
  simp only [onStreamCommands, List.mem_cons, List.not_mem_nil, or_false] at hc
  obtain rfl | rfl | rfl | rfl | rfl | rfl | rfl | rfl | rfl | rfl | rfl | rfl | rfl | rfl | rfl | rfl | rfl | rfl := hc
  all_goals cases hrow; exact ⟨_, fun _ => rfl, fun s => onStream_badIndex _ s h⟩

/-- So does one that names a slot (R98, R99). -/
theorem slotCommands_badIndex {c : Instr} {row : CommandRow} {r : Request} (hc : c ∈ [.putMeas r, .setMeasConfig r])
    (hrow : c.commandRow = some row) (h : 7 < u8 r.body 0) :
    ∃ act, (∀ s, exec c s = takeRequest row r act s) ∧ ∀ s, act s = .refuse .badIndex := by
  obtain rfl | rfl := List.mem_pair.mp hc <;> cases hrow
  · exact ⟨_, fun _ => rfl, fun s => putMeas_badIndex s h⟩
  · exact ⟨_, fun _ => rfl, fun s => setMeasConfig_badIndex s h⟩

/-- Settles O9: checks 2 and 3 of R7 are those of `takeRequest` on the row, and the index is the first check behind
them. -/
theorem refusedRequestHasNoEffect : Obligations.RefusedRequestHasNoEffect := by
  intro c row r s hrow hr fits whole
  obtain ⟨act, hact⟩ := exec_eq_takeRequest hrow hr
  refine ⟨fun foreign => ?_, fun owner length => ?_, fun owner length high hc => ?_⟩
  · rw [hact, takeRequest_notOwner foreign fits whole]
  · rw [hact, takeRequest_range owner length fits whole]
  · have hc : c ∈ onStreamCommands r ++ [.putMeas r, .setMeasConfig r] := hc
    obtain ⟨act, hact, hbad⟩ := (List.mem_append.mp hc).elim (onStreamCommands_badIndex · hrow high)
      (slotCommands_badIndex · hrow high)
    rw [hact, takeRequest_sent owner length fits whole, hbad, settleReply_refuse]

/-! ### Bad frames, unknown codes and abandoned transfers -/

/-- The release that ends an abandoned transfer, with the bytes that had gone out before it (R15). -/
theorem endAbandoned_eq {l : Link} {out : List Byte} {s : State} (n : Nat) (h : (s.link l).abandoned = some out) :
    endAbandoned l n s =
      s.modLink l fun u => { u with lastOut := out ++ List.replicate n 0x00#8, abandoned := none } := by
  cases l <;> simp only [State.link] at h <;> simp [endAbandoned, State.modLink, h]

/-- A request on the link of an abandoned transfer is discarded, whatever its row. -/
theorem takeRequest_abandoned {row : CommandRow} {r : Request} {act : State → Reply} {out : List Byte} {s : State}
    (fits : r.body.length ≤ 60) (h : (s.link r.link).abandoned = some out) :
    takeRequest row r act s = .next (endAbandoned r.link (wireLength r) s) := by
  simp [takeRequest, h, Nat.not_lt.mpr fits]

theorem execFrameErr_whole {l : Link} {bytes : List Byte} {s : State} (bad : parseFrame bytes = none)
    (whole : (s.link l).abandoned = none) :
    execFrameErr l bytes s =
      .next (giveAnswer l (bytes.getD 0 0x00#8) .frameErr [] (shiftOut l bytes.length s)) := by
  simp [execFrameErr, bad, whole]

theorem execFrameErr_abandoned {l : Link} {bytes out : List Byte} {s : State} (bad : parseFrame bytes = none)
    (h : (s.link l).abandoned = some out) :
    execFrameErr l bytes s = .next (endAbandoned l bytes.length s) := by
  simp [execFrameErr, bad, h]

theorem execUnknownCmd_whole {code : Byte} {r : Request} {s : State} (unknown : knownCode code = false)
    (fits : r.body.length ≤ 60) (whole : (s.link r.link).abandoned = none) :
    execUnknownCmd code r s = .next (giveAnswer r.link code .unknownCmd [] (openRequest r s)) := by
  simp [execUnknownCmd, unknown, whole, Nat.not_lt.mpr fits]

theorem execUnknownCmd_abandoned {code : Byte} {r : Request} {out : List Byte} {s : State}
    (unknown : knownCode code = false) (fits : r.body.length ≤ 60) (h : (s.link r.link).abandoned = some out) :
    execUnknownCmd code r s = .next (endAbandoned r.link (wireLength r) s) := by
  simp [execUnknownCmd, unknown, h, Nat.not_lt.mpr fits]

/-- Settles O10: each kind of transfer by whether a reset abandoned the one on its link. -/
theorem badTransfersTaken : Obligations.BadTransfersTaken := by
  refine ⟨⟨?frameErr, ?unknown⟩, ?released, ?anyRow, ?unknownAbandoned, ?frameErrAbandoned⟩
  case frameErr => exact fun l bytes s bad whole => ⟨execFrameErr_whole bad whole, rfl⟩
  case unknown => exact fun code r s unknown fits whole => execUnknownCmd_whole unknown fits whole
  case released =>
    intro l bytes out s h
    refine ⟨endAbandoned l bytes.length s, ?_, endAbandoned_eq _ h, ?_⟩
    · simp [exec, execAbandonedTransfer, h]
    · simp [endAbandoned]
  case anyRow =>
    intro c row r out s hrow hr fits h
    obtain ⟨act, hact⟩ := exec_eq_takeRequest hrow hr
    rw [hact, takeRequest_abandoned fits h, endAbandoned_eq _ h]
    rfl
  case unknownAbandoned =>
    intro code r out s unknown fits h
    exact (execUnknownCmd_abandoned unknown fits h).trans (congrArg _ (endAbandoned_eq _ h))
  case frameErrAbandoned =>
    intro l bytes out s bad h
    exact (execFrameErr_abandoned bad h).trans (congrArg _ (endAbandoned_eq _ h))

end Sys2Proof.Machine
end

section
/-! PROOFS. Frames: the CRC-8 of a whole frame (R3), and the frame checks of R2 and the rows of R176 as the inverse of
writing a frame (R174). -/

namespace Sys2Proof.Machine

/-! ### The CRC-8 of a whole frame -/

/-- A byte that meets itself in the CRC register leaves it 0. -/
theorem crc8Byte_self (b : Byte) : crc8Byte b b = 0x00#8 := by
  simp only [crc8Byte, BitVec.xor_self]
  decide

/-- Bytes followed by their own CRC-8 have CRC-8 0 (R3, note 1). -/
theorem crc8_append_crc8 (bytes : List Byte) : crc8 (bytes ++ [crc8 bytes]) = 0x00#8 := by
  have h : crc8 (bytes ++ [crc8 bytes]) = crc8Byte (crc8 bytes) (crc8 bytes) := by
    simp only [crc8, List.foldl_append, List.foldl_cons, List.foldl_nil]
  rw [h, crc8Byte_self]

/-- Settles O6: answers and request frames both end in the CRC-8 of the bytes before it. -/
theorem wholeFrameCrcIsZero : Obligations.WholeFrameCrcIsZero :=
  ⟨fun a => crc8_append_crc8 a.head, fun _ _ => crc8_append_crc8 _⟩

/-! ### The frame checks -/

/-- The bytes after the length byte of a frame: its body, one CRC byte, and the bytes behind the frame. -/
theorem parseFrame_cons_cons (code len : Byte) (rest : List Byte) :
    parseFrame (code :: len :: rest) =
      if 60 < len.toNat then none
      else if rest.length < len.toNat + 1 then none
      else if rest.getD len.toNat 0 = crc8 (code :: len :: rest.take len.toNat) then
        some (code, rest.take len.toNat, rest.drop (len.toNat + 1))
      else none := rfl

/-- A written frame passes the frame checks, whatever stands behind it. -/
theorem parseFrame_frameBytes (code : Byte) {body : List Byte} (tail : List Byte) (fits : body.length ≤ 60) :
    parseFrame (frameBytes code body ++ tail) = some (code, body, tail) := by
  have hlen : (BitVec.ofNat 8 body.length).toNat = body.length := by
    simp only [BitVec.toNat_ofNat]; omega
  have hbytes : frameBytes code body ++ tail = code :: BitVec.ofNat 8 body.length ::
      (body ++ crc8 (code :: BitVec.ofNat 8 body.length :: body) :: tail) := by
    simp [frameBytes]
  rw [hbytes, parseFrame_cons_cons, hlen, if_neg (by omega), if_neg (by simp)]
  simp

/-- The frame checks pass nothing but a written frame with a body of at most 60 bytes, and lose no byte of it. -/
theorem frameBytes_of_parseFrame {bytes : List Byte} {code : Byte} {body tail : List Byte}
    (h : parseFrame bytes = some (code, body, tail)) :
    body.length ≤ 60 ∧ bytes = frameBytes code body ++ tail := by
  match bytes with
  | [] => cases h
  | [_] => cases h
  | c :: len :: rest =>
    rw [parseFrame_cons_cons] at h
    split at h
    · cases h
    split at h
    · cases h
    split at h
    · rename_i hle hlong hcrc
      cases h
      have hbody : (rest.take len.toNat).length = len.toNat := by rw [List.length_take]; omega
      have hrest : rest = rest.take len.toNat ++ rest.getD len.toNat 0 :: rest.drop (len.toNat + 1) := by
        rw [List.getD_eq_getElem _ _ (by omega), List.getElem_cons_drop, List.take_append_drop]
      refine ⟨by omega, ?_⟩
      conv_lhs => rw [hrest, hcrc]
      simp [frameBytes, hbody]
    · cases h

/-! ### The rows of the command table -/

/-- The rows that decoding looks through are those of R176, in its order. -/
theorem map_fst_requestRows (t : Transfer) : (requestRows t).map Prod.fst = commandTable := rfl

/-- No two rows of R176 have the same code. -/
theorem commandTable_codes_nodup : (commandTable.map CommandRow.code).Nodup := by decide

theorem requestRows_codes_nodup (t : Transfer) : ((requestRows t).map fun p => p.1.code).Nodup := by
  have h : (requestRows t).map (fun p => p.1.code) = commandTable.map CommandRow.code := by
    rw [← map_fst_requestRows t, List.map_map]; rfl
  rw [h]
  exact commandTable_codes_nodup

/-- A good frame with the code of a row stands for that row's command. -/
theorem requestOf_of_mem {t : Transfer} {p : CommandRow × (Request → Instr)} (hp : p ∈ requestRows t) (r : Request) :
    requestOf t p.1.code r = p.2 r := by
  have hsome : ((requestRows t).find? fun q => q.1.code == p.1.code).isSome := by
    rw [List.find?_isSome]
    exact ⟨p, hp, beq_self_eq_true _⟩
  obtain ⟨q, hq⟩ := Option.isSome_iff_exists.mp hsome
  have hcode : q.1.code = p.1.code := by simpa using List.find?_some hq
  have hqp : q = p :=
    List.inj_on_of_nodup_map (requestRows_codes_nodup t) (List.mem_of_find?_eq_some hq) hp hcode
  rw [requestOf, hq, hqp]

/-- A good frame with a code of no row is UNKNOWN_CMD. -/
theorem requestOf_unknown {code : Byte} (t : Transfer) (r : Request) (unknown : knownCode code = false) :
    requestOf t code r = .unknownCmd code r := by
  have hnone : ((requestRows t).find? fun q => q.1.code == code) = none := by
    rw [List.find?_eq_none]
    intro q hq
    have hrow : q.1 ∈ commandTable := map_fst_requestRows t ▸ List.mem_map_of_mem hq
    have := List.any_eq_false.mp unknown q.1 hrow
    simpa using this
  rw [requestOf, hnone]

/-- A code that R176 lists is the code of some row. -/
theorem exists_row_of_knownCode {code : Byte} (t : Transfer) (known : knownCode code = true) :
    ∃ p ∈ requestRows t, p.1.code = code := by
  obtain ⟨row, hrow, hcode⟩ := List.any_eq_true.mp known
  rw [← map_fst_requestRows t] at hrow
  obtain ⟨p, hp, rfl⟩ := List.mem_map.mp hrow
  exact ⟨p, hp, by simpa using hcode⟩

/-- What decoding a row gives: its own command, carrying the request, well-formed with it, and naming the transfers in
progress where it is FULL_RESET. -/
structure CarriesRow (t : Transfer) (r : Request) (row : CommandRow) (c : Instr) : Prop where
  row : c.commandRow = some row
  request : c.request = some r
  wellFormed : r.fits = true → c.wellFormed = true
  busy : t.procBusy = none → t.deskBusy = none → c.busy = (none, none)

theorem coolerMode_carries (t : Transfer) (r : Request) :
    CarriesRow t r Cmd.coolerMode (if saysAuto r.body then .coolerModeAuto r else .coolerModeManual r) := by
  cases h : saysAuto r.body
  · exact ⟨rfl, rfl, fun hf => by simp [Instr.wellFormed, hf, h], fun _ _ => rfl⟩
  · exact ⟨rfl, rfl, fun hf => by simp [Instr.wellFormed, hf, h], fun _ _ => rfl⟩

theorem flame_carries (t : Transfer) (r : Request) :
    CarriesRow t r Cmd.flame (if saysLost r.body then .flameLost r else .flameProven r) := by
  cases h : saysLost r.body
  · exact ⟨rfl, rfl, fun hf => by simp [Instr.wellFormed, hf, h], fun _ _ => rfl⟩
  · exact ⟨rfl, rfl, fun hf => by simp [Instr.wellFormed, hf, h], fun _ _ => rfl⟩

theorem fullReset_carries (t : Transfer) (r : Request) :
    CarriesRow t r Cmd.fullReset (.fullReset r t.procBusy t.deskBusy) :=
  ⟨rfl, rfl, id, fun hp hd => by simp [Instr.busy, hp, hd]⟩

/-- Each row of R176 stands for a command that carries it. -/
theorem requestRows_carry (t : Transfer) (r : Request) : ∀ p ∈ requestRows t, CarriesRow t r p.1 (p.2 r) := by
  simp only [requestRows, List.forall_mem_append, List.forall_mem_cons, coolerMode_carries, flame_carries,
    fullReset_carries, List.not_mem_nil, false_imp_iff, implies_true, true_and, and_true]
  and_intros
  all_goals exact ⟨rfl, rfl, id, fun _ _ => rfl⟩

/-- The row of a well-formed command, with the transfers in progress that it names, stands for that command. -/
theorem requestOf_commandRow {i : Instr} {row : CommandRow} {r : Request} {t : Transfer} (hi : i.wellFormed = true)
    (hrow : i.commandRow = some row) (hr : i.request = some r) (hp : t.procBusy = i.busy.1)
    (hd : t.deskBusy = i.busy.2) : requestOf t row.code r = i := by
  have cooler : requestOf t Cmd.coolerMode.code r =
      if saysAuto r.body then .coolerModeAuto r else .coolerModeManual r := rfl
  have flame : requestOf t Cmd.flame.code r = if saysLost r.body then .flameLost r else .flameProven r := rfl
  have reset : requestOf t Cmd.fullReset.code r = .fullReset r t.procBusy t.deskBusy := rfl
  cases i <;> cases hrow <;> cases hr
  case coolerModeManual | coolerModeAuto => simp_all [Instr.wellFormed]
  case flameProven | flameLost => simp_all [Instr.wellFormed]
  case fullReset => rw [reset, hp, hd]; rfl
  all_goals rfl

/-! ### Writing a row and reading it back -/

/-- The transfer of a row is its frame with the bytes behind it. -/
theorem transferOf_of_row {i : Instr} {row : CommandRow} {r : Request} (hrow : i.commandRow = some row)
    (hr : i.request = some r) :
    transferOf i = some ⟨r.link, frameBytes row.code r.body ++ r.tail, i.busy.1, i.busy.2⟩ := by
  unfold transferOf
  split
  · cases hrow
  · cases hrow
  · simp only [hrow, hr]

/-- Only a bad frame, an unknown code and a row of the table are carried by a transfer. -/
theorem transferOf_cases {i : Instr} {t : Transfer} (h : transferOf i = some t) :
    (∃ l bytes, i = .frameErr l bytes) ∨ (∃ code r, i = .unknownCmd code r) ∨
      ∃ row r, i.commandRow = some row ∧ i.request = some r := by
  cases i
  case frameErr l bytes => exact .inl ⟨l, bytes, rfl⟩
  case unknownCmd code r => exact .inr (.inl ⟨code, r, rfl⟩)
  case powerOnReset | massPulse | strokePulse | dosingPeriodExpiry | noFlowReport | lightingTimerExpiry |
      safeLinkTimerExpiry | calWindowTimeout | staleTimerExpiry | delayTimerExpiry | coolerPeriod | stallTimerExpiry |
      contactScan | shelfExpiry | hornBIntervalExpiry | clockAdvance | abandonedTransfer =>
    cases h
  all_goals exact .inr (.inr ⟨_, _, rfl, rfl⟩)

theorem decodeTransfer_good {t : Transfer} {code : Byte} {body tail : List Byte}
    (h : parseFrame t.bytes = some (code, body, tail)) : decodeTransfer t = requestOf t code ⟨t.link, body, tail⟩ := by
  rw [decodeTransfer, h]

theorem decodeTransfer_bad {t : Transfer} (h : parseFrame t.bytes = none) :
    decodeTransfer t = .frameErr t.link t.bytes := by
  rw [decodeTransfer, h]

/-- Decoding the transfer of a well-formed command gives the command back. -/
theorem decodeTransfer_transferOf {i : Instr} {t : Transfer} (hi : i.wellFormed = true) (h : transferOf i = some t) :
    decodeTransfer t = i := by
  obtain ⟨l, bytes, rfl⟩ | ⟨code, r, rfl⟩ | ⟨row, r, hrow, hr⟩ := transferOf_cases h
  · cases h
    exact decodeTransfer_bad (Option.isNone_iff_eq_none.mp hi)
  · cases h
    have unknown : knownCode code = false := by simpa using (Bool.and_eq_true_iff.mp hi).2
    rw [decodeTransfer_good (parseFrame_frameBytes code r.tail (body_le_of_wellFormed hi rfl)),
      requestOf_unknown _ _ unknown]
  · rw [transferOf_of_row hrow hr] at h
    cases h
    rw [decodeTransfer_good (parseFrame_frameBytes row.code r.tail (body_le_of_wellFormed hi hr)),
      requestOf_commandRow hi hrow hr rfl rfl]

/-- Every transfer decodes to a well-formed command, and writing that command gives the transfer back. -/
theorem transferOf_decodeTransfer (t : Transfer) : (decodeTransfer t).wellFormed = true ∧
    (t.procBusy = none → t.deskBusy = none → transferOf (decodeTransfer t) = some t) := by
  obtain ⟨l, bytes, p, d⟩ := t
  cases hparse : parseFrame bytes with
  | none =>
    rw [decodeTransfer_bad hparse]
    refine ⟨Option.isNone_iff_eq_none.mpr hparse, ?_⟩
    rintro rfl rfl
    rfl
  | some parts =>
    obtain ⟨code, body, tail⟩ := parts
    obtain ⟨hle, rfl⟩ := frameBytes_of_parseFrame hparse
    have fits : Request.fits ⟨l, body, tail⟩ = true := decide_eq_true hle
    rw [decodeTransfer_good hparse]
    cases hknown : knownCode code with
    | false =>
      rw [requestOf_unknown _ _ hknown]
      refine ⟨by simp [Instr.wellFormed, fits, hknown], ?_⟩
      rintro rfl rfl
      rfl
    | true =>
      obtain ⟨row, hrow, rfl⟩ := exists_row_of_knownCode ⟨l, frameBytes code body ++ tail, p, d⟩ hknown
      have carries := requestRows_carry _ ⟨l, body, tail⟩ row hrow
      rw [requestOf_of_mem hrow]
      refine ⟨carries.wellFormed fits, ?_⟩
      intro hp hd
      rw [transferOf_of_row carries.row carries.request, carries.busy hp hd]
      cases hp
      cases hd
      rfl

/-- Settles O5, by both directions. -/
theorem transfersDecodeAndEncode : Obligations.TransfersDecodeAndEncode :=
  ⟨fun _ _ hi h => decodeTransfer_transferOf hi h, transferOf_decodeTransfer⟩

end Sys2Proof.Machine
end

section
/-! PROOFS. The link units: opening a request and forming its answer (R1, R4 to R6, R9), and the commands that act on the
flags of their own link (R7, R11 to R14). -/

namespace Sys2Proof.Machine

/-! ### Link units and summaries -/

/-- A change of a link unit is known by what it makes of that unit as it stands. -/
theorem State.modLink_congr {l : Link} {f g : LinkUnit → LinkUnit} {s : State} (h : f (s.link l) = g (s.link l)) :
    s.modLink l f = s.modLink l g := by
  cases l <;> simp only [State.link] at h <;> simp [State.modLink, h]

/-- The eight streams, in stream order. -/
theorem State.streams_toList (s : State) : s.streams.toList = all8.map s.stream := by
  apply List.ext_getElem
  · simp [all8]
  · intro n h1 h2
    have hn : n < 8 := by simpa using h1
    interval_cases n <;> rfl

theorem State.anyHoldoff_eq (s : State) : s.anyHoldoff = all8.any fun i => (s.stream i).state == .tripped := by
  rw [State.anyHoldoff, State.streams_toList, List.any_map]
  rfl

theorem HornB.sounding_eq (h : HornB) : h.sounding = (h != .silent) := by
  cases h <;> rfl

/-! ### Opening a request -/

theorem shiftOut_link (l : Link) (n : Nat) (s : State) (j : Link) :
    (shiftOut l n s).link j =
      if j = l then { s.link l with lastOut := shiftedOut (s.link l).answer.bytes n } else s.link j :=
  State.modLink_link l _ s j

/-- SAFE link activity reaches the link units with the NEWS of its clear alone (R58, R143). -/
theorem linkActivity_link (s : State) (j : Link) :
    (linkActivity s).link j =
      if s.safeHealthy then s.link j else (s.link j).setFactors (newsIf (s.au.clearChanges .safeLink)) := by
  unfold linkActivity
  split
  · cases j <;> rfl
  · rw [clearAlarm_link]
    cases j <;> rfl

/-- Besides the timer and the healthy flag, SAFE link activity touches the Alarm Unit and the link units alone. -/
theorem linkActivity_frame (s : State) :
    linkActivity s =
      { s with
        safeTimer := (linkActivity s).safeTimer
        safeHealthy := true
        au := (linkActivity s).au
        procLink := (linkActivity s).procLink
        safeLink := (linkActivity s).safeLink
        deskLink := (linkActivity s).deskLink } := by
  cases h : s.safeHealthy
  · simp only [linkActivity, h, Bool.false_eq_true, if_false]
    rfl
  · simp only [linkActivity, h, if_true]

theorem openRequest_lastOut (r : Request) (s : State) :
    ((openRequest r s).link r.link).lastOut = shiftedOut (s.link r.link).answer.bytes (wireLength r) := by
  unfold openRequest
  split
  · rw [linkActivity_link]
    split <;> simp [shiftOut_link, LinkUnit.setFactors]
  · simp [shiftOut_link]

/-- On PROC and DESK the bytes shifted out are all that opening a request changes. -/
theorem openRequest_eq_modLink {r : Request} (s : State) (h : r.link ≠ .safe) :
    openRequest r s =
      s.modLink r.link fun u => { u with lastOut := ((openRequest r s).link r.link).lastOut } := by
  rw [openRequest_lastOut, openRequest_other s h, shiftOut]
  exact State.modLink_congr rfl

/-- On SAFE the link units change in the bytes shifted out there, and in NEWS where SAFE_LINK is cleared. -/
theorem openRequest_link_safe {r : Request} (s : State) (h : r.link = .safe) (l : Link) :
    (openRequest r s).link l =
      { s.link l with
        lastOut := if l = .safe then ((openRequest r s).link .safe).lastOut else (s.link l).lastOut
        factors :=
          { (s.link l).factors with
            news :=
              if s.safeHealthy then (s.link l).factors.news
              else ((clearAlarm .safeLink s).link l).factors.news } } := by
  have hsafe := openRequest_lastOut r s
  rw [h] at hsafe
  rw [hsafe, openRequest_safe s h, linkActivity_link, shiftOut_safeHealthy, shiftOut_au, shiftOut_link, clearAlarm_link]
  cases s.safeHealthy <;> by_cases hl : l = .safe <;> simp [hl, LinkUnit.setFactors, newsIf]

theorem openRequest_frame_safe {r : Request} (s : State) (h : r.link = .safe) :
    openRequest r s =
      { s with
        safeTimer := (openRequest r s).safeTimer
        safeHealthy := true
        au := (openRequest r s).au
        procLink := (openRequest r s).procLink
        safeLink := (openRequest r s).safeLink
        deskLink := (openRequest r s).deskLink } := by
  rw [openRequest_safe s h]
  exact linkActivity_frame _

/-! ### Forming an answer -/

/-- The status summary with its fields written out (R9, R158). -/
theorem State.summary_eq (s : State) (l : Link) :
    s.summary l =
      { factors := (s.link l).factors
        resetSeen := (s.link l).resetSeen
        unack := min 15 (s.au.list.filter fun e => e.state == .activeUnack || e.state == .clearedUnack).length
        hornA := s.au.hornA
        hornB := s.au.hornB != .silent
        firstOut := s.au.firstOut.captured.isSome
        overflow := s.au.overflow
        mainCap := s.mainSite.capActive
        calcCap := s.calcSite.capActive
        safeHealthy := s.safeHealthy
        holdoff := all8.any fun i => (s.stream i).state == .tripped } := by
  rw [State.summary, State.anyHoldoff_eq, HornB.sounding_eq]
  rfl

theorem giveAnswer_link (l : Link) (code : Byte) (c : ResultCode) (body : List Byte) (s : State) :
    (giveAnswer l code c body s).link l = { s.link l with answer := ⟨code, c, s.summary l, body⟩ } :=
  State.modLink_link_self l _ s

theorem giveAnswer_link_other {l j : Link} (code : Byte) (c : ResultCode) (body : List Byte) (s : State) (h : j ≠ l) :
    (giveAnswer l code c body s).link j = s.link j :=
  State.modLink_link_other l j _ s h

/-- Settles O8: opening by the link it comes on, then the answer. -/
theorem takingOpensAndAnswers : Obligations.TakingOpensAndAnswers := by
  refine ⟨fun r s => ⟨openRequest_lastOut r s, openRequest_eq_modLink s, fun h => ?_⟩, fun l code c body s => ?_⟩
  · obtain ⟨htimer, hhealthy⟩ := openRequest_timer s h
    refine ⟨htimer, hhealthy, ?_, openRequest_link_safe s h, openRequest_frame_safe s h⟩
    rw [openRequest_au]
    cases s.safeHealthy <;> simp [h]
  · refine ⟨?_, fun j hj => giveAnswer_link_other code c body s hj, ?_, rfl⟩
    · rw [giveAnswer_link, State.summary_eq]
    · rw [giveAnswer_link]

/-! ### The link commands -/

/-- A request that passes the checks before its command's own is opened, acted on and answered. -/
theorem takeRequest_of_sent {row : CommandRow} {n : Nat} {r : Request} {act : State → Reply} {s : State}
    (h : Sent row.owners n r s) (length : n ∈ row.lengths) (fits : n ≤ 60) :
    takeRequest row r act s = .next (settleReply r.link row.code (openRequest r s) (act (openRequest r s))) :=
  takeRequest_sent h.link (h.length ▸ length) (h.length ▸ fits) h.whole

theorem execNop_sent {r : Request} {s : State} (h : Sent Cmd.nop.owners 0 r s) :
    execNop r s = .next (giveAnswer r.link 0x01#8 .ok [] (openRequest r s)) :=
  takeRequest_of_sent h (by decide) (by decide)

theorem execStatus_sent {r : Request} {s : State} (h : Sent Cmd.status.owners 0 r s) :
    execStatus r s =
      .next (giveAnswer r.link 0x02#8 .ok
        (be8 (resetCauseByte s.resetCause) ++ be8 (if ((openRequest r s).link r.link).resetSeen then 1 else 0) ++
          be8 ((openRequest r s).link r.link).mask.byte)
        ((openRequest r s).modLink r.link fun u => { u with resetSeen := false })) := by
  rw [execStatus, takeRequest_of_sent h (by decide) (by decide), status, settleReply_done, openRequest_resetCause]
  rfl

theorem execAttnMask_sent {r : Request} {s : State} (h : Sent Cmd.attnMask.owners 1 r s) :
    execAttnMask r s =
      .next (giveAnswer r.link 0x0D#8 .ok []
        ((openRequest r s).modLink r.link fun u => { u with mask := Factors.ofByte (r.body.getD 0 0) })) :=
  takeRequest_of_sent h (by decide) (by decide)

theorem execAttnClear_sent {r : Request} {s : State} (h : Sent Cmd.attnClear.owners 1 r s) :
    execAttnClear r s =
      .next (giveAnswer r.link 0x0E#8 .ok []
        ((openRequest r s).modLink r.link fun u =>
          { u with factors := u.factors.without (Factors.ofByte (r.body.getD 0 0)) })) :=
  takeRequest_of_sent h (by decide) (by decide)

theorem execLinkReset_sent {r : Request} {s : State} (h : Sent Cmd.linkReset.owners 0 r s) :
    execLinkReset r s =
      .next (giveAnswer r.link 0x0F#8 .ok []
        ((openRequest r s).modLink r.link fun u =>
          { u with factors := Factors.clear, mask := Factors.clear, resetSeen := true })) :=
  takeRequest_of_sent h (by decide) (by decide)

theorem execListRead_sent {r : Request} {s : State} (h : Sent Cmd.listRead.owners 1 r s) :
    execListRead r s =
      .next (settleReply r.link 0x06#8 (openRequest r s) (listRead r.link r.body (openRequest r s))) :=
  takeRequest_of_sent h (by decide) (by decide)

/-- Naming NEWS clears NEWS alone. -/
theorem Factors.without_news (f : Factors) : f.without (newsIf true) = { f with news := false } := by
  simp [Factors.without, newsIf]

theorem listRead_head (l : Link) {body : List Byte} (s : State) (h : u8 body 0 = 0) :
    listRead l body s =
      .done (s.modLink l fun u => { u with factors := { u.factors with news := false } }) (listReadBytes 0 s.au) := by
  simp [listRead, h, Factors.without_news]

theorem listRead_inner (l : Link) {body : List Byte} (s : State) (h0 : 0 < u8 body 0) (h63 : u8 body 0 ≤ 63) :
    listRead l body s = .done s (listReadBytes (u8 body 0) s.au) := by
  simp [listRead, Nat.not_lt.mpr h63, Nat.ne_of_gt h0]

theorem listRead_badIndex (l : Link) {body : List Byte} (s : State) (h : 63 < u8 body 0) :
    listRead l body s = .refuse .badIndex := by
  simp [listRead, h]

/-- The attention output is asserted exactly on a factor both set and enabled (R11). -/
theorem LinkUnit.attention_iff (u : LinkUnit) : u.attention = true ↔
    u.factors.news = true ∧ u.mask.news = true ∨ u.factors.trip = true ∧ u.mask.trip = true ∨
    u.factors.shift = true ∧ u.mask.shift = true ∨ u.factors.cal = true ∧ u.mask.cal = true := by
  simp [LinkUnit.attention, Factors.any, Factors.enabledBy, or_assoc]

/-- Settles O11, command by command. -/
theorem linkFlagsTaken : Obligations.LinkFlagsTaken := by
  refine ⟨⟨fun r s h => ⟨execNop_sent h, execStatus_sent h⟩, fun r s h => execAttnMask_sent h⟩,
    LinkUnit.attention_iff, fun r s h => execAttnClear_sent h, fun r s h => ⟨?head, ?inner, ?beyond⟩⟩
  case head => intro h0; exact (execListRead_sent h).trans (by rw [listRead_head _ _ h0]; rfl)
  case inner => intro h0 h63; exact (execListRead_sent h).trans (by rw [listRead_inner _ _ h0 h63]; rfl)
  case beyond => intro h63; exact (execListRead_sent h).trans (by rw [listRead_badIndex _ _ h63]; rfl)

/-- A link with a disabled mask does not assert its attention output. -/
theorem LinkUnit.attention_of_mask_clear {u : LinkUnit} (h : u.mask = Factors.clear) : u.attention = false := by
  simp [LinkUnit.attention, Factors.any, Factors.enabledBy, h, Factors.clear]

/-- A link without factors holds, after a setting event, exactly the factors set. -/
theorem LinkUnit.setFactors_of_clear {u : LinkUnit} (f : Factors) (h : u.factors = Factors.clear) :
    (u.setFactors f).factors = f := by
  simp [LinkUnit.setFactors, h, Factors.clear]

/-- Settles O12: the answered state holds a link without factors and with its mask disabled. -/
theorem linkResetActsOnItsLink : Obligations.LinkResetActsOnItsLink := by
  intro r s h
  refine ⟨_, execLinkReset_sent h, rfl, ?_, ?_, fun f => ?_⟩
  · simp [giveAnswer_link, State.summary, Factors.clear]
  · simp [giveAnswer_link, State.summary]
  · rw [State.setFactors_link, giveAnswer_link, State.modLink_link_self]
    exact ⟨LinkUnit.setFactors_of_clear f rfl, LinkUnit.attention_of_mask_clear rfl⟩

end Sys2Proof.Machine
end

section
/-! PROOFS. Resets: what power-on reset and FULL_RESET leave, whatever the state before (R15, R16), and that the machine
right after reset is sound. -/

namespace Sys2Proof.Machine

/-! ### The records after a reset -/

theorem resetAll_stream (cause : ResetCause) (p q d : Option Nat) (s : State) (i : Fin 8) :
    (resetAll cause p q d s).stream i = Stream.reset :=
  Vector.getElem_replicate _

theorem resetAll_slot (cause : ResetCause) (p q d : Option Nat) (s : State) (n : Fin 8) :
    (resetAll cause p q d s).slot n = Slot.reset :=
  Vector.getElem_replicate _

theorem resetAll_cutSet (cause : ResetCause) (p q d : Option Nat) (s : State) (k : Fin 4) :
    (resetAll cause p q d s).cutSet k = CutSet.reset :=
  Vector.getElem_replicate _

theorem resetAll_contact (cause : ResetCause) (p q d : Option Nat) (s : State) (k : Fin 24) :
    (resetAll cause p q d s).contact k = Contact.reset :=
  Vector.getElem_replicate _

theorem resetAll_siteRec (cause : ResetCause) (p q d : Option Nat) (s : State) (x : Site) :
    (resetAll cause p q d s).siteRec x = SiteRec.reset (if x = .main then some ⟨.none, 0⟩ else none) := by
  cases x <;> rfl

/-- The transfers in progress that a reset command names, link by link. -/
def busyOn (p q d : Option Nat) : Link → Option Nat
  | .proc => p
  | .safe => q
  | .desk => d

theorem resetAll_link (cause : ResetCause) (p q d : Option Nat) (s : State) (l : Link) :
    (resetAll cause p q d s).link l = (s.link l).afterReset cause (busyOn p q d l) := by
  cases l <;> rfl

/-- The summary of a RESET answer is that of the machine after the reset (R15). -/
theorem resetAll_summary (cause : ResetCause) (p q d : Option Nat) (s : State) (l : Link) :
    (resetAll cause p q d s).summary l = Summary.reset := by
  have holdoff : (all8.any fun i => ((resetAll cause p q d s).stream i).state == .tripped) = false := by
    simp only [resetAll_stream]
    rfl
  rw [State.summary_eq, holdoff, resetAll_link]
  rfl

/-- Settles O13: each record of the reset machine is the reset record of its chapter. -/
theorem powerOnResetValues : Obligations.PowerOnResetValues := by
  intro p q d s
  refine ⟨resetAll .power p q d s, rfl, rfl, LinkUnit.afterReset_abandons _ _ _, LinkUnit.afterReset_abandons _ _ _,
    LinkUnit.afterReset_abandons _ _ _, ?lastOut, rfl, ?noFlow, ?links, ?streams, rfl, rfl, rfl, rfl, rfl, rfl, ?sites,
    ?parts, ?slots, ?sets, rfl, ?ratios, ?sections, rfl, rfl, rfl, rfl, rfl, rfl, rfl, rfl, rfl, rfl, ?contacts, rfl, rfl,
    rfl, rfl, rfl, rfl, rfl, rfl, ?word⟩
  case lastOut => intro l; rw [resetAll_link]; rfl
  case noFlow => intro i; rw [resetAll_stream]; rfl
  case links => intro l; rw [resetAll_link, resetAll_summary]; exact ⟨rfl, rfl, rfl, rfl, rfl, rfl, rfl⟩
  case streams => intro i; rw [resetAll_stream]; and_intros <;> rfl
  case sites =>
    intro x
    rw [resetAll_siteRec]
    exact ⟨rfl, rfl, rfl, rfl, fun k => Vector.getElem_replicate _, rfl, rfl, rfl, rfl, rfl, rfl, rfl⟩
  case parts => exact fun i => ⟨Vector.getElem_replicate _, Vector.getElem_replicate _⟩
  case slots => intro n; rw [resetAll_slot]; rfl
  case sets => intro k; rw [resetAll_cutSet]; rfl
  case ratios => exact fun k => Vector.getElem_replicate _
  case sections => exact fun n => Vector.getElem_replicate _
  case contacts => intro k; rw [resetAll_contact]; rfl
  case word => simp only [resetAll, State.reset]

/-! ### FULL_RESET -/

theorem State.allOffOrTripped_iff (s : State) :
    s.allOffOrTripped = true ↔ ∀ i, (s.stream i).state = .off ∨ (s.stream i).state = .tripped := by
  simp [State.allOffOrTripped, State.streams_toList, List.all_map, List.all_eq_true, mem_all8]

theorem allOffOrTripped_openRequest (r : Request) (s : State) :
    (openRequest r s).allOffOrTripped = s.allOffOrTripped := by
  rw [State.allOffOrTripped, State.allOffOrTripped, openRequest_streams]

/-- What a reset makes of a link unit rests on its pending answer, its last output and its abandoned transfer. -/
theorem LinkUnit.afterReset_congr {u v : LinkUnit} (cause : ResetCause) (busy : Option Nat)
    (answer : u.answer = v.answer) (lastOut : u.lastOut = v.lastOut) (abandoned : u.abandoned = v.abandoned) :
    u.afterReset cause busy = v.afterReset cause busy := by
  have hout : u.outSoFar = v.outSoFar := by
    funext n
    rw [LinkUnit.outSoFar, LinkUnit.outSoFar, answer, abandoned]
  rw [LinkUnit.afterReset, LinkUnit.afterReset, lastOut, hout]

/-- Opening a request on SAFE changes nothing of another link unit that a reset rests on. -/
theorem afterReset_openRequest {r : Request} (s : State) (h : r.link = .safe) {l : Link} (hl : l ≠ .safe)
    (cause : ResetCause) (busy : Option Nat) :
    ((openRequest r s).link l).afterReset cause busy = (s.link l).afterReset cause busy := by
  rw [openRequest_link_safe s h, if_neg hl]
  exact LinkUnit.afterReset_congr cause busy rfl rfl rfl

/-- Of an opened state, a reset keeps what it keeps of the state before, and the bytes shifted out on SAFE. -/
theorem resetAll_openRequest {r : Request} (cause : ResetCause) (p d : Option Nat) (s : State) (h : r.link = .safe) :
    resetAll cause p none d (openRequest r s) =
      { resetAll cause p none d s with
        safeLink := { LinkUnit.reset cause with lastOut := (openRequest r s).safeLink.lastOut } } := by
  have hproc := afterReset_openRequest s h (l := .proc) (by decide) cause p
  have hdesk := afterReset_openRequest s h (l := .desk) (by decide) cause d
  simp only [State.link] at hproc hdesk
  simp only [resetAll, openRequest_pending, openRequest_raceSeed, openRequest_contactInputs, hproc, hdesk]
  rfl

/-- The answer of FULL_RESET, formed over the reset machine, is the RESET answer but for its echo. -/
theorem giveAnswer_resetAll_openRequest {r : Request} (p d : Option Nat) (s : State) (h : r.link = .safe) :
    giveAnswer .safe 0x4A#8 .resetDone (be8 (resetCauseByte .command))
        (resetAll .command p none d (openRequest r s)) =
      { resetAll .command p none d s with
        safeLink :=
          { LinkUnit.reset .command with
            answer := Answer.reset 0x4A#8 .command
            lastOut := (openRequest r s).safeLink.lastOut } } := by
  rw [giveAnswer, resetAll_summary, resetAll_openRequest .command p d s h]
  simp only [State.modLink]
  rfl

theorem execFullReset_sent {r : Request} (p d : Option Nat) {s : State} (h : Sent Cmd.fullReset.owners 0 r s) :
    execFullReset r p d s =
      .next (settleReply r.link 0x4A#8 (openRequest r s) (fullReset p d (openRequest r s))) :=
  takeRequest_of_sent h (by decide) (by decide)

theorem execFullReset_rest {r : Request} (p d : Option Nat) {s : State} (h : Sent Cmd.fullReset.owners 0 r s)
    (rest : s.allOffOrTripped = true) :
    execFullReset r p d s =
      .next { resetAll .command p none d s with
        safeLink :=
          { LinkUnit.reset .command with
            answer := Answer.reset 0x4A#8 .command
            lastOut := (openRequest r s).safeLink.lastOut } } := by
  have hsafe : r.link = .safe := List.mem_singleton.mp h.link
  rw [← allOffOrTripped_openRequest r] at rest
  rw [execFullReset_sent p d h, fullReset, if_pos rest, settleReply_take, hsafe,
    giveAnswer_resetAll_openRequest p d s hsafe]

theorem execFullReset_busy {r : Request} (p d : Option Nat) {s : State} (h : Sent Cmd.fullReset.owners 0 r s)
    (busy : ¬s.allOffOrTripped = true) :
    execFullReset r p d s = .next (giveAnswer .safe 0x4A#8 .wrongState [] (openRequest r s)) := by
  have hsafe : r.link = .safe := List.mem_singleton.mp h.link
  rw [← allOffOrTripped_openRequest r] at busy
  rw [execFullReset_sent p d h, fullReset, if_neg busy, settleReply_refuse, hsafe]

/-- Settles O14, by whether every stream is OFF or TRIPPED. -/
theorem fullResetOnlyAtRest : Obligations.FullResetOnlyAtRest := by
  intro r p d s h
  refine ⟨fun rest => ?_, fun ⟨i, hoff, htrip⟩ => ?_⟩
  · refine ⟨_, _, execFullReset_rest p d h (s.allOffOrTripped_iff.mpr rest), rfl, rfl, ?_⟩
    refine ⟨LinkUnit.afterReset_abandons _ _ _, rfl, LinkUnit.afterReset_abandons _ _ _, rfl, ?_⟩
    simp only [resetAll]
    rfl
  · refine execFullReset_busy p d h ?_
    rw [State.allOffOrTripped_iff]
    exact fun all => (all i).elim hoff htrip

/-! ### The machine after reset is sound -/

theorem answersSound_reset : AnswersSound State.reset where
  body l := by cases l <;> decide
  states _ h := by cases h

theorem AlarmUnit.reset_sound : AlarmSound AlarmUnit.reset where
  length := by decide
  codes := by decide
  entries _ h := nomatch h
  overflow h := by cases h
  hornA := by decide
  hornB := by decide
  timer := by decide

theorem Stream.reset_sound : StreamSound Stream.reset where
  limits := ⟨by decide, by decide⟩
  cause := by decide
  lighting := by decide
  calib := by decide
  resting := by decide
  output := by decide
  planned := by decide
  rate := by decide
  ncv := by decide
  fill := by decide
  ring := by decide

theorem Slot.reset_sound : SlotSound Slot.reset where
  range := by decide
  timer := by decide
  alarm := by decide

theorem CutSet.reset_sound : SetSound CutSet.reset where
  enable := by decide
  timer := by decide
  cut := by decide

theorem SectionSound.of_stopped {x : Section} (output : x.output = 0) (stall : x.stall = none) : SectionSound x where
  stall := by simp [output, stall]

theorem Contact.reset_sound : ContactSound Contact.reset where
  mask := by decide
  cond := by decide
  forced := by decide
  count := by decide

theorem State.reset_stream (i : Fin 8) : State.reset.stream i = Stream.reset := Vector.getElem_replicate _

theorem State.reset_slot (n : Fin 8) : State.reset.slot n = Slot.reset := Vector.getElem_replicate _

theorem State.reset_cutSet (k : Fin 4) : State.reset.cutSet k = CutSet.reset := Vector.getElem_replicate _

theorem State.reset_contact (k : Fin 24) : State.reset.contact k = Contact.reset := Vector.getElem_replicate _

/-- After reset no set and no holdback offers a site a cut, and none stands at a site (R60, R104, R111). -/
theorem siteSound_reset (x : Site) : SiteSound State.reset x where
  sets k := by
    rw [State.reset_cutSet]
    cases x <;> exact Vector.getElem_replicate _
  holdback := by cases x <;> rfl
  computed := by cases x <;> rfl
  demand := by cases x <;> decide

theorem coolerSound_reset : CoolerSound Cooler.reset where
  sections n := by
    have h : Cooler.reset.sections[n] = ⟨0, 0, 1, 0, 0, none, false⟩ := Vector.getElem_replicate _
    rw [h]
    exact .of_stopped rfl rfl
  stallCause := by decide
  holdback := by decide
  stopped := by decide
  stops := by decide
  manual _ := ⟨rfl, fun _ => by decide⟩

/-- After reset no contact has a role, and none stops the cooler (R111, R128). -/
theorem contactsSound_reset : ContactsSound State.reset where
  contacts k := by rw [State.reset_contact]; exact Contact.reset_sound
  stops k := by rw [State.reset_contact]; exact ⟨nofun, fun h => absurd h (by decide)⟩

theorem forcesSound_reset : ForcesSound State.reset where
  mask k _ := by rw [State.reset_contact]; rfl
  guards k i h := by rw [State.reset_contact] at h; cases h

theorem historySound_reset : HistorySound ShiftUnit.reset where
  length := by decide
  number := by decide
  consecutive := by decide

/-- Settles O55, block by block. -/
theorem resetIsSound : Obligations.ResetIsSound where
  answers := answersSound_reset
  alarms := AlarmUnit.reset_sound
  streams i := by rw [State.reset_stream]; exact Stream.reset_sound
  word := by simp only [WordSound, State.reset]
  slots n := by rw [State.reset_slot]; exact Slot.reset_sound
  cuts := ⟨fun k => by rw [State.reset_cutSet]; exact CutSet.reset_sound, siteSound_reset⟩
  cooler := coolerSound_reset
  contacts := contactsSound_reset
  forces := forcesSound_reset
  history := historySound_reset

end Sys2Proof.Machine
end

section
/-! PROOFS. A trip, taken whole: what its seven steps leave of the stream, the Alarm Unit, the link units and the shift
books (R48, R49, R91, R143, R154). -/

namespace Sys2Proof.Machine

/-! ### The raise of a trip -/

theorem victimAt_priority {l : List Entry} {e : Entry} (h : e ∈ l) : victimAt e.priority l ≠ none := by
  rw [victimAt, ne_eq, Option.or_eq_none_iff, not_and]
  intro _ hnone
  simpa using List.find?_eq_none.mp hnone e h

/-- A raise at P1 that meets a full list finds an entry to evict (R144). -/
theorem victim_p1 {l : List Entry} {e : Entry} (h : e ∈ l) : victim .p1 l ≠ none := by
  have hp := victimAt_priority h
  simp only [victim, ne_eq, Option.or_eq_none_iff, not_and]
  intro ⟨h3, h2⟩ h1
  cases he : e.priority with
  | p1 => exact hp (he ▸ h1)
  | p2 => exact hp (he ▸ h2)
  | p3 => exact hp (he ▸ h3)

/-- A raise at P1 always enters the list, and so sets NEWS (R143, R144). -/
theorem AlarmUnit.fate_entered_p1 (a : AlarmUnit) {r : Raise} (h : r.priority = .p1) : (a.fate r).entered = true := by
  obtain ⟨e, -, hf⟩ | ⟨-, -, hf⟩ | ⟨-, -, v, -, hf⟩ | ⟨-, hfull, hv, -⟩ := a.fate_cases r
  · rw [hf]; rfl
  · rw [hf]; rfl
  · rw [hf]; rfl
  · obtain ⟨e, he⟩ := List.exists_mem_of_length_pos (l := a.list) (by omega)
    exact absurd (h ▸ hv) (victim_p1 he)

/-- The raise of a trip qualifies for the first-out record in both modes (R154). -/
theorem FirstOut.offer_trip (f : FirstOut) (i : Fin 8) (c : TripCause) (now : ClockTime) (states : List FiringState) :
    f.offer (tripRaise i c) now states =
      { f with
        captured :=
          if f.captured = none then some ⟨.streamTrip i, .p1, some (.cause c), now, states⟩ else f.captured } := by
  have takes : f.mode.takes (.streamTrip i) = true := by cases f.mode <;> rfl
  cases h : f.captured <;> simp [FirstOut.offer, tripRaise, takes, h]

/-! ### Before the holdoff step -/

theorem beforeHoldoff_limits (i : Fin 8) (c : TripCause) (s : State) :
    ((beforeHoldoff i c s).stream i).limits = (s.stream i).limits := by
  simp [beforeHoldoff, Stream.cutOff]

theorem beforeHoldoff_au (i : Fin 8) (c : TripCause) (s : State) :
    (beforeHoldoff i c s).au =
      { s.au.raise (tripRaise i c) s.su.clock with
        firstOut := s.au.firstOut.offer (tripRaise i c) s.su.clock (s.streams.toList.map Stream.state) } := by
  have states : (beforeHoldoff i c s).firingStates = s.streams.toList.map Stream.state := cutOff_firingStates i s
  rw [← states]
  rfl

theorem beforeHoldoff_su (i : Fin 8) (c : TripCause) (s : State) :
    (beforeHoldoff i c s).su =
      { s.su with
        shift :=
          { s.su.shift with
            trips := min 65535 (s.su.shift.trips + 1), alarmsP1 := min 65535 (s.su.shift.alarmsP1 + 1) } } := rfl

theorem beforeHoldoff_link (i : Fin 8) (c : TripCause) (s : State) (l : Link) :
    (beforeHoldoff i c s).link l =
      { s.link l with
        factors :=
          { news := true, trip := true, shift := (s.link l).factors.shift
            cal := (s.link l).factors.cal || (s.stream i).calOpen } } := by
  have entered : (s.au.fate (tripRaise i c)).entered = true := AlarmUnit.fate_entered_p1 _ rfl
  simp [beforeHoldoff, entered, LinkUnit.setFactors, newsIf, calIf, tripFactor]

/-! ### The holdoff step -/

theorem applyHoldoff_au (i : Fin 8) (c : TripCause) (s : State) :
    (applyHoldoff i c s).au =
      if (s.stream i).limits.holdoff.holds c then s.au else s.au.clear (.streamTrip i) := by
  unfold applyHoldoff
  split <;> rfl

theorem applyHoldoff_su (i : Fin 8) (c : TripCause) (s : State) : (applyHoldoff i c s).su = s.su := by
  unfold applyHoldoff
  split <;> rfl

/-- The holdoff step reaches the link units with NEWS alone, where it clears the condition at once (R49, R143). -/
theorem applyHoldoff_link (i : Fin 8) (c : TripCause) (s : State) (l : Link) :
    ∃ b, (applyHoldoff i c s).link l = (s.link l).setFactors (newsIf b) := by
  unfold applyHoldoff
  split
  · exact ⟨false, by simp⟩
  · exact ⟨_, by rw [clearAlarm_link, State.modStream_link]⟩

/-- A link with NEWS set is as it was when NEWS is set again. -/
theorem LinkUnit.setFactors_news_of_news {u : LinkUnit} (b : Bool) (h : u.factors.news = true) :
    u.setFactors (newsIf b) = u := by
  obtain ⟨answer, ⟨news, trip, shift, cal⟩, mask, seen, out, abandoned⟩ := u
  cases h
  simp [LinkUnit.setFactors, newsIf]

/-! ### The trip whole -/

theorem Holdoff.holds_iff (h : Holdoff) (c : TripCause) :
    h.holds c = true ↔ h = .all ∨ (h = .flame ∧ (c = .flameLost ∨ c = .lightFail)) := by
  cases h <;> simp [Holdoff.holds]

theorem Holdoff.not_holds_of {h : Holdoff} {c : TripCause}
    (hh : h = .none ∨ (h = .flame ∧ c ≠ .flameLost ∧ c ≠ .lightFail)) : ¬h.holds c = true := by
  obtain rfl | ⟨rfl, hflame, hlight⟩ := hh
  · simp [Holdoff.holds]
  · simp [Holdoff.holds, hflame, hlight]

/-- The Alarm Unit after a trip: the raise, its clear at once where the holdoff mode lets go, and the offer to the
first-out record with the firing states tripped from. -/
theorem trip_au (i : Fin 8) (c : TripCause) (s : State) :
    (trip i c s).au =
      { (if (s.stream i).limits.holdoff.holds c then s.au.raise (tripRaise i c) s.su.clock
          else (s.au.raise (tripRaise i c) s.su.clock).clear (.streamTrip i)) with
        firstOut := s.au.firstOut.offer (tripRaise i c) s.su.clock (s.streams.toList.map Stream.state) } := by
  rw [trip_eq, applyHoldoff_au, beforeHoldoff_limits, beforeHoldoff_au]
  split
  · rfl
  · rw [AlarmUnit.clear_withFirstOut]

theorem trip_su (i : Fin 8) (c : TripCause) (s : State) :
    (trip i c s).su =
      { s.su with
        shift :=
          { s.su.shift with
            trips := min 65535 (s.su.shift.trips + 1), alarmsP1 := min 65535 (s.su.shift.alarmsP1 + 1) } } := by
  rw [trip_eq, applyHoldoff_su, beforeHoldoff_su]

theorem trip_link (i : Fin 8) (c : TripCause) (s : State) (l : Link) :
    (trip i c s).link l =
      { s.link l with
        factors :=
          { news := true, trip := true, shift := (s.link l).factors.shift
            cal := (s.link l).factors.cal || (s.stream i).calOpen } } := by
  obtain ⟨b, hb⟩ := applyHoldoff_link i c (beforeHoldoff i c s) l
  rw [trip_eq, hb, beforeHoldoff_link]
  exact LinkUnit.setFactors_news_of_news b rfl

/-- A cut-off stream, its calibration record latched ABORTED where it was OPEN and left as it is otherwise (R48, R91). -/
theorem Stream.cutOff_eq (x : Stream) :
    x.cutOff =
      { x with
        output := 0
        planned := 0
        rate := 0
        lighting := none
        noFlowDue := false
        cal := x.cal.map fun c => if c.state = .opened then { c with state := .aborted } else c } := by
  unfold Stream.cutOff Stream.calOpen
  cases h : x.cal with
  | none => rfl
  | some c => by_cases hc : c.state = .opened <;> simp [hc]

/-- Settles O24: the steps before the holdoff, then the holdoff by its mode. -/
theorem tripIsTakenWhole : Obligations.TripIsTakenWhole := by
  intro i c s
  refine ⟨trip_sameBlocks i c s, fun j hj => trip_stream_other i j c s hj, ?stream, ?holds, ?letsGo, ?firstOut,
    trip_link i c s, trip_su i c s⟩
  case stream =>
    rw [trip_stream_self, Stream.cutOff_eq]
    cases (s.stream i).cal <;> rfl
  case holds =>
    intro h
    have hh := (Holdoff.holds_iff _ c).mpr h
    rw [trip_stream_self, trip_au, if_pos hh, if_pos hh, if_pos hh]
    exact ⟨rfl, rfl, rfl⟩
  case letsGo =>
    intro h
    have hh := Holdoff.not_holds_of h
    rw [trip_stream_self, trip_au, if_neg hh, if_neg hh, if_neg hh]
    exact ⟨rfl, rfl, rfl⟩
  case firstOut => rw [trip_au, FirstOut.offer_trip]

end Sys2Proof.Machine
end

section
/-! PROOFS. What becomes of one stream: the ways in which it can change outside SET_LIMITS, SET_PLAN, CAL_ACCEPT and the
resets, and that each of these and of those keeps it sound (R28, R35, R40, R59, R70, R80, R82, R87). -/

namespace Sys2Proof.Machine

/-! ### Arithmetic and the calibration record -/

theorem clampNat_le {lo hi : Nat} (x : Nat) (h : lo ≤ hi) : clampNat lo hi x ≤ hi := by
  unfold clampNat
  split
  · exact h
  · split <;> omega

/-- An output of 0 has the rate 0 on every scale that a stream can have (R70). -/
theorem rateOf_zero {scale : Nat} (h : 0 < scale) : rateOf 0 scale = 0 := by
  rw [rateOf, roundHalfUp, Nat.div_eq_of_lt (by omega)]

theorem Stream.calOpen_iff (x : Stream) : x.calOpen = true ↔ ∃ c, x.cal = some c ∧ c.state = .opened := by
  unfold Stream.calOpen
  cases x.cal <;> simp

/-- A change of the record that keeps its state keeps whether it is OPEN. -/
theorem Stream.calOpen_map (x : Stream) {f : CalRecord → CalRecord} (h : ∀ c, (f c).state = c.state) :
    (∃ c, x.cal.map f = some c ∧ c.state = .opened) ↔ x.calOpen = true := by
  rw [Stream.calOpen_iff]
  cases x.cal <;> simp [h]

theorem CalRecord.count_state (c : CalRecord) : c.count.state = c.state := by
  unfold CalRecord.count
  split <;> rfl

theorem CalRecord.tick_state (c : CalRecord) : c.tick.state = c.state := by
  unfold CalRecord.tick
  split <;> rfl

theorem Stream.cutOff_not_calOpen (x : Stream) : ¬x.cutOff.calOpen = true := by
  rw [Stream.cutOff_eq, Stream.calOpen_iff]
  cases x.cal with
  | none => simp
  | some c => by_cases hc : c.state = .opened <;> simp [hc]

/-! ### What a close leaves of a stream -/

theorem joinRing_length_le (ring : List WindowEntry) (e : WindowEntry) : (joinRing ring e).length ≤ 8 := by
  unfold joinRing
  split
  · simp only [List.length_append, List.length_drop, List.length_singleton]; omega
  · simp only [List.length_append, List.length_singleton]; omega

theorem le_joinRing_length {ring : List WindowEntry} (e : WindowEntry) (h : ring.length ≤ 8) :
    min 8 (ring.length + 1) ≤ (joinRing ring e).length := by
  unfold joinRing
  split
  · simp only [List.length_append, List.length_drop, List.length_singleton]; omega
  · simp only [List.length_append, List.length_singleton]; omega

/-- The window-fill count grows by at most one, no further than 8 (R82). -/
theorem Stream.nextFill_le (x : Stream) : x.nextFill ≤ max x.fill (min 8 (x.fill + 1)) := by
  unfold Stream.nextFill satAdd
  split <;> omega

/-- Supervision touches the counters, the deviation condition and the report alone (R83 to R85). -/
theorem Stream.supervise_frame (x : Stream) :
    x.supervise =
      { x with
        devCounter := x.supervise.devCounter, retCounter := x.supervise.retCounter, devCond := x.supervise.devCond
        noFlowCounter := x.supervise.noFlowCounter, noFlowDue := x.supervise.noFlowDue } := by
  have deviation : x.deviation =
      { x with
        devCounter := x.deviation.devCounter, retCounter := x.deviation.retCounter
        devCond := x.deviation.devCond } := by
    unfold Stream.deviation
    repeat' split
    all_goals rfl
  have noFlow (y : Stream) : y.noFlow =
      { y with noFlowCounter := y.noFlow.noFlowCounter, noFlowDue := y.noFlow.noFlowDue } := by
    unfold Stream.noFlow
    repeat' split
    all_goals rfl
  unfold Stream.supervise
  split
  · rw [noFlow, deviation]
  · rfl

/-- A period close touches the measurement of a stream alone (R78). -/
theorem Stream.closed_frame (ms : Nat) (x : Stream) :
    x.closed ms =
      { x with
        pulses := 0, ring := joinRing x.ring ⟨x.pulses, x.output⟩, fill := x.nextFill, flow := (x.closed ms).flow
        devCounter := (x.closed ms).devCounter, retCounter := (x.closed ms).retCounter
        devCond := (x.closed ms).devCond, noFlowCounter := (x.closed ms).noFlowCounter
        noFlowDue := (x.closed ms).noFlowDue } := by
  unfold Stream.closed
  rw [Stream.supervise_frame]
  rfl

/-! ### The moves -/

/-- The part of a computation that a burning stream takes, with the stream's flow limits. -/
structure Share.PartOf (x : Stream) (p : Share) : Prop where
  burning : x.state.burning = true
  min : p.min = x.limits.min
  max : p.max = x.limits.max

/-- A part of a stream whose mass lies within the max flow, where the stream's limits are in order and its output within
them. -/
structure Share.Fits (x : Stream) (p : Share) : Prop extends p.PartOf x where
  mass : x.limits.min ≤ x.limits.max → x.output ≤ x.limits.max → p.mass ≤ p.max

/-- One change of one stream, by what the manual lets come before it: every change there is but those of SET_LIMITS,
SET_PLAN, CAL_ACCEPT and the resets. -/
inductive StreamMove : Stream → Stream → Prop
  | grant {x : Stream} (state : x.state = .off) (armed : x.armed = true) : StreamMove x { x with state := .ready }
  | light {x : Stream} (state : x.state = .ready) : StreamMove x x.lit
  | proven {x : Stream} (state : x.state = .lighting) :
      StreamMove x { x with state := .firing, lighting := none, fill := 0 }
  | hold {x : Stream} (state : x.state = .firing) : StreamMove x { x with state := .held }
  | resume {x : Stream} (state : x.state = .held ∨ x.state = .stopping) : StreamMove x { x with state := .firing }
  | quench {x : Stream} (state : x.state = .lighting) :
      StreamMove x { x with state := .ready, lighting := none, output := 0, planned := 0, rate := 0 }
  | stop {x : Stream} (state : x.state = .firing ∨ x.state = .held) : StreamMove x { x with state := .stopping }
  | withdraw {x : Stream} (c : TripCause) : StreamMove x (withdrawn c x)
  | release {x : Stream} (state : x.state = .tripped) : StreamMove x { x with state := .off, cause := none }
  | poll {x : Stream} (p : Poll) : StreamMove x { x with poll := p }
  | pulse {x : Stream} : StreamMove x { x with pulses := satAdd 65535 x.pulses 1, cal := x.cal.map CalRecord.count }
  | reported {x : Stream} : StreamMove x { x with noFlowDue := false }
  | close {x : Stream} (ms : Nat) : StreamMove x (x.closed ms)
  | lower {x : Stream} : StreamMove x x.lowered
  | dose {x : Stream} (p : Option Share) (fits : ∀ q, p = some q → q.Fits x) : StreamMove x (x.dosed p)
  | calStart {x : Stream} (now : ClockTime) (state : x.state = .firing) :
      StreamMove x { x with state := .calib, cal := some (openCal now x) }
  | calStop {x : Stream} {c : CalRecord} (latched : CalState) (state : x.state = .calib) (shut : latched ≠ .opened) :
      StreamMove x { x with state := .firing, cal := some { c with state := latched } }
  | calEnd {x : Stream} (state : x.state = .calib) (shut : x.calOpen = false) : StreamMove x { x with state := .firing }
  | calTimeout {x : Stream} {c : CalRecord} (cal : x.cal = some c) (opened : c.state = .opened) :
      StreamMove x
        { x with
          state := if x.state = .calib then .firing else x.state
          cal := some { c with state := .done, elapsed := 3600000 } }
  | calDiscard {x : Stream} (shut : x.calOpen = false) : StreamMove x { x with cal := none }
  | tick {x : Stream} : StreamMove x x.tick

theorem withdrawn_limits (c : TripCause) (x : Stream) : (withdrawn c x).limits = x.limits := by
  unfold withdrawn
  repeat' split
  all_goals rfl

theorem withdrawn_plan (c : TripCause) (x : Stream) : (withdrawn c x).plan = x.plan := by
  unfold withdrawn
  repeat' split
  all_goals rfl

theorem Stream.lowered_limits (x : Stream) : x.lowered.limits = x.limits := by
  unfold Stream.lowered
  repeat' split
  all_goals rfl

theorem Stream.lowered_plan (x : Stream) : x.lowered.plan = x.plan := by
  unfold Stream.lowered
  repeat' split
  all_goals rfl

theorem Stream.dosed_limits (p : Option Share) (x : Stream) : (x.dosed p).limits = x.limits := by
  unfold Stream.dosed
  repeat' split
  all_goals rfl

theorem Stream.dosed_plan (p : Option Share) (x : Stream) : (x.dosed p).plan = x.plan := by
  unfold Stream.dosed
  repeat' split
  all_goals rfl

theorem StreamMove.limits {x y : Stream} (h : StreamMove x y) : y.limits = x.limits := by
  cases h with
  | withdraw c => exact withdrawn_limits c x
  | close ms => rw [Stream.closed_frame]
  | lower => exact x.lowered_limits
  | dose p => exact x.dosed_limits p
  | _ => rfl

theorem StreamMove.plan {x y : Stream} (h : StreamMove x y) : y.plan = x.plan := by
  cases h with
  | withdraw c => exact withdrawn_plan c x
  | close ms => rw [Stream.closed_frame]
  | lower => exact x.lowered_plan
  | dose p => exact x.dosed_plan p
  | _ => rfl

/-! ### Every move keeps a stream sound -/

theorem LimitsSound.scale_pos {x : Limits} (h : LimitsSound x) : 0 < x.scale := by
  have := h.scale
  omega

/-- A stream that does not burn is at rest: its rate is 0 on every scale (R59, R70). -/
theorem StreamSound.rate_of_resting {x : Stream} (h : StreamSound x) (rest : x.state.burning = false) {scale : Nat}
    (pos : 0 < scale) : x.rate = rateOf x.output scale := by
  rw [h.rate, (h.resting rest).1, rateOf_zero h.limits.scale_pos, rateOf_zero pos]

/-- A move between two states of which none is TRIPPED, LIGHTING or CALIB keeps a stream sound, where it leaves no
BURNING state for one that is not BURNING and the NCV is present. -/
theorem StreamSound.moveTo {x : Stream} (h : StreamSound x) {f : FiringState}
    (before : x.state ≠ .tripped ∧ x.state ≠ .lighting ∧ x.state ≠ .calib)
    (after : f ≠ .tripped ∧ f ≠ .lighting ∧ f ≠ .calib) (burning : f.burning = false → x.state.burning = false)
    (ncv : x.plan.ncv.isSome = true) : StreamSound { x with state := f } :=
  { h with
    cause := by simp [h.cause, before, after]
    lighting := by simp [h.lighting, before, after]
    calib := h.calib.trans (by simp [before, after])
    resting := fun rest => h.resting (burning rest)
    ncv := fun _ => ncv }

theorem Stream.lit_sound {x : Stream} (h : StreamSound x) (state : x.state = .ready) : StreamSound x.lit :=
  { h with
    cause := by simp [Stream.lit, h.cause, state]
    lighting := by simp [Stream.lit]
    calib := h.calib.trans (by simp [Stream.lit, state])
    resting := nofun
    output := h.limits.ordered.1
    rate := rfl
    ncv := fun _ => h.ncv (.inr (by simp [state]))
    fill := Nat.le_refl 0
    ring := Nat.zero_le 8 }

/-- The stream a trip leaves is at rest (R48, R49). -/
theorem Stream.cutOff_sound {x : Stream} (h : StreamSound x) (burning : x.state.burning = true)
    (o : Option TripCause) :
    StreamSound { x.cutOff with state := if o.isSome then .tripped else .off, cause := o } where
  limits := h.limits
  cause := by cases o <;> simp
  lighting := by cases o <;> simp [Stream.cutOff]
  calib := iff_of_false x.cutOff_not_calOpen (by cases o <;> simp)
  resting := fun _ => ⟨rfl, rfl⟩
  output := Nat.zero_le _
  planned := Nat.zero_le _
  rate := (rateOf_zero h.limits.scale_pos).symm
  ncv := fun _ => h.ncv (.inr fun off => by simp [off, FiringState.burning] at burning)
  fill := h.fill
  ring := h.ring

theorem withdrawn_sound {x : Stream} (h : StreamSound x) (c : TripCause) : StreamSound (withdrawn c x) := by
  unfold withdrawn
  split
  case isTrue burning =>
    have sound := Stream.cutOff_sound h burning (if x.limits.holdoff.holds c then some c else none)
    by_cases hold : x.limits.holdoff.holds c = true <;> simpa [hold] using sound
  case isFalse =>
    split
    case isTrue ready =>
      have ncv := h.ncv (.inr (by simp [ready]))
      exact h.moveTo (by simp [ready]) (by simp) (by simp [ready, FiringState.burning]) ncv
    case isFalse => exact h

theorem Stream.closed_sound {x : Stream} (h : StreamSound x) (ms : Nat) : StreamSound (x.closed ms) := by
  rw [Stream.closed_frame]
  refine { h with fill := ?_, ring := joinRing_length_le _ _ }
  have grown := le_joinRing_length ⟨x.pulses, x.output⟩ h.ring
  have kept := h.fill
  have few := h.ring
  have next := x.nextFill_le
  show x.nextFill ≤ (joinRing x.ring ⟨x.pulses, x.output⟩).length
  omega

theorem Stream.lowered_sound {x : Stream} (h : StreamSound x) : StreamSound x.lowered := by
  unfold Stream.lowered
  split
  case isFalse => exact h
  case isTrue stopping =>
    have ncv : x.plan.ncv.isSome = true := h.ncv (.inr (by simp [stopping]))
    split
    case isTrue =>
      exact
        { h with
          cause := by simp [h.cause, stopping]
          lighting := by simp [h.lighting, stopping]
          calib := h.calib.trans (by simp [stopping])
          resting := fun _ => ⟨rfl, rfl⟩
          output := Nat.zero_le _
          planned := Nat.zero_le _
          rate := (rateOf_zero h.limits.scale_pos).symm
          ncv := fun _ => ncv }
    case isFalse =>
      have output := h.output
      exact
        { h with
          resting := by simp [Stream.withOutput, stopping, FiringState.burning]
          output := show x.output - x.limits.ramp ≤ x.limits.max by omega
          rate := rfl }

/-- The results of a computation keep a stream sound: its planned setpoint is a mass within its max flow, its output is
clamped into its limits (R68, R69). -/
theorem Stream.dosed_sound {x : Stream} (h : StreamSound x) {p : Option Share} (fits : ∀ q, p = some q → q.Fits x) :
    StreamSound (x.dosed p) := by
  cases p with
  | none => exact h
  | some q =>
    have part := fits q rfl
    have mass := part.mass h.limits.ordered.1 h.output
    have max := part.max
    have scale := h.limits.ordered.2
    have planned : q.mass.toNat ≤ x.limits.scale := by omega
    have burns {P : Prop} (rest : x.state.burning = false) : P := by rw [part.burning] at rest; cases rest
    unfold Stream.dosed
    dsimp only
    split
    · exact
        { h with
          resting := burns
          output := clampNat_le _ h.limits.ordered.1
          planned := planned
          rate := rfl }
    · exact { h with resting := burns, planned := planned }

theorem Stream.tick_sound {x : Stream} (h : StreamSound x) : StreamSound x.tick :=
  { h with
    lighting := by simp [Stream.tick, tickTimer, h.lighting]
    calib := (Stream.calOpen_iff _).trans ((x.calOpen_map CalRecord.tick_state).trans h.calib) }

theorem StreamMove.sound {x y : Stream} (m : StreamMove x y) (h : StreamSound x) : StreamSound y := by
  cases m with
  | grant state armed =>
    have planSet : x.planSet = true := (Bool.and_eq_true_iff.mp armed).2
    exact h.moveTo (by simp [state]) (by simp) (by simp [state, FiringState.burning]) (h.ncv (.inl planSet))
  | light state => exact Stream.lit_sound h state
  | proven state =>
    exact
      { h with
        cause := by simp [h.cause, state]
        lighting := by simp
        calib := h.calib.trans (by simp [state])
        resting := nofun
        ncv := fun _ => h.ncv (.inr (by simp [state]))
        fill := Nat.zero_le _ }
  | hold state => exact h.moveTo (by simp [state]) (by simp) nofun (h.ncv (.inr (by simp [state])))
  | resume state =>
    obtain state | state := state <;>
      exact h.moveTo (by simp [state]) (by simp) nofun (h.ncv (.inr (by simp [state])))
  | quench state =>
    exact
      { h with
        cause := by simp [h.cause, state]
        lighting := by simp
        calib := h.calib.trans (by simp [state])
        resting := fun _ => ⟨rfl, rfl⟩
        output := Nat.zero_le _
        planned := Nat.zero_le _
        rate := (rateOf_zero h.limits.scale_pos).symm
        ncv := fun _ => h.ncv (.inr (by simp [state])) }
  | stop state =>
    obtain state | state := state <;>
      exact h.moveTo (by simp [state]) (by simp) nofun (h.ncv (.inr (by simp [state])))
  | withdraw c => exact withdrawn_sound h c
  | release state =>
    exact
      { h with
        cause := by simp
        lighting := by simp [h.lighting, state]
        calib := h.calib.trans (by simp [state])
        resting := fun _ => h.resting (by simp [state, FiringState.burning])
        ncv := fun _ => h.ncv (.inr (by simp [state])) }
  | poll p => exact { h with }
  | pulse =>
    exact { h with calib := (Stream.calOpen_iff _).trans ((x.calOpen_map CalRecord.count_state).trans h.calib) }
  | reported => exact { h with }
  | close ms => exact Stream.closed_sound h ms
  | lower => exact Stream.lowered_sound h
  | dose p fits => exact Stream.dosed_sound h fits
  | calStart now state =>
    exact
      { h with
        cause := by simp [h.cause, state]
        lighting := by simp [h.lighting, state]
        calib := iff_of_true rfl rfl
        resting := nofun
        ncv := fun _ => h.ncv (.inr (by simp [state])) }
  | calStop latched state shut =>
    exact
      { h with
        cause := by simp [h.cause, state]
        lighting := by simp [h.lighting, state]
        calib := iff_of_false (by simpa [Stream.calOpen] using shut) (by simp)
        resting := nofun
        ncv := fun _ => h.ncv (.inr (by simp [state])) }
  | calEnd state shut => exact absurd (h.calib.mpr state) (by simp [shut])
  | calTimeout cal opened =>
    have state : x.state = .calib := h.calib.mp ((Stream.calOpen_iff x).mpr ⟨_, cal, opened⟩)
    exact
      { h with
        cause := by simp [h.cause, state]
        lighting := by simp [h.lighting, state]
        calib := iff_of_false (by simp [Stream.calOpen]) (by simp [state])
        resting := by simp [state, FiringState.burning]
        ncv := fun _ => h.ncv (.inr (by simp [state])) }
  | calDiscard shut =>
    exact { h with calib := iff_of_false (by simp [Stream.calOpen]) fun s => by simp [h.calib.mpr s] at shut }
  | tick => exact Stream.tick_sound h

/-! ### The two halves and the pulse weight -/

/-- The limits half that SET_LIMITS takes lies in its ranges and order (R18). -/
theorem limitsOf_sound {b : List Byte} {x : Limits} (h : limitsOf b = some x) (ordered : x.ordered = true) :
    LimitsSound x := by
  refine ⟨?_, by simpa [Limits.ordered] using ordered⟩
  unfold limitsOf at h
  split at h
  · split at h
    · cases h
      simp_all [within]
    · cases h
  · cases h

/-- The output setpoint under new limits lies within their max flow (R20). -/
theorem clampedOutput_le {f : FiringState} {x : Limits} (output : Nat) (burning : f.burning = true)
    (ordered : x.min ≤ x.max) : clampedOutput f x output ≤ x.max := by
  cases f with
  | lighting | firing | held | calib => exact clampNat_le output ordered
  | stopping => exact Nat.min_le_right output x.max
  | off | ready | tripped => cases burning

/-- A stream at rest keeps its output under new limits (R20). -/
theorem clampedOutput_resting {f : FiringState} (x : Limits) (output : Nat) (rest : f.burning = false) :
    clampedOutput f x output = output := by
  cases f with
  | lighting | firing | held | calib | stopping => cases rest
  | off | ready | tripped => rfl

theorem pairRule_imp {f : FiringState} {written other : Bool} (h : pairRule f written other = true) :
    other = true := by
  unfold pairRule at h
  split at h
  · cases h
  · exact h

theorem Stream.takeLimits_sound {x : Stream} (h : StreamSound x) {l : Limits} (limits : LimitsSound l) :
    StreamSound (x.takeLimits l) := by
  have ncv (n : pairRule x.state x.limitsSet x.planSet = true ∨ x.state ≠ .off) : x.plan.ncv.isSome = true :=
    h.ncv (n.imp_left pairRule_imp)
  cases burning : x.state.burning with
  | true =>
    refine { h with limits := limits, resting := ?_, output := ?_, planned := ?_, rate := ?_, ncv := ncv }
    · intro rest; exact absurd (rest.symm.trans burning) (by decide)
    · exact clampedOutput_le _ burning limits.ordered.1
    · simp [Stream.takeLimits, burning]
    · simp [Stream.takeLimits, burning]
  | false =>
    have rest := h.resting burning
    refine { h with limits := limits, resting := ?_, output := ?_, planned := ?_, rate := ?_, ncv := ncv }
    · simp [Stream.takeLimits, burning, clampedOutput_resting, rest]
    · simp [Stream.takeLimits, burning, clampedOutput_resting, rest]
    · simp [Stream.takeLimits, burning, rest]
    · simpa [Stream.takeLimits, burning, clampedOutput_resting] using h.rate_of_resting burning limits.scale_pos

theorem planOf_ncv {b : List Byte} {p : Plan} (h : planOf b = some p) : p.ncv = some (u16 b 1) := by
  unfold planOf at h
  split at h <;> cases h
  rfl

theorem Stream.takePlan_sound {x : Stream} (h : StreamSound x) {p : Plan} (ncv : p.ncv.isSome = true) :
    StreamSound (x.takePlan p) :=
  { h with ncv := fun _ => ncv }

/-- A stream under a CAL_ACCEPT taken: a new pulse weight, and its record gone (R93). -/
def Stream.recalibrated (g : Nat) (x : Stream) : Stream :=
  { x with plan := { x.plan with pulseWeight := g }, cal := none }

/-- A record that CAL_ACCEPT may take is not OPEN (R92). -/
theorem Stream.not_calOpen_of_acceptable {x : Stream} {c : CalRecord} (h : x.acceptable = some c) :
    x.calOpen = false := by
  unfold Stream.acceptable at h
  unfold Stream.calOpen
  cases hc : x.cal with
  | none => rfl
  | some d =>
    rw [hc] at h
    simp only [Option.ite_none_right_eq_some] at h
    simp [h.1.1]

theorem Stream.recalibrated_sound {x : Stream} (h : StreamSound x) (g : Nat) (shut : x.calOpen = false) :
    StreamSound (x.recalibrated g) :=
  { h with
    calib := iff_of_false (by simp [Stream.recalibrated, Stream.calOpen]) fun s => by simp [h.calib.mpr s] at shut }

end Sys2Proof.Machine
end

section
/-! PROOFS. What every command does to the streams: it moves each of them by the moves of one stream and keeps the
check word, or it is SET_LIMITS, SET_PLAN, CAL_ACCEPT or a reset. So every step keeps the streams sound and the check
word that of the limits (O57), and a pulse weight changes by the listed commands alone (O17). -/

namespace Sys2Proof.Machine

/-! ### The masses of a computation (R65 to R67) -/

/-- Each part of a list is one of a stream of `v`, its mass within the max flow. -/
def PartsFit (v : Vector Stream 8) (l : List Share) : Prop := ∀ p ∈ l, p.Fits v[p.idx]

theorem Share.Fits.fixMax {x : Stream} {p : Share} (h : p.PartOf x) : p.fixMax.Fits x :=
  { h with mass := fun _ _ => le_refl (p.max : Int) }

theorem Share.Fits.fixMin {x : Stream} {p : Share} (h : p.PartOf x) : p.fixMin.Fits x :=
  { h with
    mass := fun ordered _ => by
      show (p.min : Int) ≤ (p.max : Int)
      rw [h.min, h.max]
      exact_mod_cast ordered }

theorem Share.Fits.of_not_above {x : Stream} {p : Share} (h : p.PartOf x) (unfixed : p.unfixed = true)
    (below : p.above = false) : p.Fits x :=
  { h with mass := fun _ _ => by simpa [Share.above, unfixed] using below }

/-- The part a stream takes at the opening of a computation holds its output, or nothing yet (R65). -/
theorem Stream.share_fits {x : Stream} {i : Fin 8} {p : Share} (h : x.share i = some p) : p.idx = i ∧ p.Fits x := by
  unfold Stream.share at h
  split at h <;> cases h
  case h_4.refl state =>
    exact ⟨rfl, ⟨by simp [state, FiringState.burning], rfl, rfl⟩, fun _ _ => Int.natCast_nonneg _⟩
  all_goals
    rename_i state
    exact ⟨rfl, ⟨by simp [state, FiringState.burning], rfl, rfl⟩, fun _ output => Int.ofNat_le.mpr output⟩

theorem openShares_fit (x : Site) (v : Vector Stream 8) : PartsFit v (openShares x v) := by
  intro p hp
  obtain ⟨i, -, hi⟩ := List.mem_filterMap.mp hp
  split at hi
  · obtain ⟨rfl, fits⟩ := Stream.share_fits hi
    exact fits
  · cases hi

/-- Giving the shares of a pass leaves the parts their streams, and a part not above its max flow within it. -/
theorem giveShares_fit {v : Vector Stream 8} {l : List Share} (h : PartsFit v l) (m : Int) {q : Share}
    (hq : q ∈ giveShares m l) : q.PartOf v[q.idx] ∧ (q.above = false → q.Fits v[q.idx]) := by
  obtain ⟨p, hp, rfl⟩ := List.mem_map.mp hq
  have fits := h p hp
  cases hu : p.unfixed with
  | false => exact ⟨by simpa [hu] using fits.toPartOf, fun _ => by simpa [hu] using fits⟩
  | true =>
    rw [if_pos rfl]
    exact ⟨⟨fits.burning, fits.min, fits.max⟩, .of_not_above ⟨fits.burning, fits.min, fits.max⟩ hu⟩

/-- A pass that fixes some of its parts, each at one of its flow limits, leaves them all fitting. -/
theorem PartsFit.map {v : Vector Stream 8} {l : List Share} {c : Share → Bool} {f : Share → Share}
    (idx : ∀ p, (f p).idx = p.idx) (fixed : ∀ p ∈ l, c p = true → (f p).Fits v[p.idx])
    (kept : ∀ p ∈ l, c p = false → p.Fits v[p.idx]) : PartsFit v (l.map fun p => if c p then f p else p) := by
  intro q hq
  obtain ⟨p, hp, rfl⟩ := List.mem_map.mp hq
  cases hc : c p with
  | true => simpa [hc, idx] using fixed p hp hc
  | false => simpa [hc] using kept p hp hc

theorem runPasses_fit {v : Vector Stream 8} (e fuel k : Nat) {l : List Share} (h : PartsFit v l) :
    PartsFit v (runPasses e fuel k l).parts := by
  induction fuel generalizing k l with
  | zero => exact h
  | succ fuel ih =>
    have given {q : Share} (hq : q ∈ giveShares (remainingHeat e l) l) := giveShares_fit h (remainingHeat e l) hq
    unfold runPasses
    split
    · exact h
    split
    · exact ih _ (.map (fun _ => rfl) (fun p hp _ => .fixMin (h p hp).toPartOf) fun p hp _ => h p hp)
    split
    · exact ih _ (.map (fun _ => rfl) (fun q hq _ => .fixMax (given hq).1) fun q hq => (given hq).2)
    case isFalse none =>
      have fits : PartsFit v (giveShares (remainingHeat e l) l) := fun q hq =>
        (given hq).2 (Bool.eq_false_iff.mpr fun above => none (List.any_eq_true.mpr ⟨q, hq, above⟩))
      split
      · exact ih _ (.map (fun _ => rfl) (fun q hq _ => .fixMin (given hq).1) fun q hq _ => fits q hq)
      · exact fits

/-- What a computation gives a stream is a part of that stream, its mass within the max flow. -/
theorem State.allocation_part_fits {x : Site} {s : State} {i : Fin 8} {q : Share}
    (h : (s.allocation x).part i = some q) : q.Fits (s.stream i) := by
  have idx : q.idx = i := by simpa using List.find?_some h
  subst idx
  exact runPasses_fit _ _ _ (openShares_fit x s.streams) q (List.mem_of_find?_eq_some h)

/-! ### Moves of the streams of a state -/

/-- The streams of a state are those of its table. -/
theorem State.stream_congr {s t : State} (h : t.streams = s.streams) (i : Fin 8) : t.stream i = s.stream i := by
  rw [State.stream, h]
  rfl

/-- From `s` to `t` each stream goes through moves of one stream, and the computed check word is kept. -/
structure StreamsMoved (s t : State) : Prop where
  streams : ∀ i : Fin 8, Relation.ReflTransGen StreamMove (s.stream i) (t.stream i)
  word : t.computedWord = s.computedWord

namespace StreamsMoved

theorem of_eq {s t : State} (streams : t.streams = s.streams) (word : t.computedWord = s.computedWord) :
    StreamsMoved s t where
  streams i := by rw [State.stream_congr streams i]
  word := word

theorem refl (s : State) : StreamsMoved s s := .of_eq rfl rfl

theorem trans {s t u : State} (h : StreamsMoved s t) (k : StreamsMoved t u) : StreamsMoved s u where
  streams i := (h.streams i).trans (k.streams i)
  word := k.word.trans h.word

/-- Moves after a change of what holds no stream. -/
theorem after {s t u : State} (h : StreamsMoved t u) (streams : t.streams = s.streams)
    (word : t.computedWord = s.computedWord) : StreamsMoved s u :=
  trans (of_eq streams word) h

/-- Moves before a change of what holds no stream. -/
theorem before {s t u : State} (h : StreamsMoved s t) (streams : u.streams = t.streams)
    (word : u.computedWord = t.computedWord) : StreamsMoved s u :=
  trans h (of_eq streams word)

theorem modStream {s : State} {i : Fin 8} {f : Stream → Stream} (m : StreamMove (s.stream i) (f (s.stream i))) :
    StreamsMoved s (s.modStream i f) where
  streams j := by
    rw [State.modStream_stream]
    split
    case isTrue same => subst same; exact .single m
    case isFalse => exact .refl
  word := rfl

theorem foldl {α : Type} {f : State → α → State} (h : ∀ s a, StreamsMoved s (f s a)) (l : List α) (s : State) :
    StreamsMoved s (l.foldl f s) := by
  induction l generalizing s with
  | nil => exact .refl s
  | cons a l ih => exact (h s a).trans (ih (f s a))

/-- What every move of one stream keeps, or hands on, a whole run of moves does. -/
theorem preserves {P : Stream → Prop} {s t : State} (h : StreamsMoved s t)
    (move : ∀ x y, StreamMove x y → P x → P y) (i : Fin 8) (hs : P (s.stream i)) : P (t.stream i) :=
  Relation.ReflTransGen.head_induction_on (motive := fun x _ => P x → P (t.stream i)) (h.streams i) id
    (fun m _ ih hx => ih (move _ _ m hx)) hs

theorem limits {s t : State} (h : StreamsMoved s t) (i : Fin 8) : (t.stream i).limits = (s.stream i).limits :=
  h.preserves (P := fun x => x.limits = (s.stream i).limits) (fun _ _ m e => m.limits.trans e) i rfl

theorem plan {s t : State} (h : StreamsMoved s t) (i : Fin 8) : (t.stream i).plan = (s.stream i).plan :=
  h.preserves (P := fun x => x.plan = (s.stream i).plan) (fun _ _ m e => m.plan.trans e) i rfl

theorem sound {s t : State} (h : StreamsMoved s t) (hs : StreamsSound s) : StreamsSound t :=
  fun i => h.preserves (fun _ _ m => m.sound) i (hs i)

end StreamsMoved

theorem mapStreams_getElem (f : Fin 8 → Stream → Stream) (v : Vector Stream 8) (i : Fin 8) :
    (mapStreams f v)[i] = f i v[i] := by
  fin_cases i <;> rfl

/-- A change of every stream, each by a move or not at all. -/
theorem StreamsMoved.mapStreams {s t : State} {f : Fin 8 → Stream → Stream}
    (streams : t.streams = Machine.mapStreams f s.streams) (word : t.computedWord = s.computedWord)
    (h : ∀ i, StreamMove (s.stream i) (f i (s.stream i)) ∨ f i (s.stream i) = s.stream i) : StreamsMoved s t where
  streams i := by
    have same : t.stream i = f i (s.stream i) := by rw [State.stream, streams, mapStreams_getElem]; rfl
    rw [same]
    obtain m | e := h i
    · exact .single m
    · rw [e]
  word := word

/-! ### What trips, alarms, cuts and holdback do to the streams -/

theorem raiseAlarm_moved (r : Raise) (s : State) : StreamsMoved s (raiseAlarm r s) := .of_eq rfl rfl

theorem setFactors_moved (f : Factors) (s : State) : StreamsMoved s (s.setFactors f) := .of_eq rfl rfl

theorem clearAlarm_moved (c : AlarmCode) (s : State) : StreamsMoved s (clearAlarm c s) := .of_eq rfl rfl

theorem withdraw_moved (c : TripCause) (i : Fin 8) (s : State) : StreamsMoved s (withdraw c i s) where
  streams j := by
    by_cases same : j = i
    · subst same
      rw [withdraw_stream_self]
      exact .single (.withdraw c)
    · rw [withdraw_stream_other c i j s same]
  word := (withdraw_sameBlocks c i s).computedWord

/-- A trip of a burning stream is what withdrawing its permit makes of it (R48, R52). -/
theorem trip_moved {i : Fin 8} (c : TripCause) {s : State} (burning : (s.stream i).state.burning = true) :
    StreamsMoved s (trip i c s) := by
  have moved := withdraw_moved c i s
  rwa [withdraw, if_pos burning] at moved

theorem withdrawAll_moved (c : TripCause) (s : State) : StreamsMoved s (withdrawAll c s) :=
  .foldl (fun s i => withdraw_moved c i s) all8 s

theorem reportInterlocks_moved (p : Fin 8 → Bool) (s : State) : StreamsMoved s (reportInterlocks p s) := by
  refine .foldl (fun s i => ?_) all8 s
  split
  · exact withdraw_moved .interlock i s
  · exact .refl s

theorem refreshHoldback_moved (s : State) : StreamsMoved s (refreshHoldback s) := by
  rw [refreshHoldback_frame]
  exact .of_eq rfl rfl

theorem stopReported_moved (k : Fin 24) (s : State) : StreamsMoved s (stopReported k s) := by
  unfold stopReported
  split
  · exact .refl s
  · split <;> exact (refreshHoldback_moved _).after rfl rfl

theorem stopReturned_moved (k : Fin 24) (s : State) : StreamsMoved s (stopReturned k s) := by
  unfold stopReturned
  split
  · exact (refreshHoldback_moved _).after rfl rfl
  · exact .refl s

/-! ### Contacts -/

theorem raiseContact_moved (k : Fin 24) (s : State) : StreamsMoved s (raiseContact k s) := .of_eq rfl rfl

theorem clearContact_moved (k : Fin 24) (s : State) : StreamsMoved s (clearContact k s) := .of_eq rfl rfl

theorem goesAbnormal_moved (k : Fin 24) (s : State) : StreamsMoved s (goesAbnormal k s) := by
  unfold goesAbnormal
  split
  · exact .refl s
  · exact raiseContact_moved k s
  · exact (raiseContact_moved k s).trans (reportInterlocks_moved _ _)
  · exact (raiseContact_moved k s).trans (stopReported_moved k _)

theorem returnsNormal_moved (k : Fin 24) (s : State) : StreamsMoved s (returnsNormal k s) := by
  unfold returnsNormal
  split
  · exact .refl s
  · exact clearContact_moved k s
  · exact clearContact_moved k s
  · exact (clearContact_moved k s).trans (stopReturned_moved k _)

theorem actOnReading_moved (k : Fin 24) (s : State) : StreamsMoved s (actOnReading k s) := by
  unfold actOnReading
  split
  · exact goesAbnormal_moved k s
  · exact returnsNormal_moved k s

theorem sampleContact_moved (k : Fin 24) (level : Level) (s : State) : StreamsMoved s (sampleContact k level s) := by
  unfold sampleContact
  split
  · exact (actOnReading_moved k _).after rfl rfl
  · exact .of_eq rfl rfl

theorem scanContacts_moved (levels : BitVec 24) (s : State) : StreamsMoved s (scanContacts levels s) := by
  refine .foldl (fun s k => ?_) all24 s
  split
  · exact sampleContact_moved k _ s
  · exact .refl s

theorem settleCondition_moved (k : Fin 24) (before : Bool) (s : State) :
    StreamsMoved s (settleCondition k before s) := by
  unfold settleCondition
  split
  · exact clearContact_moved k s
  · split
    · exact raiseContact_moved k s
    · exact .refl s

theorem settleStop_moved (k : Fin 24) (old new : Contact) (s : State) : StreamsMoved s (settleStop k old new s) := by
  unfold settleStop
  split
  · exact stopReturned_moved k s
  · split
    · exact stopReported_moved k s
    · exact .refl s

theorem settleInterlocks_moved (old new : Contact) (s : State) : StreamsMoved s (settleInterlocks old new s) :=
  reportInterlocks_moved _ s

theorem replaceContact_moved (k : Fin 24) (new : Contact) (s : State) : StreamsMoved s (replaceContact k new s) := by
  have written : StreamsMoved s (s.modContact k fun _ => new) := .of_eq rfl rfl
  exact written.trans <| (settleCondition_moved k _ _).trans <|
    (settleInterlocks_moved _ new _).trans (settleStop_moved k _ new _)

theorem force_moved (k : Fin 24) (s : State) : StreamsMoved s (force k s) := by
  have forced : StreamsMoved s (s.modContact k fun c => { c with forced := true }) := .of_eq rfl rfl
  unfold force
  dsimp only
  split
  · exact (forced.trans (returnsNormal_moved k _)).before rfl rfl
  · exact .of_eq rfl rfl

theorem liftForce_moved (k : Fin 24) (s : State) : StreamsMoved s (liftForce k s) := by
  unfold liftForce
  dsimp only
  split
  · exact (goesAbnormal_moved k _).after rfl rfl
  · exact .of_eq rfl rfl

/-! ### Slots and cutback sets -/

theorem activate_moved (k : Fin 4) (s : State) : StreamsMoved s (activate k s) := .of_eq rfl rfl

theorem deactivate_moved (k : Fin 4) (s : State) : StreamsMoved s (deactivate k s) := .of_eq rfl rfl

theorem testIdle_moved (k : Fin 4) (v : Int) (s : State) : StreamsMoved s (testIdle k v s) := by
  unfold testIdle
  split
  · split
    · exact activate_moved k s
    · exact .of_eq rfl rfl
  · exact .refl s

theorem freshValue_moved (v : Int) (k : Fin 4) (s : State) : StreamsMoved s (freshValue v k s) := by
  unfold freshValue
  split
  · exact .refl s
  · exact testIdle_moved k v s
  · split <;> exact .of_eq rfl rfl
  · split
    · exact deactivate_moved k s
    · exact .refl s

theorem handFresh_moved (n : Fin 8) (s : State) : StreamsMoved s (handFresh n s) := by
  refine .foldl (fun s k => ?_) all4 s
  split
  · exact freshValue_moved _ k s
  · exact .refl s

theorem handStale_moved (n : Fin 8) (s : State) : StreamsMoved s (handStale n s) := by
  refine .foldl (fun s k => ?_) all4 s
  split
  · exact .of_eq rfl rfl
  · exact .refl s

theorem rewriteSet_moved (k : Fin 4) (c : CutSet) (s : State) : StreamsMoved s (rewriteSet k c s) := by
  have withdrawn : StreamsMoved s (if (s.cutSet k).state = .active then deactivate k s else s) := by
    split
    · exact deactivate_moved k s
    · exact .refl s
  have written := withdrawn.trans (u := State.modSet k (fun _ => c) _) (.of_eq rfl rfl)
  unfold rewriteSet
  dsimp only
  split
  · exact written.trans (testIdle_moved k _ _)
  · exact written

/-! ### The cooler -/

theorem takeCooler_moved (b : List Byte) (slot : Fin 8) (s : State) : StreamsMoved s (takeCooler b slot s) := by
  unfold takeCooler
  split <;> exact .of_eq rfl rfl

theorem takeManual_moved (b : List Byte) (s : State) : StreamsMoved s (takeManual b s) := by
  have manual : StreamsMoved s (s.modCooler (Cooler.toManual b)) := .of_eq rfl rfl
  exact (manual.trans (refreshHoldback_moved _)).before rfl rfl

theorem takeAuto_moved (s : State) : StreamsMoved s (takeAuto s) := by
  unfold takeAuto
  split
  · exact .refl s
  · exact .of_eq rfl rfl

theorem strokeSupervision_moved (n : Fin 4) (s : State) : StreamsMoved s (strokeSupervision n s) := by
  unfold strokeSupervision
  split
  · exact (refreshHoldback_moved _).after rfl rfl
  · exact .of_eq rfl rfl

theorem bookStroke_moved (n : Fin 4) (s : State) : StreamsMoved s (bookStroke n s) := by
  unfold bookStroke
  split
  · exact .of_eq rfl rfl
  · exact .refl s

/-! ### The dosing period -/

theorem reportDeviation_moved (i : Fin 8) (before after : Bool) (s : State) :
    StreamsMoved s (reportDeviation i before after s) := by
  unfold reportDeviation
  split
  · exact raiseAlarm_moved _ s
  · split
    · exact clearAlarm_moved _ s
    · exact .refl s

theorem periodCloses_moved (s : State) : StreamsMoved s (periodCloses s) := by
  refine .foldl (fun s i => ?_) all8 s
  have booked (f : OpenShift → OpenShift) : StreamsMoved s (State.modShift f s) := .of_eq rfl rfl
  exact (booked _).trans ((StreamsMoved.modStream (.close _)).trans (reportDeviation_moved i _ _ _))

theorem reportUnplaced_moved (x : Site) (before after : Bool) (unplaced : Int) (s : State) :
    StreamsMoved s (reportUnplaced x before after unplaced s) := by
  unfold reportUnplaced
  split
  · exact raiseAlarm_moved _ s
  · split
    · exact clearAlarm_moved _ s
    · exact .refl s

theorem writeResults_moved (x : Site) (s : State) : StreamsMoved s (writeResults x (s.allocation x) s) := by
  refine .mapStreams
    (f := fun i st => if st.limits.site = x then st.dosed ((s.allocation x).part i) else st) rfl rfl fun i => ?_
  by_cases member : (s.stream i).limits.site = x
  · simp only [if_pos member]
    exact .inl (.dose _ fun q => State.allocation_part_fits)
  · simp only [if_neg member]
    exact .inr trivial

theorem dose_moved (x : Site) (s : State) : StreamsMoved s (dose x s) := by
  have lowered : StreamsMoved s { s with streams := lowerStreams x s.streams } := by
    refine .mapStreams (f := fun _ st => if st.limits.site = x then st.lowered else st) rfl rfl fun i => ?_
    by_cases member : (s.stream i).limits.site = x
    · simp only [if_pos member]
      exact .inl .lower
    · simp only [if_neg member]
      exact .inr trivial
  exact lowered.trans ((writeResults_moved x _).trans (reportUnplaced_moved x _ _ _ _))

/-! ### Requests -/

/-- What a block makes of a command moves the streams, or refuses the command. -/
def Reply.Moved (s : State) : Reply → Prop
  | .refuse _ => True
  | .take t _ _ => StreamsMoved s t

theorem Reply.Moved.done {s t : State} {b : List Byte} (h : StreamsMoved s t) : (Reply.done t b).Moved s := h

theorem Reply.Moved.refuse {s : State} {c : ResultCode} : (Reply.refuse c).Moved s := trivial

theorem fired_moved {i : Fin 8} {s t : State} (h : StreamsMoved s t) : (fired i t).Moved s := h

theorem onStream_moved {act : Fin 8 → State → Reply} (h : ∀ i s, (act i s).Moved s) (b : List Byte)
    (s : State) : (onStream b act s).Moved s := by
  unfold onStream
  split
  · exact h _ s
  · exact .refuse

theorem onContact_moved {act : Fin 24 → State → Reply} (h : ∀ k s, (act k s).Moved s) (b : List Byte)
    (s : State) : (onContact b act s).Moved s := by
  unfold onContact
  split
  · exact h _ s
  · exact .refuse

theorem onCode_moved {act : AlarmCode → State → Reply} (h : ∀ c s, (act c s).Moved s) (b : List Byte)
    (s : State) : (onCode b act s).Moved s := by
  unfold onCode
  split
  · exact h _ s
  · exact .refuse

theorem onEntry_moved {c : AlarmCode} {s : State} {act : Entry → Reply} (h : ∀ e, (act e).Moved s) :
    (onEntry c s act).Moved s := by
  unfold onEntry
  split
  · exact h _
  · exact .refuse

/-- Opening a request leaves the streams alone. -/
theorem openRequest_moved (r : Request) (s : State) : StreamsMoved s (openRequest r s) :=
  .of_eq (openRequest_streams r s) (openRequest_computedWord r s)

/-- Everything that taking a request can do to the streams: only what its block makes of it, once owner and length are
accepted. -/
theorem takeRequest_streams {row : CommandRow} {r : Request} {act : State → Reply} {s t : State}
    (h : takeRequest row r act s = .next t) :
    StreamsMoved s t ∨
      r.link ∈ row.owners ∧ ∃ u c b, act (openRequest r s) = .take u c b ∧
        t.streams = u.streams ∧ t.computedWord = u.computedWord := by
  have answered (c : ResultCode) : StreamsMoved s (giveAnswer r.link row.code c [] (openRequest r s)) :=
    (openRequest_moved r s).before rfl rfl
  obtain ⟨-, rfl | ⟨-, ⟨-, rfl⟩ | ⟨-, -, rfl⟩ | ⟨owner, -, rfl⟩⟩⟩ := takeRequest_next h
  · exact .inl (.of_eq rfl rfl)
  · exact .inl (answered _)
  · exact .inl (answered _)
  · cases reply : act (openRequest r s) with
    | refuse c => exact .inl (answered c)
    | take u c b => exact .inr ⟨owner, u, c, b, rfl, rfl, rfl⟩

/-- A request whose block moves the streams moves the streams. -/
theorem takeRequest_moved {row : CommandRow} {r : Request} {act : State → Reply} {s t : State}
    (h : takeRequest row r act s = .next t) (moved : ∀ s, (act s).Moved s) : StreamsMoved s t := by
  obtain same | ⟨-, u, c, b, reply, streams, word⟩ := takeRequest_streams h
  · exact same
  · have taken := moved (openRequest r s)
    rw [reply] at taken
    exact ((openRequest_moved r s).trans taken).before streams word

/-! ### Firing supervision, calibration and the poll fields -/

theorem grant_moved (i : Fin 8) (s : State) : (grant i s).Moved s := by
  unfold grant
  split; · exact .refuse
  split; · exact .refuse
  split; · exact .refuse
  split; · exact .refuse
  split; · exact .refuse
  rename_i off armed _ _
  exact fired_moved (.modStream (.grant (by simpa using off) (by simpa using armed)))

theorem revoke_moved (i : Fin 8) (s : State) : (revoke i s).Moved s := fired_moved (withdraw_moved .revoke i s)

theorem light_moved (i : Fin 8) (s : State) : (light i s).Moved s := by
  unfold light
  split; · exact .refuse
  split; · exact .refuse
  rename_i ready _
  exact fired_moved (.modStream (.light (by simpa using ready)))

theorem flameProven_moved (i : Fin 8) (s : State) : (flameProven i s).Moved s := by
  unfold flameProven
  split
  case isTrue lighting => exact fired_moved (.modStream (.proven lighting))
  case isFalse => split <;> exact .refuse

theorem flameLost_moved (i : Fin 8) (s : State) : (flameLost i s).Moved s := by
  unfold flameLost
  split
  case isTrue burning => exact fired_moved (trip_moved .flameLost burning)
  case isFalse => exact fired_moved (.refl s)

theorem flame_moved (b : List Byte) (s : State) : (flame b s).Moved s := by
  refine onStream_moved (fun i s => ?_) b s
  split
  · exact flameProven_moved i s
  · exact flameLost_moved i s
  · exact .refuse

theorem hold_moved (i : Fin 8) (s : State) : (hold i s).Moved s := by
  unfold hold
  split
  case isTrue firing => exact fired_moved (.modStream (.hold firing))
  case isFalse => exact .refuse

theorem resume_moved (i : Fin 8) (s : State) : (resume i s).Moved s := by
  unfold resume
  split
  case isTrue state => exact fired_moved (.modStream (.resume state))
  case isFalse => exact .refuse

theorem stop_moved (i : Fin 8) (s : State) : (stop i s).Moved s := by
  unfold stop
  split
  case isTrue lighting => exact fired_moved (.modStream (.quench lighting))
  case isFalse =>
    split
    case isTrue state => exact fired_moved (.modStream (.stop state))
    case isFalse => exact .refuse

theorem release_moved (i : Fin 8) (s : State) : (release i s).Moved s := by
  unfold release
  split
  case isTrue tripped => exact .done ((StreamsMoved.modStream (.release tripped)).trans (clearAlarm_moved _ _))
  case isFalse => exact .refuse

theorem masterTrip_moved (s : State) : (masterTrip s).Moved s := .done (withdrawAll_moved .master s)

theorem setPoll_moved (b : List Byte) (i : Fin 8) (s : State) : (setPoll b i s).Moved s := by
  unfold setPoll
  split
  · exact .refuse
  · exact .done (.modStream (.poll _))

theorem calStart_moved (i : Fin 8) (s : State) : (calStart i s).Moved s := by
  unfold calStart
  split
  case isTrue state => exact fired_moved (.modStream (.calStart s.now state.1))
  case isFalse => exact .refuse

/-- CAL_STOP latches SHORT or DONE (R89). -/
theorem CalRecord.stopState_ne_opened (c : CalRecord) : c.stopState ≠ .opened := by
  unfold CalRecord.stopState
  split <;> decide

theorem calStop_moved (i : Fin 8) (s : State) : (calStop i s).Moved s := by
  unfold calStop
  split
  case isFalse => exact .refuse
  case isTrue calib =>
    split
    case h_1 c cal =>
      split
      case isTrue =>
        exact .done ((StreamsMoved.modStream (.calStop _ calib c.stopState_ne_opened)).trans (setFactors_moved _ _))
      case isFalse shut =>
        exact .done (.modStream (.calEnd calib (by simpa [Stream.calOpen, cal] using shut)))
    case h_2 cal => exact .done (.modStream (.calEnd calib (by simp [Stream.calOpen, cal])))

theorem calDiscard_moved (i : Fin 8) (s : State) : (calDiscard i s).Moved s := by
  unfold calDiscard
  split
  case h_1 => exact .refuse
  case h_2 c cal =>
    split
    case isTrue => exact .refuse
    case isFalse shut => exact .done (.modStream (.calDiscard (by simpa [Stream.calOpen, cal] using shut)))

/-! ### Commands of the other blocks -/

theorem listRead_moved (l : Link) (b : List Byte) (s : State) : (listRead l b s).Moved s := by
  unfold listRead
  split
  · exact .refuse
  · refine .done ?_
    split
    · exact .of_eq rfl rfl
    · exact .refl s

theorem readSite_moved (b : List Byte) (s : State) : (readSite b s).Moved s := by
  unfold readSite
  split
  · exact .refuse
  · exact .done (.refl s)

theorem readShift_moved (b : List Byte) (s : State) : (readShift b s).Moved s := by
  unfold readShift
  split; · exact .refuse
  split; · exact .done (.refl s)
  split
  · exact .done (.refl s)
  · exact .refuse

theorem readMeas_moved (b : List Byte) (s : State) : (readMeas b s).Moved s := by
  unfold readMeas
  split
  · split
    · exact .done (.refl s)
    · exact .refuse
  · split
    · exact .done (.refl s)
    · exact .refuse
  · exact .refuse

theorem readCooler_moved (b : List Byte) (s : State) : (readCooler b s).Moved s := by
  unfold readCooler
  split
  · exact .done (.refl s)
  · exact .done (.refl s)
  · exact .refuse

theorem setDemand_moved (b : List Byte) (s : State) : (setDemand b s).Moved s := by
  unfold setDemand
  split
  · exact .refuse
  · exact StreamsMoved.of_eq rfl rfl

theorem setPeriod_moved (b : List Byte) (s : State) : (setPeriod b s).Moved s := by
  unfold setPeriod
  split
  · exact .refuse
  · split
    · exact .done (.of_eq rfl rfl)
    · exact .refuse

theorem putMeas_moved (b : List Byte) (s : State) : (putMeas b s).Moved s := by
  unfold putMeas
  split
  · exact .refuse
  · refine StreamsMoved.after (handFresh_moved _ _) ?_ ?_ <;> split <;> rfl

theorem setMeasConfig_moved (b : List Byte) (s : State) : (setMeasConfig b s).Moved s := by
  unfold setMeasConfig
  split; · exact .refuse
  split; · exact .refuse
  split; · exact .refuse
  show StreamsMoved s _
  split
  · exact StreamsMoved.after (handFresh_moved _ _) rfl rfl
  · exact .of_eq rfl rfl

theorem setCutback_moved (b : List Byte) (s : State) : (setCutback b s).Moved s := by
  unfold setCutback
  split
  · split
    · exact .refuse
    · exact .done (rewriteSet_moved _ _ s)
  · exact .refuse

theorem setCooler_moved (b : List Byte) (s : State) : (setCooler b s).Moved s := by
  unfold setCooler
  split; · exact .refuse
  split; · exact .refuse
  split; · exact .refuse
  exact .done (takeCooler_moved b _ s)

theorem coolerMode_moved (b : List Byte) (s : State) : (coolerMode b s).Moved s := by
  unfold coolerMode
  split
  · exact takeManual_moved b s
  · exact .done (takeAuto_moved s)
  · exact .refuse

theorem setContact_moved (b : List Byte) (k : Fin 24) (s : State) : (setContact b k s).Moved s := by
  unfold setContact
  split; · exact .refuse
  split; · exact .refuse
  exact .done (replaceContact_moved k _ s)

theorem forceContact_moved (k : Fin 24) (s : State) : (forceContact k s).Moved s := by
  unfold forceContact
  split; · exact .refuse
  split; · exact .done (.refl s)
  exact .done (force_moved k s)

theorem unforce_moved (k : Fin 24) (s : State) : (unforce k s).Moved s := by
  unfold unforce
  split
  · exact .done (liftForce_moved k s)
  · exact .refuse

theorem setLinkTimeout_moved (b : List Byte) (s : State) : (setLinkTimeout b s).Moved s := by
  unfold setLinkTimeout
  split
  · exact .done (.of_eq rfl rfl)
  · exact .refuse

theorem ack_moved (c : AlarmCode) (s : State) : (ack c s).Moved s := by
  refine onEntry_moved fun e => ?_
  split <;> exact .done (.of_eq rfl rfl)

theorem shelve_moved (minutes : Nat) (c : AlarmCode) (s : State) : (shelve minutes c s).Moved s := by
  unfold shelve
  split
  · exact .refuse
  · refine onEntry_moved fun e => ?_
    split
    · exact .refuse
    · exact .done (.of_eq rfl rfl)

theorem unshelve_moved (c : AlarmCode) (s : State) : (unshelve c s).Moved s := by
  refine onEntry_moved fun e => ?_
  split
  · exact .done (.of_eq rfl rfl)
  · exact .refuse

theorem firstoutMode_moved (b : List Byte) (s : State) : (firstoutMode b s).Moved s := by
  unfold firstoutMode
  split
  · exact .refuse
  · split
    · exact .refuse
    · exact .done (.of_eq rfl rfl)

theorem setClock_moved (b : List Byte) (s : State) : (setClock b s).Moved s := by
  unfold setClock
  split
  · exact .refuse
  · exact .done (.of_eq rfl rfl)

theorem setShifts_moved (b : List Byte) (s : State) : (setShifts b s).Moved s := by
  unfold setShifts
  split
  · exact .done (.of_eq rfl rfl)
  · exact .refuse

theorem closeShift_moved (s : State) : (closeShift s).Moved s := by
  unfold closeShift
  split
  · exact .refuse
  · exact .done (.of_eq rfl rfl)

/-! ### Events -/

theorem next_moved {s u t : State} (h : (.next u : Result) = .next t) (moved : StreamsMoved s u) : StreamsMoved s t :=
  Host.Outcome.next.inj h ▸ moved

theorem execFrameErr_moved {l : Link} {bytes : List Byte} {s t : State} (h : execFrameErr l bytes s = .next t) :
    StreamsMoved s t := by
  unfold execFrameErr at h
  split at h
  · cases h
  · split at h <;> cases h <;> exact .of_eq rfl rfl

theorem execUnknownCmd_moved {code : Byte} {r : Request} {s t : State} (h : execUnknownCmd code r s = .next t) :
    StreamsMoved s t := by
  unfold execUnknownCmd at h
  split at h
  · cases h
  · split at h <;> cases h
    · exact .of_eq rfl rfl
    · exact (openRequest_moved r s).before rfl rfl

theorem execAbandonedTransfer_moved {l : Link} {bytes : List Byte} {s t : State}
    (h : execAbandonedTransfer l bytes s = .next t) : StreamsMoved s t := by
  unfold execAbandonedTransfer at h
  split at h <;> cases h
  exact .of_eq rfl rfl

theorem execNoFlowReport_moved {i : Fin 8} {s t : State} (h : execNoFlowReport i s = .next t) : StreamsMoved s t := by
  have reported : StreamsMoved s (s.modStream i fun x => { x with noFlowDue := false }) := .modStream .reported
  unfold execNoFlowReport at h
  split at h <;> cases h
  case isTrue.refl state =>
    refine reported.trans (trip_moved .noFlow ?_)
    rw [State.modStream_stream_self]
    obtain state | state := state <;> simp [state, FiringState.burning]
  case isFalse.refl => exact reported

theorem execLightingTimerExpiry_moved {i : Fin 8} {s t : State} (h : execLightingTimerExpiry i s = .next t) :
    StreamsMoved s t := by
  unfold execLightingTimerExpiry at h
  split at h <;> cases h
  case isTrue.refl state => exact trip_moved .lightFail (by rw [state.2]; rfl)
  case isFalse.refl => exact .refl s

theorem StreamsMoved.unhealthy {s t : State} (h : StreamsMoved s t) :
    StreamsMoved s { t with safeHealthy := false } :=
  h.before rfl rfl

theorem execSafeLinkTimerExpiry_moved {s t : State} (h : execSafeLinkTimerExpiry s = .next t) : StreamsMoved s t := by
  unfold execSafeLinkTimerExpiry at h
  split at h
  · have stopped : StreamsMoved s { s with safeTimer := none } := .of_eq rfl rfl
    have tripped := (stopped.trans (withdrawAll_moved .linkLoss _)).trans (raiseAlarm_moved safeLinkRaise _)
    exact next_moved h tripped.unhealthy
  · exact next_moved h (.refl s)

theorem execCalWindowTimeout_moved {i : Fin 8} {s t : State} (h : execCalWindowTimeout i s = .next t) :
    StreamsMoved s t := by
  unfold execCalWindowTimeout at h
  split at h
  case h_1 c cal =>
    split at h <;> cases h
    case isTrue.refl opened => exact (StreamsMoved.modStream (.calTimeout cal opened)).trans (setFactors_moved _ _)
    case isFalse.refl => exact .refl s
  case h_2 => cases h; exact .refl s

theorem execStaleTimerExpiry_moved {n : Fin 8} {s t : State} (h : execStaleTimerExpiry n s = .next t) :
    StreamsMoved s t := by
  unfold execStaleTimerExpiry at h
  split at h <;> cases h
  · exact StreamsMoved.after (handStale_moved n _) rfl rfl
  · exact .refl s

theorem execDelayTimerExpiry_moved {k : Fin 4} {s t : State} (h : execDelayTimerExpiry k s = .next t) :
    StreamsMoved s t := by
  unfold execDelayTimerExpiry at h
  split at h <;> cases h
  · exact activate_moved k s
  · exact .refl s

theorem execCoolerPeriod_moved {s t : State} (h : execCoolerPeriod s = .next t) : StreamsMoved s t := by
  unfold execCoolerPeriod at h
  split at h
  · cases h; exact .of_eq rfl rfl
  · split at h <;> cases h
    · exact .of_eq rfl rfl
    · exact StreamsMoved.after (refreshHoldback_moved _) rfl rfl

theorem execStallTimerExpiry_moved {n : Fin 4} {s t : State} (h : execStallTimerExpiry n s = .next t) :
    StreamsMoved s t := by
  unfold execStallTimerExpiry at h
  split at h <;> cases h
  · exact StreamsMoved.after (refreshHoldback_moved _) rfl rfl
  · exact .refl s

theorem execShelfExpiry_moved {c : AlarmCode} {s t : State} (h : execShelfExpiry c s = .next t) :
    StreamsMoved s t := by
  unfold execShelfExpiry at h
  split at h
  · split at h <;> cases h <;> exact .of_eq rfl rfl
  · cases h; exact .refl s

theorem execHornBIntervalExpiry_moved {s t : State} (h : execHornBIntervalExpiry s = .next t) : StreamsMoved s t := by
  unfold execHornBIntervalExpiry at h
  split at h <;> cases h <;> exact .of_eq rfl rfl

theorem execClockAdvance_moved {s t : State} (h : execClockAdvance s = .next t) : StreamsMoved s t := by
  unfold execClockAdvance at h
  split at h <;> cases h <;> exact .of_eq rfl rfl

theorem dosingPeriod_moved (s : State) :
    StreamsMoved s (dose .calc (dose .main (periodCloses { s with dosingTimer := s.period.ms }))) := by
  have restarted : StreamsMoved s { s with dosingTimer := s.period.ms } := .of_eq rfl rfl
  exact restarted.trans <| (periodCloses_moved _).trans <| (dose_moved .main _).trans (dose_moved .calc _)

theorem contactScan_moved (levels : BitVec 24) (s : State) :
    StreamsMoved s (scanContacts levels
      { s with scanTimer := 20, scanCount := (s.scanCount + 1) % 4, contactInputs := levels }) :=
  StreamsMoved.after (scanContacts_moved levels _) rfl rfl

theorem strokePulse_moved (n : Fin 4) (s : State) : StreamsMoved s (strokeSupervision n (bookStroke n s)) :=
  (bookStroke_moved n s).trans (strokeSupervision_moved n _)

/-! ### The commands that write a half, a pulse weight or everything -/

/-- Everything a command can do to the streams and the computed check word. -/
inductive StreamsAfter : Instr → State → State → Prop
  | moved {c : Instr} {s t : State} (moved : StreamsMoved s t) : StreamsAfter c s t
  | setLimits {r : Request} {s t : State} {i : Fin 8} {x : Limits} (limits : limitsOf r.body = some x)
      (ordered : x.ordered = true) (streams : t.streams = (s.modStream i (Stream.takeLimits x)).streams)
      (word : t.computedWord = checkWord t.streams) : StreamsAfter (.setLimits r) s t
  | setPlan {r : Request} {s t : State} {i : Fin 8} {p : Plan} (link : r.link = .proc) (plan : planOf r.body = some p)
      (weight : (s.stream i).state = .off ∨ p.pulseWeight = (s.stream i).plan.pulseWeight)
      (streams : t.streams = (s.modStream i (Stream.takePlan p)).streams) (word : t.computedWord = s.computedWord) :
      StreamsAfter (.setPlan r) s t
  | calAccept {r : Request} {s t : State} {i : Fin 8} {c : CalRecord} (g : Nat) (link : r.link = .proc)
      (state : (s.stream i).state ≠ .tripped) (cal : (s.stream i).acceptable = some c)
      (streams : t.streams = (s.modStream i (Stream.recalibrated g)).streams) (word : t.computedWord = s.computedWord) :
      StreamsAfter (.calAccept r) s t
  | reset {c : Instr} {s t : State}
      (command : (∃ p q d, c = .powerOnReset p q d) ∨ ∃ r p d, c = .fullReset r p d)
      (streams : t.streams = State.reset.streams) (word : t.computedWord = State.reset.computedWord) :
      StreamsAfter c s t

theorem onStream_take {b : List Byte} {act : Fin 8 → State → Reply} {s t : State} {c : ResultCode}
    {body : List Byte} (h : onStream b act s = .take t c body) : ∃ i, act i s = .take t c body := by
  unfold onStream at h
  split at h
  · exact ⟨_, h⟩
  · cases h

theorem execSetLimits_streams {r : Request} {s t : State} (h : execSetLimits r s = .next t) :
    StreamsAfter (.setLimits r) s t := by
  obtain same | ⟨-, u, c, b, reply, streams, word⟩ := takeRequest_streams h
  · exact .moved same
  obtain ⟨i, reply⟩ := onStream_take reply
  unfold setLimits at reply
  split at reply
  case h_1 => cases reply
  case h_2 x limits =>
    split at reply; · cases reply
    case isFalse ordered =>
      split at reply <;> cases reply
      have written : t.streams = (s.modStream i (Stream.takeLimits x)).streams := by
        rw [streams, State.recheck_streams, State.modStream, State.modStream, openRequest_streams]
      refine .setLimits limits (by simpa using ordered) written ?_
      rw [word, streams]
      rfl

theorem execSetPlan_streams {r : Request} {s t : State} (h : execSetPlan r s = .next t) :
    StreamsAfter (.setPlan r) s t := by
  obtain same | ⟨link, u, c, b, reply, streams, word⟩ := takeRequest_streams h
  · exact .moved same
  obtain ⟨i, reply⟩ := onStream_take reply
  unfold setPlan at reply
  split at reply
  case h_1 => cases reply
  case h_2 p plan =>
    split at reply <;> cases reply
    case isFalse.refl weight =>
      rw [openRequest_stream, not_and_or, not_not, not_not] at weight
      refine .setPlan (List.mem_singleton.mp link) plan weight ?_ (word.trans (openRequest_computedWord r s))
      rw [streams, State.modStream, State.modStream, openRequest_streams]

theorem execCalAccept_streams {r : Request} {s t : State} (h : execCalAccept r s = .next t) :
    StreamsAfter (.calAccept r) s t := by
  obtain same | ⟨link, u, c, b, reply, streams, word⟩ := takeRequest_streams h
  · exact .moved same
  obtain ⟨i, reply⟩ := onStream_take reply
  unfold calAccept at reply
  split at reply; · cases reply
  split at reply; · cases reply
  case isFalse.isFalse state =>
    split at reply <;> cases reply
    case h_2.refl c cal =>
      rw [openRequest_stream] at state cal
      refine .calAccept (acceptedWeight (u32 r.body 1) c.pulses (s.stream i).plan.pulseWeight)
        (List.mem_singleton.mp link) state cal ?_ (word.trans (openRequest_computedWord r s))
      rw [streams, State.modShift_streams, State.modStream, State.modStream, openRequest_streams]
      rfl

theorem resetAll_streams (cause : ResetCause) (p q d : Option Nat) (s : State) :
    (resetAll cause p q d s).streams = State.reset.streams := by simp only [resetAll]

theorem resetAll_computedWord (cause : ResetCause) (p q d : Option Nat) (s : State) :
    (resetAll cause p q d s).computedWord = State.reset.computedWord := by simp only [resetAll]

theorem execFullReset_streams {r : Request} {p d : Option Nat} {s t : State} (h : execFullReset r p d s = .next t) :
    StreamsAfter (.fullReset r p d) s t := by
  obtain same | ⟨-, u, c, b, reply, streams, word⟩ := takeRequest_streams h
  · exact .moved same
  unfold fullReset at reply
  split at reply <;> cases reply
  exact .reset (.inr ⟨r, p, d, rfl⟩) (streams.trans (resetAll_streams _ _ _ _ _))
    (word.trans (resetAll_computedWord _ _ _ _ _))

/-- What each command does to the streams. -/
theorem exec_streams {c : Instr} {s t : State} (h : exec c s = .next t) : StreamsAfter c s t := by
  cases c with
  | powerOnReset p q d =>
    cases h
    exact .reset (.inl ⟨p, q, d, rfl⟩) (resetAll_streams _ _ _ _ _) (resetAll_computedWord _ _ _ _ _)
  | fullReset r p d => exact execFullReset_streams h
  | setLimits r => exact execSetLimits_streams h
  | setPlan r => exact execSetPlan_streams h
  | calAccept r => exact execCalAccept_streams h
  | frameErr l bytes => exact .moved (execFrameErr_moved h)
  | unknownCmd code r => exact .moved (execUnknownCmd_moved h)
  | abandonedTransfer l bytes => exact .moved (execAbandonedTransfer_moved h)
  | nop r | status r | poll r | readFirstout r | attnMask r | attnClear r | linkReset r | setCheck r | ackAll r
  | silence r | firstoutClear r =>
    exact .moved (takeRequest_moved h fun s => .done (.of_eq rfl rfl))
  | readStream r | readCal r => exact .moved (takeRequest_moved h (onStream_moved (fun _ s => .done (.refl s)) _))
  | readContacts r => exact .moved (takeRequest_moved h (onContact_moved (fun _ s => .done (.refl s)) _))
  | readSite r => exact .moved (takeRequest_moved h (readSite_moved _))
  | listRead r => exact .moved (takeRequest_moved h (listRead_moved _ _))
  | readShift r => exact .moved (takeRequest_moved h (readShift_moved _))
  | readMeas r => exact .moved (takeRequest_moved h (readMeas_moved _))
  | readCooler r => exact .moved (takeRequest_moved h (readCooler_moved _))
  | setDemand r => exact .moved (takeRequest_moved h (setDemand_moved _))
  | setPeriod r => exact .moved (takeRequest_moved h (setPeriod_moved _))
  | light r => exact .moved (takeRequest_moved h (onStream_moved light_moved _))
  | hold r => exact .moved (takeRequest_moved h (onStream_moved hold_moved _))
  | resume r => exact .moved (takeRequest_moved h (onStream_moved resume_moved _))
  | stop r => exact .moved (takeRequest_moved h (onStream_moved stop_moved _))
  | calStart r => exact .moved (takeRequest_moved h (onStream_moved calStart_moved _))
  | calStop r => exact .moved (takeRequest_moved h (onStream_moved calStop_moved _))
  | calDiscard r => exact .moved (takeRequest_moved h (onStream_moved calDiscard_moved _))
  | putMeas r => exact .moved (takeRequest_moved h (putMeas_moved _))
  | setMeasConfig r => exact .moved (takeRequest_moved h (setMeasConfig_moved _))
  | setCutback r => exact .moved (takeRequest_moved h (setCutback_moved _))
  | setCooler r => exact .moved (takeRequest_moved h (setCooler_moved _))
  | coolerModeManual r | coolerModeAuto r => exact .moved (takeRequest_moved h (coolerMode_moved _))
  | grant r => exact .moved (takeRequest_moved h (onStream_moved grant_moved _))
  | revoke r => exact .moved (takeRequest_moved h (onStream_moved revoke_moved _))
  | flameProven r | flameLost r => exact .moved (takeRequest_moved h (flame_moved _))
  | release r => exact .moved (takeRequest_moved h (onStream_moved release_moved _))
  | masterTrip r => exact .moved (takeRequest_moved h masterTrip_moved)
  | setContact r => exact .moved (takeRequest_moved h (onContact_moved (setContact_moved _) _))
  | setPoll r => exact .moved (takeRequest_moved h (onStream_moved (setPoll_moved _) _))
  | setLinkTimeout r => exact .moved (takeRequest_moved h (setLinkTimeout_moved _))
  | ack r => exact .moved (takeRequest_moved h (onCode_moved ack_moved _))
  | shelve r => exact .moved (takeRequest_moved h (onCode_moved (shelve_moved _) _))
  | unshelve r => exact .moved (takeRequest_moved h (onCode_moved unshelve_moved _))
  | firstoutMode r => exact .moved (takeRequest_moved h (firstoutMode_moved _))
  | forceContact r => exact .moved (takeRequest_moved h (onContact_moved forceContact_moved _))
  | unforce r => exact .moved (takeRequest_moved h (onContact_moved unforce_moved _))
  | setClock r => exact .moved (takeRequest_moved h (setClock_moved _))
  | setShifts r => exact .moved (takeRequest_moved h (setShifts_moved _))
  | closeShift r => exact .moved (takeRequest_moved h closeShift_moved)
  | massPulse i => cases h; exact .moved (.modStream .pulse)
  | strokePulse n => exact .moved (next_moved h (strokePulse_moved n s))
  | dosingPeriodExpiry => exact .moved (next_moved h (dosingPeriod_moved s))
  | contactScan levels => exact .moved (next_moved h (contactScan_moved levels s))
  | noFlowReport i => exact .moved (execNoFlowReport_moved h)
  | lightingTimerExpiry i => exact .moved (execLightingTimerExpiry_moved h)
  | safeLinkTimerExpiry => exact .moved (execSafeLinkTimerExpiry_moved h)
  | calWindowTimeout i => exact .moved (execCalWindowTimeout_moved h)
  | staleTimerExpiry n => exact .moved (execStaleTimerExpiry_moved h)
  | delayTimerExpiry k => exact .moved (execDelayTimerExpiry_moved h)
  | coolerPeriod => exact .moved (execCoolerPeriod_moved h)
  | stallTimerExpiry n => exact .moved (execStallTimerExpiry_moved h)
  | shelfExpiry a => exact .moved (execShelfExpiry_moved h)
  | hornBIntervalExpiry => exact .moved (execHornBIntervalExpiry_moved h)
  | clockAdvance => exact .moved (execClockAdvance_moved h)

/-- A step with no command waiting queues an event or lets one millisecond pass over every stream. -/
theorem idle_moved (s : State) : StreamsMoved s (idle s) := by
  unfold idle
  split
  · exact .mapStreams (f := fun _ x => x.tick) rfl rfl fun i => .inl .tick
  · exact .of_eq rfl rfl

/-! ### Soundness and the pulse weight -/

/-- The check word rests on the limits halves alone (R27). -/
theorem checkWord_congr {s t : State} (h : ∀ i, (t.stream i).limits = (s.stream i).limits) :
    checkWord t.streams = checkWord s.streams := by
  unfold checkWord
  rw [State.streams_toList, State.streams_toList, List.flatMap_map, List.flatMap_map]
  simp only [h]

theorem StreamsMoved.wordSound {s t : State} (h : StreamsMoved s t) (hs : WordSound s) : WordSound t := by
  rw [WordSound, h.word, checkWord_congr h.limits]
  exact hs

/-- One stream changed in a way that keeps it sound. -/
theorem StreamsSound.modStream {s t : State} {i : Fin 8} {f : Stream → Stream} (h : StreamsSound s)
    (streams : t.streams = (s.modStream i f).streams) (hf : StreamSound (f (s.stream i))) : StreamsSound t := by
  intro j
  rw [State.stream_congr streams j, State.modStream_stream]
  split
  · exact hf
  · exact h j

/-- One stream changed with its limits half kept. -/
theorem WordSound.modStream {s t : State} {i : Fin 8} {f : Stream → Stream} (h : WordSound s)
    (streams : t.streams = (s.modStream i f).streams) (word : t.computedWord = s.computedWord)
    (limits : (f (s.stream i)).limits = (s.stream i).limits) : WordSound t := by
  rw [WordSound, word, checkWord_congr (s := s)]
  · exact h
  · intro j
    rw [State.stream_congr streams j, State.modStream_stream]
    split
    case isTrue same => rw [same, limits]
    case isFalse => rfl

theorem StreamsAfter.sound {c : Instr} {s t : State} (h : StreamsAfter c s t) (hs : StreamsSound s) :
    StreamsSound t := by
  cases h with
  | moved moved => exact moved.sound hs
  | setLimits limits ordered streams =>
    exact hs.modStream streams (Stream.takeLimits_sound (hs _) (limitsOf_sound limits ordered))
  | setPlan link plan weight streams =>
    exact hs.modStream streams (Stream.takePlan_sound (hs _) (by rw [planOf_ncv plan]; rfl))
  | calAccept g link state cal streams =>
    exact hs.modStream streams (Stream.recalibrated_sound (hs _) g (Stream.not_calOpen_of_acceptable cal))
  | reset command streams =>
    intro i
    rw [State.stream_congr streams i]
    exact resetIsSound.streams i

theorem StreamsAfter.wordSound {c : Instr} {s t : State} (h : StreamsAfter c s t) (hs : WordSound s) : WordSound t := by
  cases h with
  | moved moved => exact moved.wordSound hs
  | setLimits limits ordered streams word => exact word
  | setPlan link plan weight streams word => exact hs.modStream streams word rfl
  | calAccept g link state cal streams word => exact hs.modStream streams word rfl
  | reset command streams word => rw [WordSound, streams, word]; exact resetIsSound.word

/-- A step moves the streams as the device clock or as the command at the front of the queue. -/
theorem step_streams {s t : State} (h : step s = .next t) :
    StreamsMoved s t ∨ ∃ c rest, StreamsAfter c { s with pending := rest } t := by
  unfold step at h
  split at h
  · cases h; exact .inl (idle_moved s)
  · exact .inr ⟨_, _, exec_streams h⟩

/-- Settles O57, by what a step does to the streams. -/
theorem stepKeepsStreamsSound : Obligations.StepKeepsStreamsSound := by
  refine ⟨fun s t hs h => ?_, fun s t hs h => ?_⟩
  · obtain moved | ⟨c, rest, after⟩ := step_streams h
    · exact moved.sound hs
    · exact after.sound hs
  · obtain moved | ⟨c, rest, after⟩ := step_streams h
    · exact moved.wordSound hs
    · exact after.wordSound hs

/-- A pulse weight that differs after a change of one stream differs at that stream. -/
theorem pulseWeight_modStream {s t : State} {i j : Fin 8} {f : Stream → Stream}
    (streams : t.streams = (s.modStream i f).streams)
    (h : (t.stream j).plan.pulseWeight ≠ (s.stream j).plan.pulseWeight) :
    j = i ∧ (f (s.stream i)).plan.pulseWeight ≠ (s.stream i).plan.pulseWeight := by
  rw [State.stream_congr streams j, State.modStream_stream] at h
  split at h
  case isTrue same => subst same; exact ⟨rfl, h⟩
  case isFalse => exact absurd rfl h

/-- Settles O17, by what each command does to the streams. -/
theorem pulseWeightKept : Obligations.PulseWeightKept := by
  intro c s t i h changed
  cases exec_streams h with
  | moved moved => exact absurd (by rw [moved.plan]) changed
  | setLimits limits ordered streams => exact absurd rfl (pulseWeight_modStream streams changed).2
  | setPlan link plan weight streams =>
    obtain ⟨rfl, differs⟩ := pulseWeight_modStream streams changed
    exact .inl ⟨_, rfl, link, weight.resolve_right differs⟩
  | calAccept g link state cal streams =>
    obtain ⟨rfl, -⟩ := pulseWeight_modStream streams changed
    exact .inr (.inl ⟨_, rfl, link, state⟩)
  | reset command => exact .inr (.inr command)

end Sys2Proof.Machine
end

section
/-! PROOFS. The commands of the Stream Table, each in every state: what a body carries, when it is refused, and the
state and the answer when it is taken (R18 to R25, R29, R31, R32). -/

namespace Sys2Proof.Machine

/-! ### Encodings and indices -/

theorem siteOf_eq_some {v : Nat} {x : Site} : siteOf v = some x ↔ v = siteByte x := by
  unfold siteOf
  split <;> cases x <;> simp_all [siteByte]

theorem holdoffOf_eq_some {v : Nat} {x : Holdoff} : holdoffOf v = some x ↔ v = holdoffByte x := by
  unfold holdoffOf
  split <;> cases x <;> simp_all [holdoffByte]

theorem pollLineOf_eq_some {v : Nat} {x : Option (Fin 8)} : pollLineOf v = some x ↔ v = pollLineByte x := by
  unfold pollLineOf
  cases x with
  | none =>
    split
    · simp [pollLineByte]; omega
    · simp [pollLineByte]
  | some k =>
    split
    · simp [pollLineByte, Fin.ext_iff]
    · simp [pollLineByte]; omega

theorem pollSenseOf_eq_some {v : Nat} {x : PollSense} :
    pollSenseOf v = some x ↔ v = if x = .setWhenTrue then 0x00 else 0x01 := by
  unfold pollSenseOf
  split <;> cases x <;> simp_all

theorem pollCondOf_eq_some {v : Nat} {x : PollCond} :
    pollCondOf v = some x ↔ v = if x = .burning then 0x00 else 0x01 := by
  unfold pollCondOf
  split <;> cases x <;> simp_all

theorem index8_val (i : Fin 8) : index8 i.val = some i := by simp [index8]

theorem index4_val (k : Fin 4) : index4 k.val = some k := by simp [index4]

theorem index24_val (k : Fin 24) : index24 k.val = some k := by simp [index24]

theorem onStream_of {body : List Byte} {i : Fin 8} (h : u8 body 0 = i.val) (act : Fin 8 → State → Reply) (s : State) :
    onStream body act s = act i s := by
  simp only [onStream, h, index8_val]

theorem onContact_of {body : List Byte} {k : Fin 24} (h : u8 body 0 = k.val) (act : Fin 24 → State → Reply)
    (s : State) : onContact body act s = act k s := by
  simp only [onContact, h, index24_val]

theorem within_iff {lo hi v : Nat} : within lo hi v = true ↔ lo ≤ v ∧ v ≤ hi := by simp [within]

/-- A field of two bytes is at most 65,535. -/
theorem u16_le (b : List Byte) (k : Nat) : u16 b k ≤ 65535 := by
  have high : u8 b k < 256 := BitVec.isLt _
  have low : u8 b (k + 1) < 256 := BitVec.isLt _
  unfold u16
  omega

/-! ### SET_LIMITS -/

theorem limitsOf_iff {b : List Byte} {x : Limits} : limitsOf b = some x ↔
    u8 b 1 = siteByte x.site ∧ x.scale = u16 b 2 ∧ x.min = u16 b 4 ∧ x.max = u16 b 6 ∧ x.ramp = u16 b 8 ∧
    x.lightOff = u8 b 10 ∧ u8 b 11 = holdoffByte x.holdoff ∧ x.noFlowCount = u8 b 12 ∧
    1000 ≤ x.scale ∧ x.scale ≤ 60000 ∧ 1 ≤ x.ramp ∧ x.ramp ≤ 60000 ∧ 5 ≤ x.lightOff ∧ x.lightOff ≤ 60 ∧
    4 ≤ x.noFlowCount ∧ x.noFlowCount ≤ 60 := by
  constructor
  · intro h
    unfold limitsOf at h
    split at h
    case h_2 => cases h
    case h_1 site holdoff hsite hholdoff =>
      split at h <;> cases h
      case isTrue.refl ranges =>
        simp only [Bool.and_eq_true, within_iff] at ranges
        obtain ⟨⟨⟨scale, ramp⟩, light⟩, count⟩ := ranges
        exact ⟨siteOf_eq_some.mp hsite, rfl, rfl, rfl, rfl, rfl, holdoffOf_eq_some.mp hholdoff, rfl, scale.1, scale.2,
          ramp.1, ramp.2, light.1, light.2, count.1, count.2⟩
  · obtain ⟨site, scale, min, max, ramp, light, holdoff, count⟩ := x
    rintro ⟨hsite, rfl, rfl, rfl, rfl, rfl, hholdoff, rfl, ranges⟩
    have site := siteOf_eq_some.mpr hsite
    have holdoff := holdoffOf_eq_some.mpr hholdoff
    simp [limitsOf, site, holdoff, within_iff, ranges]

theorem Limits.ordered_iff (x : Limits) : x.ordered = true ↔ x.min ≤ x.max ∧ x.max ≤ x.scale := by
  simp [Limits.ordered]

theorem execSetLimits_sent {r : Request} {s : State} {i : Fin 8} (h : Sent Cmd.setLimits.owners 13 r s)
    (index : u8 r.body 0 = i.val) :
    execSetLimits r s =
      .next (settleReply .safe 0x40#8 (openRequest r s) (setLimits r.body i (openRequest r s))) := by
  rw [execSetLimits, takeRequest_of_sent h (by decide) (by decide), onStream_of index, List.mem_singleton.mp h.link]
  rfl

theorem setLimits_range {b : List Byte} (i : Fin 8) (s : State) (h : limitsOf b = none) :
    setLimits b i s = .refuse .range := by
  simp only [setLimits, h]

theorem setLimits_unordered {b : List Byte} {x : Limits} (i : Fin 8) (s : State) (limits : limitsOf b = some x)
    (h : x.min > x.max ∨ x.max > x.scale) : setLimits b i s = .refuse .range := by
  have unordered : x.ordered = false := by
    rw [Bool.eq_false_iff, ne_eq, x.ordered_iff]
    omega
  simp [setLimits, limits, unordered]

theorem setLimits_wrongState {b : List Byte} {x : Limits} {i : Fin 8} {s : State} (limits : limitsOf b = some x)
    (ordered : x.ordered = true) (site : x.site ≠ (s.stream i).limits.site) (state : (s.stream i).state ≠ .off) :
    setLimits b i s = .refuse .wrongState := by
  simp [setLimits, limits, ordered, site, state]

theorem setLimits_taken {b : List Byte} {x : Limits} {i : Fin 8} {s : State} (limits : limitsOf b = some x)
    (ordered : x.ordered = true) (h : x.site = (s.stream i).limits.site ∨ (s.stream i).state = .off) :
    setLimits b i s =
      .done (s.modStream i (Stream.takeLimits x)).recheck
        (be16 (s.modStream i (Stream.takeLimits x)).recheck.computedWord.toNat) := by
  have passes : ¬(x.site ≠ (s.stream i).limits.site ∧ (s.stream i).state ≠ .off) := by tauto
  simp only [setLimits, limits, ordered, Bool.not_true, Bool.false_eq_true, if_false, if_neg passes]

/-- The pair rule clears the other marker of a stream that is OFF with the written one set (R25). -/
theorem pairRule_iff (f : FiringState) (written other : Bool) :
    pairRule f written other = true ↔ other = true ∧ ¬(f = .off ∧ written = true) := by
  unfold pairRule
  by_cases off : f = .off <;> cases written <;> simp [off]

/-- A clamp into limits in order, as a maximum and a minimum. -/
theorem clampNat_eq {lo hi : Nat} (x : Nat) (h : lo ≤ hi) : clampNat lo hi x = max lo (min hi x) := by
  unfold clampNat
  split
  · omega
  · split <;> omega

/-- The output under new limits of a BURNING stream that is not STOPPING (R20). -/
theorem clampedOutput_firing {f : FiringState} {x : Limits} (output : Nat) (ordered : x.min ≤ x.max)
    (h : f = .lighting ∨ f = .firing ∨ f = .held ∨ f = .calib) :
    clampedOutput f x output = max x.min (min x.max output) := by
  obtain rfl | rfl | rfl | rfl := h <;> exact clampNat_eq output ordered

/-- Settles O15: the body by `limitsOf_iff`, then the checks in their order; the stream taken is `Stream.takeLimits`. -/
theorem setLimitsReplacesHalf : Obligations.SetLimitsReplacesHalf := by
  refine ⟨fun b x => limitsOf_iff,
    fun r s i h index => ⟨fun none => ?range, fun x limits => ⟨?unordered, ?site, ?taken⟩⟩⟩
  case range => exact (execSetLimits_sent h index).trans (by rw [setLimits_range _ _ none, settleReply_refuse])
  case unordered =>
    intro unordered
    exact (execSetLimits_sent h index).trans (by rw [setLimits_unordered _ _ limits unordered, settleReply_refuse])
  case site =>
    intro low high site state
    rw [← openRequest_stream r s i] at site state
    exact (execSetLimits_sent h index).trans
      (by rw [setLimits_wrongState limits (x.ordered_iff.mpr ⟨low, high⟩) site state, settleReply_refuse])
  case taken =>
    intro low high passes
    rw [← openRequest_stream r s i] at passes
    refine ⟨((openRequest r s).modStream i (Stream.takeLimits x)).recheck, ?_, rfl, fun j other => ?_, ?_, ?_, ?_⟩
    · exact (execSetLimits_sent h index).trans
        (by rw [setLimits_taken limits (x.ordered_iff.mpr ⟨low, high⟩) passes, settleReply_done, be16])
    · simp [other]
    all_goals rw [State.recheck_stream, State.modStream_stream_self, openRequest_stream]
    · rfl
    · exact pairRule_iff _ _ _
    · refine ⟨clampedOutput_firing _ low, fun stopping => ?_, clampedOutput_resting x _⟩
      rw [Stream.takeLimits, stopping]
      exact Nat.min_comm _ _

/-! ### SET_PLAN -/

theorem planOf_iff {b : List Byte} {p : Plan} : planOf b = some p ↔
    p.ncv = some (u16 b 1) ∧ p.weight = u8 b 3 ∧ p.rank = u8 b 4 ∧ p.pulseWeight = u16 b 5 ∧ p.band = u8 b 7 ∧
    p.devCount = u8 b 8 ∧ 5000 ≤ u16 b 1 ∧ u16 b 1 ≤ 40000 ∧ p.weight ≤ 100 ∧ 1 ≤ p.rank ∧ p.rank ≤ 8 ∧
    1 ≤ p.pulseWeight ∧ p.pulseWeight ≤ 65535 ∧ 5 ≤ p.band ∧ p.band ≤ 50 ∧ 4 ≤ p.devCount ∧ p.devCount ≤ 60 := by
  constructor
  · intro h
    unfold planOf at h
    split at h <;> cases h
    case isTrue.refl ranges =>
      simp only [Bool.and_eq_true, within_iff, decide_eq_true_eq] at ranges
      obtain ⟨⟨⟨⟨⟨ncv, weight⟩, rank⟩, pulse⟩, band⟩, count⟩ := ranges
      exact ⟨rfl, rfl, rfl, rfl, rfl, rfl, ncv.1, ncv.2, weight, rank.1, rank.2, pulse.1, pulse.2, band.1, band.2,
        count.1, count.2⟩
  · obtain ⟨ncv, weight, rank, pulse, band, count⟩ := p
    rintro ⟨rfl, rfl, rfl, rfl, rfl, rfl, ranges⟩
    simp [planOf, within_iff, ranges]

theorem execSetPlan_sent {r : Request} {s : State} {i : Fin 8} (h : Sent Cmd.setPlan.owners 9 r s)
    (index : u8 r.body 0 = i.val) :
    execSetPlan r s = .next (settleReply .proc 0x21#8 (openRequest r s) (setPlan r.body i (openRequest r s))) := by
  rw [execSetPlan, takeRequest_of_sent h (by decide) (by decide), onStream_of index, List.mem_singleton.mp h.link]
  rfl

theorem setPlan_range {b : List Byte} (i : Fin 8) (s : State) (h : planOf b = none) :
    setPlan b i s = .refuse .range := by
  simp only [setPlan, h]

theorem setPlan_wrongState {b : List Byte} {p : Plan} {i : Fin 8} {s : State} (plan : planOf b = some p)
    (state : (s.stream i).state ≠ .off) (weight : p.pulseWeight ≠ (s.stream i).plan.pulseWeight) :
    setPlan b i s = .refuse .wrongState := by
  simp [setPlan, plan, state, weight]

theorem setPlan_taken {b : List Byte} {p : Plan} {i : Fin 8} {s : State} (plan : planOf b = some p)
    (h : (s.stream i).state = .off ∨ p.pulseWeight = (s.stream i).plan.pulseWeight) :
    setPlan b i s = .done (s.modStream i (Stream.takePlan p)) [] := by
  have passes : ¬((s.stream i).state ≠ .off ∧ p.pulseWeight ≠ (s.stream i).plan.pulseWeight) := by tauto
  simp only [setPlan, plan, if_neg passes]

/-- A stream under a SET_PLAN taken, the pair rule written out (R23, R25). -/
theorem Stream.takePlan_eq (p : Plan) :
    Stream.takePlan p = fun x =>
      { x with
        plan := p
        planSet := true
        limitsSet := if x.state = .off ∧ x.planSet = true then false else x.limitsSet } := by
  funext x
  simp [Stream.takePlan, pairRule]

/-- Settles O16: the body by `planOf_iff`, then the checks in their order. -/
theorem setPlanReplacesHalf : Obligations.SetPlanReplacesHalf := by
  refine ⟨fun b p => planOf_iff,
    fun r s i h index => ⟨fun none => ?range, fun p plan => ⟨planOf_ncv plan, ?state, ?taken⟩⟩⟩
  case range => exact (execSetPlan_sent h index).trans (by rw [setPlan_range _ _ none, settleReply_refuse])
  case state =>
    intro state weight
    rw [← openRequest_stream r s i] at state weight
    exact (execSetPlan_sent h index).trans (by rw [setPlan_wrongState plan state weight, settleReply_refuse])
  case taken =>
    intro passes
    rw [← openRequest_stream r s i] at passes
    exact (execSetPlan_sent h index).trans (by rw [setPlan_taken plan passes, settleReply_done, Stream.takePlan_eq])

/-! ### SET_CHECK -/

/-- A word written high byte first is the two bytes it was read from (R173). -/
theorem be16_u16 (b : List Byte) (k : Nat) : be16 (u16 b k) = [b.getD k 0, b.getD (k + 1) 0] := by
  have high : u8 b k < 256 := BitVec.isLt _
  have low : u8 b (k + 1) < 256 := BitVec.isLt _
  have quotient : u16 b k / 256 = u8 b k := by unfold u16; omega
  have rest : u16 b k % 256 = u8 b (k + 1) := by unfold u16; omega
  simp only [be16, be8, List.singleton_append, List.cons.injEq, and_true]
  refine ⟨BitVec.eq_of_toNat_eq ?_, BitVec.eq_of_toNat_eq ?_⟩
  · rw [BitVec.toNat_ofNat, quotient]
    exact Nat.mod_eq_of_lt high
  · rw [BitVec.toNat_ofNat]
    exact rest

/-- The match indication compares the carried word with the computed one (R29). -/
theorem flagByte_wordMatch (b : List Byte) (w : BitVec 16) :
    flagByte (BitVec.ofNat 16 (u16 b 0) == w) = if u16 b 0 = w.toNat then 1 else 0 := by
  have bound := u16_le b 0
  have same : BitVec.ofNat 16 (u16 b 0) = w ↔ u16 b 0 = w.toNat := by
    rw [← BitVec.toNat_inj, BitVec.toNat_ofNat, Nat.mod_eq_of_lt (by omega)]
  simp [flagByte, same]

theorem setCheck_eq (b : List Byte) (s : State) :
    setCheck b s =
      .done { s with expectedWord := BitVec.ofNat 16 (u16 b 0) }
        ([b.getD 0 0, b.getD 1 0] ++ be16 s.computedWord.toNat ++
          be8 (if u16 b 0 = s.computedWord.toNat then 1 else 0)) := by
  rw [setCheck, be16_u16, flagByte_wordMatch]

/-- Settles O18: SET_CHECK makes no check of its own, so only the owner decides. -/
theorem setCheckStoresWord : Obligations.SetCheckStoresWord := by
  refine ⟨fun r s h => ?_, fun r s h => ?_⟩
  · have taken : exec (.setCheck r) s = _ := takeRequest_of_sent (row := Cmd.setCheck) h (by decide) (by decide)
    rw [taken, setCheck_eq, settleReply_done, ← openRequest_computedWord r s, List.mem_singleton.mp h.link]
    rfl
  · have foreign : r.link ∉ Cmd.setCheck.owners := by
      obtain link | link := List.mem_pair.mp h.link <;> rw [link] <;> decide
    exact takeRequest_notOwner foreign (by rw [h.length]; decide) h.whole

/-! ### SET_POLL and POLL -/

theorem pollOf_iff {b : List Byte} {p : Poll} : pollOf b = some p ↔
    u8 b 1 = pollLineByte p.line ∧ u8 b 2 = (if p.sense = .setWhenTrue then 0x00 else 0x01) ∧
    u8 b 3 = (if p.cond = .burning then 0x00 else 0x01) := by
  rw [← pollLineOf_eq_some, ← pollSenseOf_eq_some, ← pollCondOf_eq_some]
  obtain ⟨line, sense, cond⟩ := p
  unfold pollOf
  split
  case h_1 hline hsense hcond => simp [hline, hsense, hcond]
  case h_2 none =>
    simp only [reduceCtorEq, false_iff]
    rintro ⟨hline, hsense, hcond⟩
    exact none _ _ _ hline hsense hcond

theorem execSetPoll_sent {r : Request} {s : State} {i : Fin 8} (h : Sent Cmd.setPoll.owners 4 r s)
    (index : u8 r.body 0 = i.val) :
    execSetPoll r s = .next (settleReply .safe 0x48#8 (openRequest r s) (setPoll r.body i (openRequest r s))) := by
  rw [execSetPoll, takeRequest_of_sent h (by decide) (by decide), onStream_of index, List.mem_singleton.mp h.link]
  rfl

/-- A set of streams as a binary number, stream 0 its lowest bit. -/
theorem streamSet_eq_bit (p : Fin 8 → Bool) :
    streamSet p = Nat.bit (p 0) (Nat.bit (p 1) (Nat.bit (p 2) (Nat.bit (p 3) (Nat.bit (p 4) (Nat.bit (p 5)
      (Nat.bit (p 6) (Nat.bit (p 7) 0))))))) := by
  simp only [streamSet, all8, List.map_cons, List.map_nil, List.sum_cons, List.sum_nil, Nat.bit_val, bit]
  have digit (n : Nat) (b : Bool) : (if b then 2 ^ n else 0) = b.toNat * 2 ^ n := by cases b <;> simp
  simp only [digit]
  simp
  omega

/-- Bit n of a set of streams stands for stream n (R173). -/
theorem getLsbD_streamSet (p : Fin 8 → Bool) (n : Fin 8) : (BitVec.ofNat 8 (streamSet p)).getLsbD n.val = p n := by
  rw [BitVec.getLsbD_ofNat, streamSet_eq_bit]
  fin_cases n <;> simp [Nat.testBit_bit_succ]

theorem AlarmUnit.holdsUnacked_iff (a : AlarmUnit) (c : AlarmCode) :
    a.holdsUnacked c = true ↔ ∃ e, a.find c = some e ∧ (e.state = .activeUnack ∨ e.state = .clearedUnack) := by
  unfold AlarmUnit.holdsUnacked
  cases a.find c <;> simp [Entry.unacked]

/-- The poll condition of a stream (R32, item 1). -/
theorem pollCondition_iff (s : State) (i : Fin 8) :
    pollCondition s i = true ↔
      if (s.stream i).poll.cond = .burning then (s.stream i).state.burning = true
      else ∃ e, ((s.au.find (.streamTrip i) = some e ∨ s.au.find (.streamDeviation i) = some e) ∧
        (e.state = .activeUnack ∨ e.state = .clearedUnack)) := by
  unfold pollCondition
  cases (s.stream i).poll.cond with
  | burning => simp
  | unacked => simp [AlarmUnit.holdsUnacked_iff, or_and_right, exists_or]

/-- A stream's value is one when its condition is as its sense names it (R32, item 2). -/
theorem pollValue_iff (s : State) (i : Fin 8) :
    pollValue s i = true ↔ ((s.stream i).poll.sense = .setWhenTrue ↔ pollCondition s i = true) := by
  unfold pollValue
  cases (s.stream i).poll.sense <;> simp

theorem pollLine_iff (s : State) (line : Fin 8) :
    pollLine s line = true ↔ ∃ i, (s.stream i).poll.line = some line ∧ pollValue s i = true := by
  simp [pollLine, List.any_eq_true, mem_all8]

/-- Settles O19: the poll byte bit by bit, each line by the streams that name it. -/
theorem pollLinesFollowStreams : Obligations.PollLinesFollowStreams := by
  refine ⟨fun b p => pollOf_iff, fun r s i h index => ⟨fun p poll => ?_, fun none => ?_⟩, fun r s h => ?_⟩
  · exact (execSetPoll_sent h index).trans (by simp only [setPoll, poll, settleReply_done])
  · exact (execSetPoll_sent h index).trans (by simp only [setPoll, none, settleReply_refuse])
  · refine ⟨BitVec.ofNat 8 (streamSet (pollLine (openRequest r s))),
      takeRequest_of_sent (row := Cmd.poll) h (by decide) (by decide), fun line => ?_⟩
    simp only [getLsbD_streamSet, pollLine_iff, pollValue_iff, pollCondition_iff, openRequest_stream]

end Sys2Proof.Machine
end

section
/-! PROOFS. The READ commands: each is answered with its readout or its refusal over the opened state, which holds the
same records as the state before it (R30, R75, R95, R102, R127, R137, R156, R170). -/

namespace Sys2Proof.Machine

/-! ### What opening a request leaves of a readout -/

theorem siteReadout_openRequest (x : Site) (r : Request) (s : State) :
    siteReadout x (openRequest r s) = siteReadout x s := by
  simp only [siteReadout, openRequest_siteRec, openRequest_period]

theorem contactReadout_openRequest (k : Fin 24) (r : Request) (s : State) :
    contactReadout k (openRequest r s) = contactReadout k s := by
  simp only [contactReadout, openRequest_contact]

theorem generalReadout_openRequest (r : Request) (s : State) : generalReadout (openRequest r s) = generalReadout s := by
  simp only [generalReadout, openRequest_cooler, openRequest_slot]

theorem slotReadout_openRequest (n : Fin 8) (r : Request) (s : State) :
    slotReadout n (openRequest r s) = slotReadout n s := by
  simp only [slotReadout, openRequest_slot]

theorem setReadout_openRequest (k : Fin 4) (r : Request) (s : State) :
    setReadout k (openRequest r s) = setReadout k s := by
  simp only [setReadout, openRequest_cutSet, openRequest_slot]

/-- Opening a request leaves the first-out record alone. -/
theorem openRequest_firstOut (r : Request) (s : State) : (openRequest r s).au.firstOut = s.au.firstOut := by
  rw [openRequest_au]
  split
  · exact AlarmUnit.clear_firstOut _ _
  · rfl

/-! ### What each READ makes of its body -/

theorem readSite_of {b : List Byte} {x : Site} (s : State) (h : u8 b 0 = siteByte x) :
    readSite b s = .done s (siteReadout x s) := by
  simp only [readSite, siteOf_eq_some.mpr h]

theorem readSite_range {b : List Byte} (s : State) (h : 1 < u8 b 0) : readSite b s = .refuse .range := by
  have none : siteOf (u8 b 0) = none := by
    rw [Option.eq_none_iff_forall_ne_some]
    intro x site
    rw [siteOf_eq_some] at site
    cases x <;> simp [siteByte] at site <;> omega
  simp only [readSite, none]

theorem onContact_badIndex {b : List Byte} (act : Fin 24 → State → Reply) (s : State) (h : 23 < u8 b 0) :
    onContact b act s = .refuse .badIndex := by
  simp [onContact, index24, Nat.not_lt.mpr h]

theorem readCooler_badIndex {b : List Byte} (s : State) (h : 1 < u8 b 0) : readCooler b s = .refuse .badIndex := by
  unfold readCooler
  split
  · omega
  · omega
  · rfl

theorem readMeas_slot {b : List Byte} {n : Fin 8} (s : State) (kind : u8 b 0 = 0) (h : u8 b 1 = n.val) :
    readMeas b s = .done s (slotReadout n s) := by
  simp only [readMeas, kind, h, index8_val]

theorem readMeas_set {b : List Byte} {k : Fin 4} (s : State) (kind : u8 b 0 = 1) (h : u8 b 1 = k.val) :
    readMeas b s = .done s (setReadout k s) := by
  simp only [readMeas, kind, h, index4_val]

theorem readMeas_badIndex {b : List Byte} (s : State) (h : u8 b 0 = 0 ∧ 7 < u8 b 1 ∨ u8 b 0 = 1 ∧ 3 < u8 b 1) :
    readMeas b s = .refuse .badIndex := by
  obtain ⟨kind, high⟩ | ⟨kind, high⟩ := h
  · simp only [readMeas, kind, index8_none high]
  · simp [readMeas, kind, index4, Nat.not_lt.mpr high]

theorem readMeas_range {b : List Byte} (s : State) (h : 1 < u8 b 0) : readMeas b s = .refuse .range := by
  unfold readMeas
  split
  · omega
  · omega
  · rfl

theorem readShift_badIndex {b : List Byte} (s : State) (h : 2 < u8 b 4) : readShift b s = .refuse .badIndex := by
  simp [readShift, h]

theorem readShift_current {b : List Byte} {s : State} (selector : u8 b 4 ≤ 2) (h : u32 b 0 = s.su.shift.number) :
    readShift b s = .done s (shiftPart s.su (u8 b 4) none) := by
  simp [readShift, Nat.not_lt.mpr selector, h]

theorem readShift_closed {b : List Byte} {s : State} {c : ClosedShift} (selector : u8 b 4 ≤ 2)
    (other : u32 b 0 ≠ s.su.shift.number) (h : s.su.closedShift (u32 b 0) = some c) :
    readShift b s = .done s (shiftPart s.su (u8 b 4) (some c)) := by
  simp [readShift, Nat.not_lt.mpr selector, other, h]

theorem readShift_noEntry {b : List Byte} {s : State} (selector : u8 b 4 ≤ 2)
    (other : u32 b 0 ≠ s.su.shift.number) (h : ∀ c ∈ s.su.history, c.number ≠ u32 b 0) :
    readShift b s = .refuse .noEntry := by
  have none : s.su.closedShift (u32 b 0) = none := by simpa [ShiftUnit.closedShift] using h
  simp [readShift, Nat.not_lt.mpr selector, other, none]

/-! ### The READ commands on their links -/

theorem execReadStream_sent {r : Request} {s : State} {i : Fin 8} (h : Sent anyLink 1 r s)
    (index : u8 r.body 0 = i.val) :
    execReadStream r s =
      .next (giveAnswer r.link 0x03#8 .ok (streamReadout i (openRequest r s)) (openRequest r s)) := by
  rw [execReadStream, takeRequest_of_sent h (by decide) (by decide), onStream_of index]
  rfl

theorem execReadCal_sent {r : Request} {s : State} {i : Fin 8} (h : Sent anyLink 1 r s)
    (index : u8 r.body 0 = i.val) :
    execReadCal r s = .next (giveAnswer r.link 0x0C#8 .ok (calReadout (s.stream i)) (openRequest r s)) := by
  rw [execReadCal, takeRequest_of_sent h (by decide) (by decide), onStream_of index, readCal, openRequest_stream]
  rfl

theorem execReadSite_sent {r : Request} {s : State} (h : Sent anyLink 1 r s) :
    execReadSite r s = .next (settleReply r.link 0x04#8 (openRequest r s) (readSite r.body (openRequest r s))) :=
  takeRequest_of_sent h (by decide) (by decide)

theorem execReadContacts_sent {r : Request} {s : State} (h : Sent anyLink 1 r s) :
    execReadContacts r s =
      .next (settleReply r.link 0x0B#8 (openRequest r s) (onContact r.body readContacts (openRequest r s))) :=
  takeRequest_of_sent h (by decide) (by decide)

theorem execReadCooler_sent {r : Request} {s : State} (h : Sent anyLink 1 r s) :
    execReadCooler r s = .next (settleReply r.link 0x0A#8 (openRequest r s) (readCooler r.body (openRequest r s))) :=
  takeRequest_of_sent h (by decide) (by decide)

theorem execReadMeas_sent {r : Request} {s : State} (h : Sent anyLink 2 r s) :
    execReadMeas r s = .next (settleReply r.link 0x09#8 (openRequest r s) (readMeas r.body (openRequest r s))) :=
  takeRequest_of_sent h (by decide) (by decide)

theorem execReadShift_sent {r : Request} {s : State} (h : Sent anyLink 5 r s) :
    execReadShift r s = .next (settleReply r.link 0x08#8 (openRequest r s) (readShift r.body (openRequest r s))) :=
  takeRequest_of_sent h (by decide) (by decide)

theorem execReadFirstout_sent {r : Request} {s : State} (h : Sent anyLink 0 r s) :
    execReadFirstout r s =
      .next (giveAnswer r.link 0x07#8 .ok (firstOutBytes s.au.firstOut) (openRequest r s)) := by
  rw [execReadFirstout, takeRequest_of_sent h (by decide) (by decide), readFirstout, openRequest_firstOut]
  rfl

/-- Settles O20, command by command. -/
theorem readsChangeNothing : Obligations.ReadsChangeNothing := by
  refine ⟨fun r s i h index => ⟨execReadStream_sent h index, execReadCal_sent h index⟩, fun r s x h site => ?site,
    fun r s h => ⟨fun high => ?siteRange, fun high => ?contactIndex⟩, fun r s k h index => ?contact,
    fun r s h => ⟨fun zero => ?general, fun one => ?sections, fun high => ?coolerIndex⟩,
    fun r s h => ⟨fun n kind index => ?slot, fun k kind index => ?set, fun high => ?measIndex, fun high => ?measRange⟩,
    fun r s h => execReadFirstout_sent h, fun r s h high => ?shiftIndex,
    fun r s h selector => ⟨fun current => ?current, fun other c held => ?closed, fun other none => ?noEntry⟩⟩
  case site =>
    exact (execReadSite_sent h).trans (by rw [readSite_of _ site, settleReply_done, siteReadout_openRequest])
  case siteRange => exact (execReadSite_sent h).trans (by rw [readSite_range _ high, settleReply_refuse])
  case contactIndex =>
    exact (execReadContacts_sent h).trans (by rw [onContact_badIndex _ _ high, settleReply_refuse])
  case contact =>
    exact (execReadContacts_sent h).trans
      (by rw [onContact_of index, readContacts, settleReply_done, contactReadout_openRequest])
  case general =>
    exact (execReadCooler_sent h).trans
      (by simp only [readCooler, zero, settleReply_done, generalReadout_openRequest])
  case sections =>
    exact (execReadCooler_sent h).trans (by simp only [readCooler, one, settleReply_done, openRequest_cooler])
  case coolerIndex => exact (execReadCooler_sent h).trans (by rw [readCooler_badIndex _ high, settleReply_refuse])
  case slot =>
    exact (execReadMeas_sent h).trans (by rw [readMeas_slot _ kind index, settleReply_done, slotReadout_openRequest])
  case set =>
    exact (execReadMeas_sent h).trans (by rw [readMeas_set _ kind index, settleReply_done, setReadout_openRequest])
  case measIndex => exact (execReadMeas_sent h).trans (by rw [readMeas_badIndex _ high, settleReply_refuse])
  case measRange => exact (execReadMeas_sent h).trans (by rw [readMeas_range _ high, settleReply_refuse])
  case shiftIndex => exact (execReadShift_sent h).trans (by rw [readShift_badIndex _ high, settleReply_refuse])
  all_goals have su := openRequest_su r s
  case current =>
    rw [← su] at current
    exact (execReadShift_sent h).trans (by rw [readShift_current selector current, settleReply_done, su])
  case closed =>
    rw [← su] at other held
    exact (execReadShift_sent h).trans (by rw [readShift_closed selector other held, settleReply_done, su])
  case noEntry =>
    rw [← su] at other none
    exact (execReadShift_sent h).trans (by rw [readShift_noEntry selector other none, settleReply_refuse])

end Sys2Proof.Machine
end

section
/-! PROOFS. What keeps a stream in OFF or TRIPPED and the SAFE link timeout as it is: every command does, but GRANT and
RELEASE of that stream, SET_LINK_TIMEOUT and the two resets (R37, R51, R56). `StreamsMoved` does not say this: its moves
hold those of GRANT and RELEASE for every command, and it says nothing of the timeout. -/

namespace Sys2Proof.Machine

/-! ### Streams that stay in OFF or TRIPPED -/

/-- A stream in OFF or TRIPPED. -/
def Stream.Parked (x : Stream) : Prop := x.state = .off ∨ x.state = .tripped

/-- From `s` to `t` no stream leaves OFF or TRIPPED, and the SAFE link timeout is kept. -/
structure ParkedKept (s t : State) : Prop where
  state : ∀ i : Fin 8, (s.stream i).Parked → (t.stream i).state = (s.stream i).state
  timeout : t.safeTimeout = s.safeTimeout

namespace ParkedKept

theorem of_eq {s t : State} (streams : t.streams = s.streams) (timeout : t.safeTimeout = s.safeTimeout) :
    ParkedKept s t where
  state i _ := by rw [State.stream_congr streams i]
  timeout := timeout

theorem refl (s : State) : ParkedKept s s := .of_eq rfl rfl

theorem trans {s t u : State} (h : ParkedKept s t) (k : ParkedKept t u) : ParkedKept s u where
  state i parked := by
    have same := h.state i parked
    rw [k.state i (by rwa [Stream.Parked, same]), same]
  timeout := k.timeout.trans h.timeout

theorem after {s t u : State} (h : ParkedKept t u) (streams : t.streams = s.streams)
    (timeout : t.safeTimeout = s.safeTimeout) : ParkedKept s u :=
  trans (of_eq streams timeout) h

theorem before {s t u : State} (h : ParkedKept s t) (streams : u.streams = t.streams)
    (timeout : u.safeTimeout = t.safeTimeout) : ParkedKept s u :=
  trans h (of_eq streams timeout)

theorem modStream {s : State} {i : Fin 8} {f : Stream → Stream}
    (h : (s.stream i).Parked → (f (s.stream i)).state = (s.stream i).state) : ParkedKept s (s.modStream i f) where
  state j parked := by
    rw [State.modStream_stream]
    split
    case isTrue same => subst same; exact h parked
    case isFalse => rfl
  timeout := rfl

/-- A change of a stream that is neither OFF nor TRIPPED. -/
theorem modStream_of_not {s : State} {i : Fin 8} (f : Stream → Stream) (moving : ¬(s.stream i).Parked) :
    ParkedKept s (s.modStream i f) :=
  modStream fun parked => absurd parked moving

theorem mapStreams {s t : State} {f : Fin 8 → Stream → Stream} (streams : t.streams = Machine.mapStreams f s.streams)
    (timeout : t.safeTimeout = s.safeTimeout)
    (h : ∀ i, (s.stream i).Parked → (f i (s.stream i)).state = (s.stream i).state) : ParkedKept s t where
  state i parked := by
    rw [State.stream, streams, mapStreams_getElem]
    exact h i parked
  timeout := timeout

theorem foldl {α : Type} {f : State → α → State} (h : ∀ s a, ParkedKept s (f s a)) (l : List α) (s : State) :
    ParkedKept s (l.foldl f s) := by
  induction l generalizing s with
  | nil => exact .refl s
  | cons a l ih => exact (h s a).trans (ih (f s a))

end ParkedKept

theorem setFactors_parked (f : Factors) (s : State) : ParkedKept s (s.setFactors f) := .of_eq rfl rfl

theorem raiseAlarm_parked (r : Raise) (s : State) : ParkedKept s (raiseAlarm r s) := .of_eq rfl rfl

theorem ParkedKept.unhealthy {s t : State} (h : ParkedKept s t) : ParkedKept s { t with safeHealthy := false } :=
  h.before rfl rfl

theorem modShift_parked (f : OpenShift → OpenShift) (s : State) : ParkedKept s (s.modShift f) := .of_eq rfl rfl

/-! ### Trips and withdrawals -/

theorem withdrawn_of_parked (c : TripCause) {x : Stream} (h : x.Parked) : withdrawn c x = x := by
  obtain h | h := h <;> simp [withdrawn, h, FiringState.burning]

theorem withdraw_parked (c : TripCause) (i : Fin 8) (s : State) : ParkedKept s (withdraw c i s) where
  state j parked := by
    by_cases same : j = i
    · subst same
      rw [withdraw_stream_self, withdrawn_of_parked c parked]
    · rw [withdraw_stream_other c i j s same]
  timeout := (withdraw_sameBlocks c i s).safeTimeout

theorem trip_parked {i : Fin 8} (c : TripCause) {s : State} (burning : (s.stream i).state.burning = true) :
    ParkedKept s (trip i c s) := by
  have kept := withdraw_parked c i s
  rwa [withdraw, if_pos burning] at kept

theorem withdrawAll_parked (c : TripCause) (s : State) : ParkedKept s (withdrawAll c s) :=
  .foldl (fun s i => withdraw_parked c i s) all8 s

theorem reportInterlocks_parked (p : Fin 8 → Bool) (s : State) : ParkedKept s (reportInterlocks p s) := by
  refine .foldl (fun s i => ?_) all8 s
  split
  · exact withdraw_parked .interlock i s
  · exact .refl s

/-! ### The cooler and the contacts -/

theorem refreshHoldback_parked (s : State) : ParkedKept s (refreshHoldback s) := by
  rw [refreshHoldback_frame]
  exact .of_eq rfl rfl

theorem stopReported_parked (k : Fin 24) (s : State) : ParkedKept s (stopReported k s) := by
  unfold stopReported
  split
  · exact .refl s
  · split <;> exact (refreshHoldback_parked _).after rfl rfl

theorem stopReturned_parked (k : Fin 24) (s : State) : ParkedKept s (stopReturned k s) := by
  unfold stopReturned
  split
  · exact (refreshHoldback_parked _).after rfl rfl
  · exact .refl s

theorem goesAbnormal_parked (k : Fin 24) (s : State) : ParkedKept s (goesAbnormal k s) := by
  have raised : ParkedKept s (raiseContact k s) := .of_eq rfl rfl
  unfold goesAbnormal
  split
  · exact .refl s
  · exact raised
  · exact raised.trans (reportInterlocks_parked _ _)
  · exact raised.trans (stopReported_parked k _)

theorem returnsNormal_parked (k : Fin 24) (s : State) : ParkedKept s (returnsNormal k s) := by
  unfold returnsNormal
  split
  · exact .refl s
  · exact .of_eq rfl rfl
  · exact .of_eq rfl rfl
  · exact (stopReturned_parked k _).after rfl rfl

theorem scanContacts_parked (levels : BitVec 24) (s : State) : ParkedKept s (scanContacts levels s) := by
  refine .foldl (fun s k => ?_) all24 s
  unfold sampleContact actOnReading
  split; swap; · exact .refl s
  split; swap; · exact .of_eq rfl rfl
  split
  · exact (goesAbnormal_parked k _).after rfl rfl
  · exact (returnsNormal_parked k _).after rfl rfl

theorem replaceContact_parked (k : Fin 24) (new : Contact) (s : State) : ParkedKept s (replaceContact k new s) := by
  have condition (b : Bool) (s : State) : ParkedKept s (settleCondition k b s) := by
    unfold settleCondition
    repeat' split
    all_goals exact .of_eq rfl rfl
  have stop (old : Contact) (s : State) : ParkedKept s (settleStop k old new s) := by
    unfold settleStop
    split
    · exact stopReturned_parked k s
    · split
      · exact stopReported_parked k s
      · exact .refl s
  have written : ParkedKept s (s.modContact k fun _ => new) := .of_eq rfl rfl
  exact written.trans <| (condition _ _).trans <| (reportInterlocks_parked _ _).trans (stop _ _)

theorem force_parked (k : Fin 24) (s : State) : ParkedKept s (force k s) := by
  have forced : ParkedKept s (s.modContact k fun c => { c with forced := true }) := .of_eq rfl rfl
  unfold force
  dsimp only
  split
  · exact (forced.trans (returnsNormal_parked k _)).before rfl rfl
  · exact .of_eq rfl rfl

theorem liftForce_parked (k : Fin 24) (s : State) : ParkedKept s (liftForce k s) := by
  unfold liftForce
  dsimp only
  split
  · exact (goesAbnormal_parked k _).after rfl rfl
  · exact .of_eq rfl rfl

/-! ### Slots and cutback sets -/

theorem testIdle_parked (k : Fin 4) (v : Int) (s : State) : ParkedKept s (testIdle k v s) := by
  unfold testIdle
  repeat' split
  all_goals exact .of_eq rfl rfl

theorem handFresh_parked (n : Fin 8) (s : State) : ParkedKept s (handFresh n s) := by
  refine .foldl (fun s k => ?_) all4 s
  unfold freshValue
  split; swap; · exact .refl s
  split
  · exact .refl s
  · exact testIdle_parked k _ s
  · split <;> exact .of_eq rfl rfl
  · split <;> exact .of_eq rfl rfl

theorem handStale_parked (n : Fin 8) (s : State) : ParkedKept s (handStale n s) := by
  refine .foldl (fun s k => ?_) all4 s
  split <;> exact .of_eq rfl rfl

theorem rewriteSet_parked (k : Fin 4) (c : CutSet) (s : State) : ParkedKept s (rewriteSet k c s) := by
  unfold rewriteSet
  dsimp only
  split <;> split
  · exact (testIdle_parked k _ _).after rfl rfl
  · exact (testIdle_parked k _ _).after rfl rfl
  · exact .of_eq rfl rfl
  · exact .of_eq rfl rfl

/-! ### The dosing period -/

theorem periodCloses_parked (s : State) : ParkedKept s (periodCloses s) := by
  refine .foldl (fun s i => ?_) all8 s
  have closed : ParkedKept s (State.modStream i (Stream.closed s.period.ms) s) :=
    .modStream fun _ => by rw [Stream.closed_frame]
  have booked := (closed.after (s := s) rfl rfl).before
    (u := State.modStream i (Stream.closed s.period.ms)
      (State.modShift (OpenShift.bookFeed i (s.stream i).periodMass (s.stream i).periodHeat) s)) rfl rfl
  unfold periodClose reportDeviation
  repeat' split
  all_goals exact booked.before rfl rfl

theorem Stream.lowered_of_parked {x : Stream} (h : x.Parked) : x.lowered = x := by
  obtain h | h := h <;> simp [Stream.lowered, h]

/-- A computation writes setpoints and outputs, and no firing state (R68, R69). -/
theorem Stream.dosed_state (p : Option Share) (x : Stream) : (x.dosed p).state = x.state := by
  unfold Stream.dosed
  repeat' split
  all_goals rfl

theorem dose_parked (x : Site) (s : State) : ParkedKept s (dose x s) := by
  have lowered : ParkedKept s { s with streams := lowerStreams x s.streams } := by
    refine .mapStreams (f := fun _ st => if st.limits.site = x then st.lowered else st) rfl rfl fun i parked => ?_
    rw [Stream.lowered_of_parked parked, ite_self]
  have written (a : Allocation) (s : State) : ParkedKept s (writeResults x a s) := by
    refine .mapStreams (f := fun i st => if st.limits.site = x then st.dosed (a.part i) else st) rfl rfl fun i _ => ?_
    split
    · exact Stream.dosed_state _ _
    · rfl
  have computed := lowered.trans (written (State.allocation x { s with streams := lowerStreams x s.streams }) _)
  unfold dose computeSite reportUnplaced
  repeat' split
  all_goals exact computed.before rfl rfl

/-! ### Requests -/

/-- What a block makes of a command keeps the streams in OFF and TRIPPED there, or refuses the command. -/
inductive Reply.Parked (s : State) : Reply → Prop
  | refuse {c : ResultCode} : Reply.Parked s (.refuse c)
  | take {t : State} {c : ResultCode} {b : List Byte} (kept : ParkedKept s t) : Reply.Parked s (.take t c b)

theorem openRequest_parked (r : Request) (s : State) : ParkedKept s (openRequest r s) :=
  .of_eq (openRequest_streams r s) (openRequest_safeTimeout r s)

/-- Everything that taking a request can do to the streams and the timeout: only what its block makes of it, once owner
and length are accepted. -/
theorem takeRequest_taken {row : CommandRow} {r : Request} {act : State → Reply} {s t : State}
    (h : takeRequest row r act s = .next t) :
    ParkedKept s t ∨
      r.link ∈ row.owners ∧ ∃ u c b, act (openRequest r s) = .take u c b ∧ t = giveAnswer r.link row.code c b u := by
  have answered (c : ResultCode) : ParkedKept s (giveAnswer r.link row.code c [] (openRequest r s)) :=
    (openRequest_parked r s).before rfl rfl
  obtain ⟨-, rfl | ⟨-, ⟨-, rfl⟩ | ⟨-, -, rfl⟩ | ⟨owner, -, rfl⟩⟩⟩ := takeRequest_next h
  · exact .inl (.of_eq rfl rfl)
  · exact .inl (answered _)
  · exact .inl (answered _)
  · cases reply : act (openRequest r s) with
    | refuse c => exact .inl (answered c)
    | take u c b => exact .inr ⟨owner, u, c, b, rfl, rfl⟩

theorem takeRequest_parked {row : CommandRow} {r : Request} {act : State → Reply} {s t : State}
    (h : takeRequest row r act s = .next t) (parked : ∀ s, (act s).Parked s) : ParkedKept s t := by
  obtain same | ⟨-, u, c, b, reply, rfl⟩ := takeRequest_taken h
  · exact same
  · have taken := parked (openRequest r s)
    rw [reply] at taken
    cases taken with
    | take kept => exact ((openRequest_parked r s).trans kept).before rfl rfl

theorem onStream_parked {act : Fin 8 → State → Reply} (h : ∀ i s, (act i s).Parked s) (b : List Byte)
    (s : State) : (onStream b act s).Parked s := by
  unfold onStream
  split
  · exact h _ s
  · exact .refuse

theorem onContact_parked {act : Fin 24 → State → Reply} (h : ∀ k s, (act k s).Parked s) (b : List Byte)
    (s : State) : (onContact b act s).Parked s := by
  unfold onContact
  split
  · exact h _ s
  · exact .refuse

theorem onStream_taken {b : List Byte} {act : Fin 8 → State → Reply} {s t : State} {c : ResultCode}
    {body : List Byte} (h : onStream b act s = .take t c body) :
    ∃ i : Fin 8, u8 b 0 = i.val ∧ act i s = .take t c body := by
  unfold onStream index8 at h
  split at h
  case h_1 i index =>
    split at index <;> cases index
    exact ⟨_, rfl, h⟩
  case h_2 => cases h

theorem onCode_parked {act : AlarmCode → State → Reply} (h : ∀ c s, (act c s).Parked s) (b : List Byte)
    (s : State) : (onCode b act s).Parked s := by
  unfold onCode
  split
  · exact h _ s
  · exact .refuse

theorem onEntry_parked {c : AlarmCode} {s : State} {act : Entry → Reply} (h : ∀ e, (act e).Parked s) :
    (onEntry c s act).Parked s := by
  unfold onEntry
  split
  · exact h _
  · exact .refuse

/-! ### Firing supervision and calibration -/

theorem revoke_parked (i : Fin 8) (s : State) : (revoke i s).Parked s := .take (withdraw_parked .revoke i s)

theorem light_parked (i : Fin 8) (s : State) : (light i s).Parked s := by
  unfold light
  split; · exact .refuse
  split; · exact .refuse
  rename_i ready _
  have ready : (s.stream i).state = .ready := by simpa using ready
  exact .take (.modStream_of_not _ (by simp [Stream.Parked, ready]))

theorem flame_parked (b : List Byte) (s : State) : (flame b s).Parked s := by
  refine onStream_parked (fun i s => ?_) b s
  unfold flameProven flameLost
  split
  · split
    case isTrue lighting => exact .take (.modStream_of_not _ (by simp [Stream.Parked, lighting]))
    case isFalse => split <;> exact .refuse
  · split
    case isTrue burning => exact .take (trip_parked .flameLost burning)
    case isFalse => exact .take (.refl s)
  · exact .refuse

theorem hold_parked (i : Fin 8) (s : State) : (hold i s).Parked s := by
  unfold hold
  split
  case isTrue firing => exact .take (.modStream_of_not _ (by simp [Stream.Parked, firing]))
  case isFalse => exact .refuse

theorem resume_parked (i : Fin 8) (s : State) : (resume i s).Parked s := by
  unfold resume
  split
  case isTrue state => exact .take (.modStream_of_not _ (by obtain state | state := state <;> simp [Stream.Parked, state]))
  case isFalse => exact .refuse

theorem stop_parked (i : Fin 8) (s : State) : (stop i s).Parked s := by
  unfold stop
  split
  case isTrue lighting => exact .take (.modStream_of_not _ (by simp [Stream.Parked, lighting]))
  case isFalse =>
    split
    case isTrue state => exact .take (.modStream_of_not _ (by obtain state | state := state <;> simp [Stream.Parked, state]))
    case isFalse => exact .refuse

theorem calStart_parked (i : Fin 8) (s : State) : (calStart i s).Parked s := by
  unfold calStart
  split
  case isTrue state => exact .take (.modStream_of_not _ (by simp [Stream.Parked, state.1]))
  case isFalse => exact .refuse

theorem calStop_parked (i : Fin 8) (s : State) : (calStop i s).Parked s := by
  unfold calStop
  split
  case isFalse => exact .refuse
  case isTrue calib =>
    have changed (f : Stream → Stream) : ParkedKept s (s.modStream i f) :=
      .modStream_of_not f (by simp [Stream.Parked, calib])
    split
    · split
      · exact .take ((changed _).trans (setFactors_parked _ _))
      · exact .take (changed _)
    · exact .take (changed _)

theorem calDiscard_parked (i : Fin 8) (s : State) : (calDiscard i s).Parked s := by
  unfold calDiscard
  split; · exact .refuse
  split
  · exact .refuse
  · exact .take (.modStream fun _ => rfl)

theorem calAccept_parked (b : List Byte) (i : Fin 8) (s : State) : (calAccept b i s).Parked s := by
  unfold calAccept
  split; · exact .refuse
  split; · exact .refuse
  split
  · exact .refuse
  · exact .take ((ParkedKept.modStream fun _ => rfl).trans (modShift_parked _ _))

/-! ### The Stream Table and the other blocks -/

theorem setLimits_parked (b : List Byte) (i : Fin 8) (s : State) : (setLimits b i s).Parked s := by
  unfold setLimits
  split; · exact .refuse
  split; · exact .refuse
  split
  · exact .refuse
  · exact .take ((ParkedKept.modStream fun _ => rfl).before rfl rfl)

theorem setPlan_parked (b : List Byte) (i : Fin 8) (s : State) : (setPlan b i s).Parked s := by
  unfold setPlan
  split; · exact .refuse
  split
  · exact .refuse
  · exact .take (.modStream fun _ => rfl)

theorem setPoll_parked (b : List Byte) (i : Fin 8) (s : State) : (setPoll b i s).Parked s := by
  unfold setPoll
  split
  · exact .refuse
  · exact .take (.modStream fun _ => rfl)

theorem listRead_parked (l : Link) (b : List Byte) (s : State) : (listRead l b s).Parked s := by
  unfold listRead
  split; · exact .refuse
  split <;> exact .take (.of_eq rfl rfl)

theorem readSite_parked (b : List Byte) (s : State) : (readSite b s).Parked s := by
  unfold readSite
  split
  · exact .refuse
  · exact .take (.refl s)

theorem readShift_parked (b : List Byte) (s : State) : (readShift b s).Parked s := by
  unfold readShift
  split; · exact .refuse
  split; · exact .take (.refl s)
  split
  · exact .take (.refl s)
  · exact .refuse

theorem readMeas_parked (b : List Byte) (s : State) : (readMeas b s).Parked s := by
  unfold readMeas
  split
  · split
    · exact .take (.refl s)
    · exact .refuse
  · split
    · exact .take (.refl s)
    · exact .refuse
  · exact .refuse

theorem readCooler_parked (b : List Byte) (s : State) : (readCooler b s).Parked s := by
  unfold readCooler
  split
  · exact .take (.refl s)
  · exact .take (.refl s)
  · exact .refuse

theorem setDemand_parked (b : List Byte) (s : State) : (setDemand b s).Parked s := by
  unfold setDemand
  split
  · exact .refuse
  · exact .take (.of_eq rfl rfl)

theorem setPeriod_parked (b : List Byte) (s : State) : (setPeriod b s).Parked s := by
  unfold setPeriod
  split; · exact .refuse
  split
  · exact .take (.of_eq rfl rfl)
  · exact .refuse

theorem putMeas_parked (b : List Byte) (s : State) : (putMeas b s).Parked s := by
  unfold putMeas
  split; · exact .refuse
  refine .take ((handFresh_parked _ _).after ?_ ?_) <;> split <;> rfl

theorem setMeasConfig_parked (b : List Byte) (s : State) : (setMeasConfig b s).Parked s := by
  unfold setMeasConfig
  split; · exact .refuse
  split; · exact .refuse
  split; · exact .refuse
  refine .take ?_
  split
  · exact (handFresh_parked _ _).after rfl rfl
  · exact .of_eq rfl rfl

theorem setCutback_parked (b : List Byte) (s : State) : (setCutback b s).Parked s := by
  unfold setCutback
  split
  · split
    · exact .refuse
    · exact .take (rewriteSet_parked _ _ s)
  · exact .refuse

theorem setCooler_parked (b : List Byte) (s : State) : (setCooler b s).Parked s := by
  unfold setCooler takeCooler
  split; · exact .refuse
  split; · exact .refuse
  split; · exact .refuse
  split <;> exact .take (.of_eq rfl rfl)

theorem coolerMode_parked (b : List Byte) (s : State) : (coolerMode b s).Parked s := by
  unfold coolerMode takeAuto
  split
  · have manual : ParkedKept s (s.modCooler (Cooler.toManual b)) := .of_eq rfl rfl
    exact .take ((manual.trans (refreshHoldback_parked _)).before rfl rfl)
  · split <;> exact .take (.of_eq rfl rfl)
  · exact .refuse

theorem setContact_parked (b : List Byte) (k : Fin 24) (s : State) : (setContact b k s).Parked s := by
  unfold setContact
  split; · exact .refuse
  split; · exact .refuse
  exact .take (replaceContact_parked k _ s)

theorem forceContact_parked (k : Fin 24) (s : State) : (forceContact k s).Parked s := by
  unfold forceContact
  split; · exact .refuse
  split; · exact .take (.refl s)
  exact .take (force_parked k s)

theorem unforce_parked (k : Fin 24) (s : State) : (unforce k s).Parked s := by
  unfold unforce
  split
  · exact .take (liftForce_parked k s)
  · exact .refuse

theorem ack_parked (c : AlarmCode) (s : State) : (ack c s).Parked s := by
  refine onEntry_parked fun e => ?_
  split <;> exact .take (.of_eq rfl rfl)

theorem shelve_parked (minutes : Nat) (c : AlarmCode) (s : State) : (shelve minutes c s).Parked s := by
  unfold shelve
  split; · exact .refuse
  refine onEntry_parked fun e => ?_
  split
  · exact .refuse
  · exact .take (.of_eq rfl rfl)

theorem unshelve_parked (c : AlarmCode) (s : State) : (unshelve c s).Parked s := by
  refine onEntry_parked fun e => ?_
  split
  · exact .take (.of_eq rfl rfl)
  · exact .refuse

theorem firstoutMode_parked (b : List Byte) (s : State) : (firstoutMode b s).Parked s := by
  unfold firstoutMode
  split; · exact .refuse
  split
  · exact .refuse
  · exact .take (.of_eq rfl rfl)

theorem setClock_parked (b : List Byte) (s : State) : (setClock b s).Parked s := by
  unfold setClock
  split
  · exact .refuse
  · exact .take (.of_eq rfl rfl)

theorem setShifts_parked (b : List Byte) (s : State) : (setShifts b s).Parked s := by
  unfold setShifts
  split
  · exact .take (.of_eq rfl rfl)
  · exact .refuse

theorem closeShift_parked (s : State) : (closeShift s).Parked s := by
  unfold closeShift
  split
  · exact .refuse
  · exact .take (.of_eq rfl rfl)

/-! ### Events -/

theorem next_parked {s u t : State} (h : (.next u : Result) = .next t) (kept : ParkedKept s u) : ParkedKept s t :=
  Host.Outcome.next.inj h ▸ kept

theorem execFrameErr_parked {l : Link} {bytes : List Byte} {s t : State} (h : execFrameErr l bytes s = .next t) :
    ParkedKept s t := by
  unfold execFrameErr at h
  split at h
  · cases h
  · split at h <;> cases h <;> exact .of_eq rfl rfl

theorem execUnknownCmd_parked {code : Byte} {r : Request} {s t : State} (h : execUnknownCmd code r s = .next t) :
    ParkedKept s t := by
  unfold execUnknownCmd at h
  split at h
  · cases h
  · split at h <;> cases h
    · exact .of_eq rfl rfl
    · exact (openRequest_parked r s).before rfl rfl

theorem execAbandonedTransfer_parked {l : Link} {bytes : List Byte} {s t : State}
    (h : execAbandonedTransfer l bytes s = .next t) : ParkedKept s t := by
  unfold execAbandonedTransfer at h
  split at h <;> cases h
  exact .of_eq rfl rfl

theorem execNoFlowReport_parked {i : Fin 8} {s t : State} (h : execNoFlowReport i s = .next t) : ParkedKept s t := by
  have reported : ParkedKept s (s.modStream i fun x => { x with noFlowDue := false }) := .modStream fun _ => rfl
  unfold execNoFlowReport at h
  split at h <;> cases h
  case isTrue.refl state =>
    refine reported.trans (trip_parked .noFlow ?_)
    rw [State.modStream_stream_self]
    obtain state | state := state <;> simp [state, FiringState.burning]
  case isFalse.refl => exact reported

theorem execLightingTimerExpiry_parked {i : Fin 8} {s t : State} (h : execLightingTimerExpiry i s = .next t) :
    ParkedKept s t := by
  unfold execLightingTimerExpiry at h
  split at h <;> cases h
  case isTrue.refl state => exact trip_parked .lightFail (by rw [state.2]; rfl)
  case isFalse.refl => exact .refl s

theorem execSafeLinkTimerExpiry_parked {s t : State} (h : execSafeLinkTimerExpiry s = .next t) : ParkedKept s t := by
  unfold execSafeLinkTimerExpiry at h
  split at h
  · have stopped : ParkedKept s { s with safeTimer := none } := .of_eq rfl rfl
    have tripped := (stopped.trans (withdrawAll_parked .linkLoss _)).trans (raiseAlarm_parked safeLinkRaise _)
    exact next_parked h tripped.unhealthy
  · exact next_parked h (.refl s)

theorem execCalWindowTimeout_parked {i : Fin 8} {s t : State} (h : execCalWindowTimeout i s = .next t) :
    ParkedKept s t := by
  unfold execCalWindowTimeout at h
  split at h
  · split at h
    · refine next_parked h ((ParkedKept.modStream fun parked => ?_).trans (setFactors_parked _ _))
      obtain state | state := parked <;> simp [state]
    · exact next_parked h (.refl s)
  · exact next_parked h (.refl s)

theorem execStaleTimerExpiry_parked {n : Fin 8} {s t : State} (h : execStaleTimerExpiry n s = .next t) :
    ParkedKept s t := by
  unfold execStaleTimerExpiry at h
  split at h <;> cases h
  · exact (handStale_parked n _).after rfl rfl
  · exact .refl s

theorem execDelayTimerExpiry_parked {k : Fin 4} {s t : State} (h : execDelayTimerExpiry k s = .next t) :
    ParkedKept s t := by
  unfold execDelayTimerExpiry at h
  split at h <;> cases h <;> exact .of_eq rfl rfl

theorem execCoolerPeriod_parked {s t : State} (h : execCoolerPeriod s = .next t) : ParkedKept s t := by
  unfold execCoolerPeriod at h
  split at h
  · cases h; exact .of_eq rfl rfl
  · split at h <;> cases h
    · exact .of_eq rfl rfl
    · exact (refreshHoldback_parked _).after rfl rfl

theorem strokePulse_parked (n : Fin 4) (s : State) : ParkedKept s (strokeSupervision n (bookStroke n s)) := by
  have booked : ParkedKept s (bookStroke n s) := by
    unfold bookStroke
    split <;> exact .of_eq rfl rfl
  unfold strokeSupervision
  split
  · exact booked.trans ((refreshHoldback_parked _).after rfl rfl)
  · exact booked.before rfl rfl

theorem execStallTimerExpiry_parked {n : Fin 4} {s t : State} (h : execStallTimerExpiry n s = .next t) :
    ParkedKept s t := by
  unfold execStallTimerExpiry at h
  split at h <;> cases h
  · exact (refreshHoldback_parked _).after rfl rfl
  · exact .refl s

theorem execShelfExpiry_parked {c : AlarmCode} {s t : State} (h : execShelfExpiry c s = .next t) :
    ParkedKept s t := by
  unfold execShelfExpiry at h
  split at h
  · split at h <;> cases h <;> exact .of_eq rfl rfl
  · cases h; exact .refl s

theorem execHornBIntervalExpiry_parked {s t : State} (h : execHornBIntervalExpiry s = .next t) : ParkedKept s t := by
  unfold execHornBIntervalExpiry at h
  split at h <;> cases h <;> exact .of_eq rfl rfl

theorem execClockAdvance_parked {s t : State} (h : execClockAdvance s = .next t) : ParkedKept s t := by
  unfold execClockAdvance at h
  split at h <;> cases h <;> exact .of_eq rfl rfl

theorem dosingPeriod_parked (s : State) :
    ParkedKept s (dose .calc (dose .main (periodCloses { s with dosingTimer := s.period.ms }))) := by
  have restarted : ParkedKept s { s with dosingTimer := s.period.ms } := .of_eq rfl rfl
  exact restarted.trans <| (periodCloses_parked _).trans <| (dose_parked .main _).trans (dose_parked .calc _)

/-! ### The interlocks of a stream -/

theorem State.contacts_any (s : State) (p : Contact → Bool) :
    s.contacts.toList.any p = true ↔ ∃ k : Fin 24, p (s.contact k) = true := by
  rw [List.any_eq_true]
  constructor
  · rintro ⟨c, mem, hc⟩
    obtain ⟨k, bound, rfl⟩ := List.getElem_of_mem mem
    exact ⟨⟨k, by simpa using bound⟩, hc⟩
  · rintro ⟨k, hk⟩
    exact ⟨_, Vector.mem_toList_iff.mpr (Vector.getElem_mem k.isLt), hk⟩

/-- Check 4 of GRANT in the words of the claims (R37). -/
theorem State.interlocked_iff (s : State) (i : Fin 8) : s.interlocked i = true ↔ Interlocked s i := by
  rw [State.interlocked, State.contacts_any]
  simp [Interlocked, Contact.guards, Contact.abnormal, and_assoc]

/-- The forced guards of a stream in the words of the claims (R39). -/
theorem State.guardForced_iff (s : State) (i : Fin 8) : s.guardForced i = true ↔ GuardForced s i := by
  rw [State.guardForced, State.contacts_any]
  simp [GuardForced, Contact.guards, and_assoc]

theorem interlocked_openRequest (r : Request) (s : State) (i : Fin 8) :
    Interlocked (openRequest r s) i ↔ Interlocked s i := by
  simp only [Interlocked, openRequest_contact]

theorem guardForced_openRequest (r : Request) (s : State) (i : Fin 8) :
    GuardForced (openRequest r s) i ↔ GuardForced s i := by
  simp only [GuardForced, openRequest_contact]

/-! ### Everything a command can do -/

/-- What a GRANT asks of its stream (R37). -/
structure Grantable (s : State) (i : Fin 8) : Prop where
  state : (s.stream i).state = .off
  limitsSet : (s.stream i).limitsSet = true
  planSet : (s.stream i).planSet = true
  word : s.computedWord = s.expectedWord
  interlocks : ¬Interlocked s i

theorem grant_taken {i : Fin 8} {s t : State} {c : ResultCode} {b : List Byte} (h : grant i s = .take t c b) :
    Grantable s i ∧ t = s.moveTo i .ready := by
  unfold grant at h
  split at h; · cases h
  split at h; · cases h
  split at h; · cases h
  split at h; · cases h
  split at h; · cases h
  case isFalse off armed word interlocks =>
    cases h
    simp only [Stream.armed, Bool.not_eq_true', Bool.not_eq_false, Bool.and_eq_true] at armed
    rw [State.interlocked_iff] at interlocks
    exact ⟨⟨not_not.mp off, armed.1, armed.2, not_not.mp word, interlocks⟩, rfl⟩

theorem release_taken {i : Fin 8} {s t : State} {c : ResultCode} {b : List Byte} (h : release i s = .take t c b) :
    (s.stream i).state = .tripped ∧
      t = clearAlarm (.streamTrip i) (s.modStream i fun x => { x with state := .off, cause := none }) := by
  unfold release at h
  split at h <;> cases h
  exact ⟨by assumption, rfl⟩

theorem setLinkTimeout_taken {b : List Byte} {s t : State} {c : ResultCode} {body : List Byte}
    (h : setLinkTimeout b s = .take t c body) : t.streams = s.streams := by
  unfold setLinkTimeout at h
  split at h <;> cases h
  rfl

/-- Everything a command can do to a stream in OFF or TRIPPED and to the SAFE link timeout. -/
inductive ParkedAfter : Instr → State → State → Prop
  | kept {c : Instr} {s t : State} (kept : ParkedKept s t) : ParkedAfter c s t
  | grant {r : Request} {s t : State} {i : Fin 8} (link : r.link = .safe) (index : u8 r.body 0 = i.val)
      (grantable : Grantable s i) (streams : t.streams = (s.moveTo i .ready).streams)
      (timeout : t.safeTimeout = s.safeTimeout) : ParkedAfter (.grant r) s t
  | release {r : Request} {s t : State} {i : Fin 8} (link : r.link = .safe) (index : u8 r.body 0 = i.val)
      (state : (s.stream i).state = .tripped)
      (streams : t.streams = (s.modStream i fun x => { x with state := .off, cause := none }).streams)
      (timeout : t.safeTimeout = s.safeTimeout) : ParkedAfter (.release r) s t
  | setLinkTimeout {r : Request} {s t : State} (link : r.link = .safe) (streams : t.streams = s.streams) :
      ParkedAfter (.setLinkTimeout r) s t
  | reset {c : Instr} {s t : State}
      (command : (∃ p q d, c = .powerOnReset p q d) ∨ ∃ r p d, c = .fullReset r p d)
      (streams : t.streams = State.reset.streams) : ParkedAfter c s t

theorem execGrant_parked {r : Request} {s t : State} (h : execGrant r s = .next t) : ParkedAfter (.grant r) s t := by
  obtain same | ⟨link, u, c, b, reply, rfl⟩ := takeRequest_taken h
  · exact .kept same
  obtain ⟨i, index, reply⟩ := onStream_taken reply
  obtain ⟨grantable, rfl⟩ := grant_taken reply
  have grantable : Grantable s i := by
    obtain ⟨state, limitsSet, planSet, word, interlocks⟩ := grantable
    rw [openRequest_stream] at state limitsSet planSet
    rw [openRequest_computedWord, openRequest_expectedWord] at word
    rw [interlocked_openRequest] at interlocks
    exact ⟨state, limitsSet, planSet, word, interlocks⟩
  refine .grant (List.mem_singleton.mp link) index grantable ?_ ?_
  · rw [giveAnswer_streams, State.moveTo, State.moveTo, State.modStream, State.modStream, openRequest_streams]
  · simp

theorem execRelease_parked {r : Request} {s t : State} (h : execRelease r s = .next t) :
    ParkedAfter (.release r) s t := by
  obtain same | ⟨link, u, c, b, reply, rfl⟩ := takeRequest_taken h
  · exact .kept same
  obtain ⟨i, index, reply⟩ := onStream_taken reply
  obtain ⟨state, rfl⟩ := release_taken reply
  rw [openRequest_stream] at state
  refine .release (List.mem_singleton.mp link) index state ?_ ?_
  · rw [giveAnswer_streams, clearAlarm_streams, State.modStream, State.modStream, openRequest_streams]
  · simp

theorem execSetLinkTimeout_parked {r : Request} {s t : State} (h : execSetLinkTimeout r s = .next t) :
    ParkedAfter (.setLinkTimeout r) s t := by
  obtain same | ⟨link, u, c, b, reply, rfl⟩ := takeRequest_taken h
  · exact .kept same
  · refine .setLinkTimeout (List.mem_singleton.mp link) ?_
    rw [giveAnswer_streams, setLinkTimeout_taken reply, openRequest_streams]

theorem execFullReset_parked {r : Request} {p d : Option Nat} {s t : State} (h : execFullReset r p d s = .next t) :
    ParkedAfter (.fullReset r p d) s t := by
  obtain same | ⟨-, u, c, b, reply, rfl⟩ := takeRequest_taken h
  · exact .kept same
  unfold fullReset at reply
  split at reply <;> cases reply
  exact .reset (.inr ⟨r, p, d, rfl⟩) (by rw [giveAnswer_streams, resetAll_streams])

/-- What each command does to the streams in OFF and TRIPPED and to the SAFE link timeout. -/
theorem exec_parked {c : Instr} {s t : State} (h : exec c s = .next t) : ParkedAfter c s t := by
  cases c with
  | powerOnReset p q d => cases h; exact .reset (.inl ⟨p, q, d, rfl⟩) (resetAll_streams _ _ _ _ _)
  | fullReset r p d => exact execFullReset_parked h
  | grant r => exact execGrant_parked h
  | release r => exact execRelease_parked h
  | setLinkTimeout r => exact execSetLinkTimeout_parked h
  | frameErr l bytes => exact .kept (execFrameErr_parked h)
  | unknownCmd code r => exact .kept (execUnknownCmd_parked h)
  | abandonedTransfer l bytes => exact .kept (execAbandonedTransfer_parked h)
  | nop r | status r | poll r | readFirstout r | attnMask r | attnClear r | linkReset r | setCheck r | ackAll r
  | silence r | firstoutClear r => exact .kept (takeRequest_parked h fun s => .take (.of_eq rfl rfl))
  | readStream r | readCal r =>
    exact .kept (takeRequest_parked h (onStream_parked (fun _ s => .take (.refl s)) _))
  | readContacts r => exact .kept (takeRequest_parked h (onContact_parked (fun _ s => .take (.refl s)) _))
  | readSite r => exact .kept (takeRequest_parked h (readSite_parked _))
  | listRead r => exact .kept (takeRequest_parked h (listRead_parked _ _))
  | readShift r => exact .kept (takeRequest_parked h (readShift_parked _))
  | readMeas r => exact .kept (takeRequest_parked h (readMeas_parked _))
  | readCooler r => exact .kept (takeRequest_parked h (readCooler_parked _))
  | setDemand r => exact .kept (takeRequest_parked h (setDemand_parked _))
  | setPeriod r => exact .kept (takeRequest_parked h (setPeriod_parked _))
  | setLimits r => exact .kept (takeRequest_parked h (onStream_parked (setLimits_parked _) _))
  | setPlan r => exact .kept (takeRequest_parked h (onStream_parked (setPlan_parked _) _))
  | setPoll r => exact .kept (takeRequest_parked h (onStream_parked (setPoll_parked _) _))
  | light r => exact .kept (takeRequest_parked h (onStream_parked light_parked _))
  | hold r => exact .kept (takeRequest_parked h (onStream_parked hold_parked _))
  | resume r => exact .kept (takeRequest_parked h (onStream_parked resume_parked _))
  | stop r => exact .kept (takeRequest_parked h (onStream_parked stop_parked _))
  | revoke r => exact .kept (takeRequest_parked h (onStream_parked revoke_parked _))
  | flameProven r | flameLost r => exact .kept (takeRequest_parked h (flame_parked _))
  | masterTrip r => exact .kept (takeRequest_parked h fun s => .take (withdrawAll_parked .master s))
  | calStart r => exact .kept (takeRequest_parked h (onStream_parked calStart_parked _))
  | calStop r => exact .kept (takeRequest_parked h (onStream_parked calStop_parked _))
  | calAccept r => exact .kept (takeRequest_parked h (onStream_parked (calAccept_parked _) _))
  | calDiscard r => exact .kept (takeRequest_parked h (onStream_parked calDiscard_parked _))
  | putMeas r => exact .kept (takeRequest_parked h (putMeas_parked _))
  | setMeasConfig r => exact .kept (takeRequest_parked h (setMeasConfig_parked _))
  | setCutback r => exact .kept (takeRequest_parked h (setCutback_parked _))
  | setCooler r => exact .kept (takeRequest_parked h (setCooler_parked _))
  | coolerModeManual r | coolerModeAuto r => exact .kept (takeRequest_parked h (coolerMode_parked _))
  | setContact r => exact .kept (takeRequest_parked h (onContact_parked (setContact_parked _) _))
  | forceContact r => exact .kept (takeRequest_parked h (onContact_parked forceContact_parked _))
  | unforce r => exact .kept (takeRequest_parked h (onContact_parked unforce_parked _))
  | ack r => exact .kept (takeRequest_parked h (onCode_parked ack_parked _))
  | shelve r => exact .kept (takeRequest_parked h (onCode_parked (shelve_parked _) _))
  | unshelve r => exact .kept (takeRequest_parked h (onCode_parked unshelve_parked _))
  | firstoutMode r => exact .kept (takeRequest_parked h (firstoutMode_parked _))
  | setClock r => exact .kept (takeRequest_parked h (setClock_parked _))
  | setShifts r => exact .kept (takeRequest_parked h (setShifts_parked _))
  | closeShift r => exact .kept (takeRequest_parked h closeShift_parked)
  | massPulse i => cases h; exact .kept (.modStream fun _ => rfl)
  | strokePulse n => exact .kept (next_parked h (strokePulse_parked n s))
  | dosingPeriodExpiry => exact .kept (next_parked h (dosingPeriod_parked s))
  | contactScan levels => exact .kept (next_parked h ((scanContacts_parked levels _).after rfl rfl))
  | noFlowReport i => exact .kept (execNoFlowReport_parked h)
  | lightingTimerExpiry i => exact .kept (execLightingTimerExpiry_parked h)
  | safeLinkTimerExpiry => exact .kept (execSafeLinkTimerExpiry_parked h)
  | calWindowTimeout i => exact .kept (execCalWindowTimeout_parked h)
  | staleTimerExpiry n => exact .kept (execStaleTimerExpiry_parked h)
  | delayTimerExpiry k => exact .kept (execDelayTimerExpiry_parked h)
  | coolerPeriod => exact .kept (execCoolerPeriod_parked h)
  | stallTimerExpiry n => exact .kept (execStallTimerExpiry_parked h)
  | shelfExpiry a => exact .kept (execShelfExpiry_parked h)
  | hornBIntervalExpiry => exact .kept (execHornBIntervalExpiry_parked h)
  | clockAdvance => exact .kept (execClockAdvance_parked h)

end Sys2Proof.Machine
end

section
/-! PROOFS. Firing supervision: GRANT, RELEASE and the commands and events that move a burning stream, each in every
firing state (R36 to R54). -/

namespace Sys2Proof.Machine

/-! ### Requests that name a stream -/

/-- A command with one owner that names a stream in the first byte of its body is opened, acted on for that stream and
answered (R36). -/
theorem takeRequest_onStream {row : CommandRow} {l : Link} {n : Nat} {r : Request} {act : Fin 8 → State → Reply}
    {s : State} {i : Fin 8} (h : Sent [l] n r s) (owner : row.owners = [l]) (length : n ∈ row.lengths) (fits : n ≤ 60)
    (index : u8 r.body 0 = i.val) :
    takeRequest row r (onStream r.body act) s =
      .next (settleReply l row.code (openRequest r s) (act i (openRequest r s))) := by
  rw [takeRequest_of_sent (owner ▸ h) length fits, onStream_of index, List.mem_singleton.mp h.link]

/-- A firing command that changes its stream answers the firing state that the change leaves (R36). -/
theorem fired_modStream (i : Fin 8) (f : Stream → Stream) (s : State) :
    fired i (s.modStream i f) = .done (s.modStream i f) (be8 i.val ++ be8 (firingByte (f (s.stream i)).state)) := by
  rw [fired, State.modStream_stream_self]

theorem fired_moveTo (i : Fin 8) (f : FiringState) (s : State) :
    fired i (s.moveTo i f) = .done (s.moveTo i f) (be8 i.val ++ be8 (firingByte f)) :=
  fired_modStream i _ s

/-- One that leaves the stream answers the firing state as it stands (R36). -/
theorem fired_openRequest (i : Fin 8) (r : Request) (s : State) :
    fired i (openRequest r s) =
      .done (openRequest r s) (be8 i.val ++ be8 (firingByte (s.stream i).state)) := by
  rw [fired, openRequest_stream]

/-! ### GRANT -/

theorem execGrant_sent {r : Request} {s : State} {i : Fin 8} (h : Sent [.safe] 1 r s) (index : u8 r.body 0 = i.val) :
    exec (.grant r) s = .next (settleReply .safe 0x42#8 (openRequest r s) (grant i (openRequest r s))) :=
  takeRequest_onStream (row := Cmd.grant) h rfl (by decide) (by decide) index

theorem grant_heldOff {i : Fin 8} {s : State} (state : (s.stream i).state = .tripped) :
    grant i s = .refuse .heldOff := by
  simp [grant, state]

theorem grant_wrongState {i : Fin 8} {s : State} (tripped : (s.stream i).state ≠ .tripped)
    (off : (s.stream i).state ≠ .off) : grant i s = .refuse .wrongState := by
  simp [grant, tripped, off]

theorem grant_notArmed {i : Fin 8} {s : State} (off : (s.stream i).state = .off)
    (armed : (s.stream i).armed = false) : grant i s = .refuse .notArmed := by
  simp [grant, off, armed]

theorem grant_checkMismatch {i : Fin 8} {s : State} (off : (s.stream i).state = .off)
    (armed : (s.stream i).armed = true) (word : s.computedWord ≠ s.expectedWord) :
    grant i s = .refuse .checkMismatch := by
  simp [grant, off, armed, word]

theorem grant_interlock {i : Fin 8} {s : State} (off : (s.stream i).state = .off)
    (armed : (s.stream i).armed = true) (word : s.computedWord = s.expectedWord) (interlocks : Interlocked s i) :
    grant i s = .refuse .interlock := by
  simp [grant, off, armed, word, (s.interlocked_iff i).mpr interlocks]

theorem grant_passes {i : Fin 8} {s : State} (off : (s.stream i).state = .off)
    (armed : (s.stream i).armed = true) (word : s.computedWord = s.expectedWord) (interlocks : ¬Interlocked s i) :
    grant i s = .done (s.modStream i fun x => { x with state := .ready }) (be8 i.val ++ [0x01#8]) := by
  rw [← State.interlocked_iff] at interlocks
  simp [grant, off, armed, word, interlocks, fired_moveTo]
  rfl

/-- A command that takes a stream out of OFF is a GRANT that passed its checks (R37). -/
theorem ParkedAfter.grant_of_left_off {c : Instr} {s t : State} {i : Fin 8} (h : ParkedAfter c s t)
    (off : (s.stream i).state = .off) (left : (t.stream i).state ≠ .off) :
    ∃ r, c = .grant r ∧ r.link = .safe ∧ u8 r.body 0 = i.val ∧ Grantable s i := by
  cases h with
  | kept kept => exact absurd ((kept.state i (.inl off)).trans off) left
  | setLinkTimeout link streams => exact absurd (by rw [State.stream_congr streams, off]) left
  | reset command streams =>
    rw [State.stream_congr streams] at left
    exact absurd (by rw [State.reset_stream]; rfl) left
  | release link index state streams =>
    rw [State.stream_congr streams, State.modStream_stream] at left
    split at left
    · exact absurd rfl left
    · exact absurd off left
  | @grant r _ _ j link index grantable streams =>
    rw [State.stream_congr streams, State.moveTo, State.modStream_stream] at left
    split at left
    case isTrue same => subst same; exact ⟨r, rfl, link, index, grantable⟩
    case isFalse => exact absurd off left

/-- Settles O22: the checks of GRANT in their order, then what every command leaves of a stream in OFF. -/
theorem onlyGrantLeavesOff : Obligations.OnlyGrantLeavesOff := by
  refine ⟨fun r s i h index => ⟨fun tripped => ?heldOff, fun tripped off => ?wrongState, fun off =>
    ⟨fun armed => ?notArmed, fun armed => ⟨fun word => ?mismatch, fun word =>
      ⟨fun interlocks => ?interlock, fun interlocks => ?passes⟩⟩⟩⟩, fun c s t i h off left => ?onlyGrant⟩
  case onlyGrant =>
    obtain ⟨r, rfl, link, index, grantable⟩ := (exec_parked h).grant_of_left_off off left
    exact ⟨r, rfl, link, index, grantable.limitsSet, grantable.planSet, grantable.word, grantable.interlocks⟩
  all_goals
    rw [execGrant_sent h index]
  case heldOff => rw [grant_heldOff (by simpa using tripped), settleReply_refuse]
  case wrongState => rw [grant_wrongState (by simpa using tripped) (by simpa using off), settleReply_refuse]
  case notArmed =>
    rw [grant_notArmed (by simpa using off) (by rw [openRequest_stream]; exact armed), settleReply_refuse]
  all_goals
    have off : ((openRequest r s).stream i).state = .off := by simpa using off
    have armed : ((openRequest r s).stream i).armed = true := by rw [openRequest_stream]; exact armed
  case mismatch => rw [grant_checkMismatch off armed (by simpa using word), settleReply_refuse]
  all_goals
    have word : (openRequest r s).computedWord = (openRequest r s).expectedWord := by simpa using word
    rw [← interlocked_openRequest r] at interlocks
  case interlock => rw [grant_interlock off armed word interlocks, settleReply_refuse]
  case passes => rw [grant_passes off armed word interlocks, settleReply_done]

/-! ### RELEASE -/

theorem execRelease_sent {r : Request} {s : State} {i : Fin 8} (h : Sent [.safe] 1 r s)
    (index : u8 r.body 0 = i.val) :
    exec (.release r) s = .next (settleReply .safe 0x45#8 (openRequest r s) (release i (openRequest r s))) :=
  takeRequest_onStream (row := Cmd.release) h rfl (by decide) (by decide) index

theorem release_tripped {i : Fin 8} {s : State} (state : (s.stream i).state = .tripped) :
    release i s =
      .done (clearAlarm (.streamTrip i) (s.modStream i fun x => { x with state := .off, cause := none }))
        (be8 i.val ++ [0x00#8] ++ be8 (causeOptByte (s.stream i).cause)) := by
  rw [release, if_pos state]
  rfl

theorem release_wrongState {i : Fin 8} {s : State} (state : (s.stream i).state ≠ .tripped) :
    release i s = .refuse .wrongState := if_neg state

/-- A command that takes a stream out of TRIPPED is a RELEASE on SAFE or a reset (R51). -/
theorem ParkedAfter.release_of_left_tripped {c : Instr} {s t : State} {i : Fin 8} (h : ParkedAfter c s t)
    (tripped : (s.stream i).state = .tripped) (left : (t.stream i).state ≠ .tripped) :
    (∃ r, c = .release r ∧ r.link = .safe ∧ u8 r.body 0 = i.val) ∨
    (∃ p q d, c = .powerOnReset p q d) ∨ (∃ r p d, c = .fullReset r p d) := by
  cases h with
  | kept kept => exact absurd ((kept.state i (.inr tripped)).trans tripped) left
  | setLinkTimeout link streams => exact absurd (by rw [State.stream_congr streams, tripped]) left
  | reset command => exact .inr command
  | release link index state streams =>
    rw [State.stream_congr streams, State.modStream_stream] at left
    split at left
    case isTrue same => subst same; exact .inl ⟨_, rfl, link, index⟩
    case isFalse => exact absurd tripped left
  | grant link index grantable streams =>
    rw [State.stream_congr streams, State.moveTo, State.modStream_stream] at left
    split at left
    case isTrue same =>
      subst same
      exact absurd (grantable.state.symm.trans tripped) (by decide)
    case isFalse => exact absurd tripped left

/-- Settles O23: RELEASE in its two cases, then what every command leaves of a stream in TRIPPED. -/
theorem onlyReleaseLeavesTripped : Obligations.OnlyReleaseLeavesTripped := by
  refine ⟨fun r s i h index => ⟨fun tripped => ?tripped, fun other => ?wrongState⟩, fun r s h => ?notOwner,
    fun c s t i h tripped left => (exec_parked h).release_of_left_tripped tripped left⟩
  case tripped =>
    rw [execRelease_sent h index, release_tripped (by simpa using tripped), settleReply_done, openRequest_stream]
  case wrongState =>
    rw [execRelease_sent h index, release_wrongState (by simpa using other), settleReply_refuse]
  case notOwner =>
    have foreign : r.link ∉ Cmd.release.owners := by
      obtain link | link := List.mem_pair.mp h.link <;> rw [link] <;> decide
    exact takeRequest_notOwner foreign (by rw [h.length]; decide) h.whole

/-! ### LIGHT, FLAME, HOLD, RESUME and STOP -/

theorem execLight_sent {r : Request} {s : State} {i : Fin 8} (h : Sent [.proc] 1 r s) (index : u8 r.body 0 = i.val) :
    exec (.light r) s = .next (settleReply .proc 0x23#8 (openRequest r s) (light i (openRequest r s))) :=
  takeRequest_onStream (row := Cmd.light) h rfl (by decide) (by decide) index

theorem execHold_sent {r : Request} {s : State} {i : Fin 8} (h : Sent [.proc] 1 r s) (index : u8 r.body 0 = i.val) :
    exec (.hold r) s = .next (settleReply .proc 0x24#8 (openRequest r s) (hold i (openRequest r s))) :=
  takeRequest_onStream (row := Cmd.hold) h rfl (by decide) (by decide) index

theorem execResume_sent {r : Request} {s : State} {i : Fin 8} (h : Sent [.proc] 1 r s) (index : u8 r.body 0 = i.val) :
    exec (.resume r) s = .next (settleReply .proc 0x25#8 (openRequest r s) (resume i (openRequest r s))) :=
  takeRequest_onStream (row := Cmd.resume) h rfl (by decide) (by decide) index

theorem execStop_sent {r : Request} {s : State} {i : Fin 8} (h : Sent [.proc] 1 r s) (index : u8 r.body 0 = i.val) :
    exec (.stop r) s = .next (settleReply .proc 0x26#8 (openRequest r s) (stop i (openRequest r s))) :=
  takeRequest_onStream (row := Cmd.stop) h rfl (by decide) (by decide) index

/-- FLAME is opened and its report looked at, under either of its rows (log entry 9). -/
theorem takeFlame_sent {r : Request} {s : State} {i : Fin 8} (h : Sent [.safe] 2 r s) (index : u8 r.body 0 = i.val) :
    takeRequest Cmd.flame r (flame r.body) s =
      .next (settleReply .safe 0x44#8 (openRequest r s)
        (match u8 r.body 1 with
          | 0x01 => flameProven i (openRequest r s)
          | 0x02 => flameLost i (openRequest r s)
          | _ => .refuse .range)) :=
  takeRequest_onStream (row := Cmd.flame) h rfl (by decide) (by decide) index

theorem execFlameProven_proven {r : Request} {s : State} {i : Fin 8} (h : Sent [.safe] 2 r s)
    (index : u8 r.body 0 = i.val) (report : u8 r.body 1 = 0x01) :
    exec (.flameProven r) s =
      .next (settleReply .safe 0x44#8 (openRequest r s) (flameProven i (openRequest r s))) :=
  (takeFlame_sent h index).trans (by simp only [report])

theorem execFlameProven_range {r : Request} {s : State} {i : Fin 8} (h : Sent [.safe] 2 r s)
    (index : u8 r.body 0 = i.val) (proven : u8 r.body 1 ≠ 0x01) (lost : u8 r.body 1 ≠ 0x02) :
    exec (.flameProven r) s = .next (giveAnswer .safe 0x44#8 .range [] (openRequest r s)) := by
  refine (takeFlame_sent h index).trans ?_
  split
  case h_1 report => exact absurd report proven
  case h_2 report => exact absurd report lost
  case h_3 => rfl

theorem execFlameLost_lost {r : Request} {s : State} {i : Fin 8} (h : Sent [.safe] 2 r s)
    (index : u8 r.body 0 = i.val) (report : u8 r.body 1 = 0x02) :
    exec (.flameLost r) s = .next (settleReply .safe 0x44#8 (openRequest r s) (flameLost i (openRequest r s))) :=
  (takeFlame_sent h index).trans (by simp only [report])

/-- Settles O27, command by command and state by state. -/
theorem firingCommandsTaken : Obligations.FiringCommandsTaken := by
  refine ⟨fun r s i h index => ⟨fun state => ?lightState, fun ready forced => ?lightForced,
      fun ready guards => ?lightTaken⟩,
    fun r s i h index => ⟨fun report => ⟨fun lighting => ?proven, fun tripped => ?tooLate,
      fun lighting tripped => ?provenState⟩, execFlameProven_range h index⟩,
    fun r s i h index => ⟨fun firing => ?held, fun state => ?holdState, fun state => ?resumed,
      fun held stopping => ?resumeState, fun state => ?stopping, fun lighting => ?quenched,
      fun firing held lighting => ?stopState⟩⟩
  case lightState => rw [execLight_sent h index, light, openRequest_stream, if_pos state]; rfl
  case lightForced =>
    rw [← guardForced_openRequest r, ← State.guardForced_iff] at forced
    rw [execLight_sent h index, light, openRequest_stream, if_neg (not_not.mpr ready), if_pos forced]; rfl
  case lightTaken =>
    rw [← guardForced_openRequest r, ← State.guardForced_iff] at guards
    rw [execLight_sent h index, light, openRequest_stream, if_neg (not_not.mpr ready), if_neg guards,
      fired_modStream]; rfl
  case proven =>
    rw [execFlameProven_proven h index report, flameProven, openRequest_stream, if_pos lighting, fired_modStream]; rfl
  case tooLate =>
    rw [execFlameProven_proven h index report, flameProven, openRequest_stream, if_neg (by simp [tripped]),
      if_pos tripped]; rfl
  case provenState =>
    rw [execFlameProven_proven h index report, flameProven, openRequest_stream, if_neg lighting, if_neg tripped]; rfl
  case held => rw [execHold_sent h index, hold, openRequest_stream, if_pos firing, fired_moveTo]; rfl
  case holdState => rw [execHold_sent h index, hold, openRequest_stream, if_neg state]; rfl
  case resumed => rw [execResume_sent h index, resume, openRequest_stream, if_pos state, fired_moveTo]; rfl
  case resumeState =>
    rw [execResume_sent h index, resume, openRequest_stream, if_neg (not_or.mpr ⟨held, stopping⟩)]; rfl
  case stopping =>
    have lighting : (s.stream i).state ≠ .lighting := by obtain state | state := state <;> simp [state]
    rw [execStop_sent h index, stop, openRequest_stream, if_neg lighting, if_pos state, fired_moveTo]; rfl
  case quenched => rw [execStop_sent h index, stop, openRequest_stream, if_pos lighting, fired_modStream]; rfl
  case stopState =>
    rw [execStop_sent h index, stop, openRequest_stream, if_neg lighting, if_neg (not_or.mpr ⟨firing, held⟩)]; rfl

/-! ### REVOKE, FLAME LOST, the lighting timer and the no-flow report -/

theorem execRevoke_sent {r : Request} {s : State} {i : Fin 8} (h : Sent [.safe] 1 r s)
    (index : u8 r.body 0 = i.val) :
    exec (.revoke r) s = .next (settleReply .safe 0x43#8 (openRequest r s) (revoke i (openRequest r s))) :=
  takeRequest_onStream (row := Cmd.revoke) h rfl (by decide) (by decide) index

theorem withdraw_burning (c : TripCause) {i : Fin 8} {s : State} (burning : (s.stream i).state.burning = true) :
    withdraw c i s = trip i c s := if_pos burning

theorem withdraw_ready (c : TripCause) {i : Fin 8} {s : State} (ready : (s.stream i).state = .ready) :
    withdraw c i s = s.moveTo i .off := by
  rw [withdraw, if_neg (by simp [ready, FiringState.burning]), if_pos ready, sendOff]

theorem withdraw_of_parked (c : TripCause) {i : Fin 8} {s : State} (parked : (s.stream i).Parked) :
    withdraw c i s = s := by
  obtain state | state := parked <;>
    rw [withdraw, if_neg (by simp [state, FiringState.burning]), if_neg (by simp [state])]

/-- Settles O25, cause by cause. -/
theorem tripCausesActByState : Obligations.TripCausesActByState := by
  refine ⟨fun r s i h index => ⟨fun burning => ?revoked, fun ready => ?sentOff, fun parked => ?noPermit⟩,
    fun r s i h index report => ⟨fun burning => ?lost, fun dark => ?dark⟩,
    fun s i => ⟨fun lighting running => ?expired, fun stopped => ?stopped⟩,
    fun s i => ⟨fun state => ?noFlow, fun firing held => ?noEffect⟩⟩
  case revoked =>
    rw [execRevoke_sent h index, revoke, withdraw_burning _ (by simpa using burning)]; rfl
  case sentOff =>
    rw [execRevoke_sent h index, revoke, withdraw_ready _ (by simpa using ready), fired_moveTo]; rfl
  case noPermit =>
    rw [execRevoke_sent h index, revoke, withdraw_of_parked _ (by simpa [Stream.Parked] using parked),
      fired_openRequest, settleReply_done]
  case lost =>
    rw [execFlameLost_lost h index report, flameLost, openRequest_stream, if_pos burning]; rfl
  case dark =>
    rw [execFlameLost_lost h index report, flameLost, openRequest_stream, if_neg (by simp [dark]), fired_openRequest,
      settleReply_done]
  case expired => exact if_pos ⟨Option.isSome_iff_ne_none.mpr running, lighting⟩
  case stopped => exact if_neg (by simp [stopped])
  case noFlow => exact if_pos state
  case noEffect => exact if_neg (not_or.mpr ⟨firing, held⟩)

/-! ### MASTER_TRIP and the loss of the SAFE link -/

/-- A withdrawal counts one trip where the stream burned (R48). -/
theorem withdraw_trips (c : TripCause) (i : Fin 8) (s : State) :
    (withdraw c i s).su.shift.trips =
      if (s.stream i).state.burning then min 65535 (s.su.shift.trips + 1) else s.su.shift.trips := by
  unfold withdraw
  split
  · rw [trip_su]
  · split <;> rfl

/-- Withdrawals taken one stream after the other count one trip for each that burned. -/
theorem foldl_withdraw_trips (c : TripCause) {l : List (Fin 8)} (nodup : l.Nodup) {s : State}
    (trips : s.su.shift.trips ≤ 65535) :
    (l.foldl (fun s i => withdraw c i s) s).su.shift.trips =
      min 65535 (s.su.shift.trips + (l.filter fun i => (s.stream i).state.burning).length) := by
  induction l generalizing s with
  | nil => simpa using trips
  | cons i l ih =>
    obtain ⟨fresh, nodup⟩ := List.nodup_cons.mp nodup
    have counted := withdraw_trips c i s
    have others : (l.filter fun j => ((withdraw c i s).stream j).state.burning) =
        l.filter fun j => (s.stream j).state.burning :=
      List.filter_congr fun j mem => by rw [withdraw_stream_other c i j s (ne_of_mem_of_not_mem mem fresh)]
    rw [List.foldl_cons, ih nodup (by rw [counted]; split <;> omega), others, counted, List.filter_cons]
    split
    · simp only [List.length_cons]; omega
    · omega

theorem withdrawAll_trips (c : TripCause) {s : State} (trips : s.su.shift.trips ≤ 65535) :
    (withdrawAll c s).su.shift.trips =
      min 65535 (s.su.shift.trips + (all8.filter fun i => (s.stream i).state.burning).length) := by
  rw [withdrawAll, foldl_withdraw_trips c (by decide) trips]

theorem withdrawAll_inOrder (c : TripCause) (s : State) :
    WithdrawnInOrder c (fun _ => True) s (withdrawAll c s) :=
  (foldl_withdrawnInOrder c (fun _ => true) s).congr fun _ => iff_of_true rfl trivial

/-- With no stream that burns or holds a permit nothing is withdrawn. -/
theorem withdrawAll_of_parked (c : TripCause) {s : State} (h : ∀ i, (s.stream i).Parked) : withdrawAll c s = s :=
  List.foldl_fixed' (fun i => withdraw_of_parked c (h i)) all8

theorem withdrawn_burning (c : TripCause) {i : Fin 8} {s : State} (burning : (s.stream i).state.burning = true) :
    withdrawn c (s.stream i) = (trip i c s).stream i := by
  rw [← withdraw_stream_self, withdraw_burning c burning]

theorem withdrawn_ready (c : TripCause) {x : Stream} (ready : x.state = .ready) :
    withdrawn c x = { x with state := .off } := by
  simp [withdrawn, ready, FiringState.burning]

theorem execMasterTrip_sent {r : Request} {s : State} (h : Sent [.safe] 0 r s) :
    exec (.masterTrip r) s = .next (settleReply .safe 0x46#8 (openRequest r s) (masterTrip (openRequest r s))) := by
  have taken : exec (.masterTrip r) s = _ := takeRequest_of_sent (row := Cmd.masterTrip) h (by decide) (by decide)
  rw [taken, List.mem_singleton.mp h.link]
  rfl

/-- Settles O26: the streams one after the other, then the command and the event that reach them all. -/
theorem allStreamsWithdrawn : Obligations.AllStreamsWithdrawn := by
  refine ⟨fun c s => ⟨withdrawAll_inOrder c s, withdrawAll_sameBlocks c s, fun i => ?streams,
    withdrawAll_trips c, withdrawAll_of_parked c⟩, fun r s h => ?masterTrip,
    fun s => ⟨fun running => ?expired, fun stopped => ?stopped⟩⟩
  case streams =>
    rw [withdrawAll_stream]
    exact ⟨withdrawn_burning c, withdrawn_ready c, withdrawn_of_parked c⟩
  case masterTrip =>
    rw [execMasterTrip_sent h, masterTrip, settleReply_done]
    simp only [streamSet, bit, openRequest_stream, beq_iff_eq]
  case expired => exact if_pos (Option.isSome_iff_ne_none.mpr running)
  case stopped => exact if_neg (by simp [stopped])

end Sys2Proof.Machine
end

section
/-! PROOFS. The dosing period: the closes of the eight streams, what a computation makes of its parts, its streams and
its site, and the settings of the period and of the SAFE link timer (R46, R56, R61, R62, R65 to R70, R78). -/

namespace Sys2Proof.Machine

/-! ### The period closes -/

theorem reportDeviation_stream (i j : Fin 8) (before after : Bool) (s : State) :
    (reportDeviation i before after s).stream j = s.stream j := by
  unfold reportDeviation
  repeat' split
  all_goals rfl

theorem reportDeviation_sameBlocks (i : Fin 8) (before after : Bool) (s : State) :
    SameBlocks s (reportDeviation i before after s) := by
  unfold reportDeviation
  repeat' split
  all_goals rfl

theorem periodClose_sameBlocks (s : State) (i : Fin 8) : SameBlocks s (periodClose s i) :=
  (modShift_sameBlocks _ s).trans <| (modStream_sameBlocks i _ _).trans (reportDeviation_sameBlocks i _ _ _)

/-- A period close reaches its own stream alone (R78). -/
theorem periodClose_stream (s : State) (i j : Fin 8) :
    (periodClose s i).stream j = if j = i then (s.stream j).closed s.period.ms else s.stream j := by
  rw [periodClose, reportDeviation_stream, State.modStream_stream]
  split
  case isTrue same => rw [same]; rfl
  case isFalse => rfl

theorem foldl_periodClose (l : List (Fin 8)) (nodup : l.Nodup) (s : State) :
    SameBlocks s (l.foldl periodClose s) ∧
    ∀ j, (l.foldl periodClose s).stream j = if j ∈ l then (s.stream j).closed s.period.ms else s.stream j := by
  induction l generalizing s with
  | nil => exact ⟨.refl s, fun j => by simp⟩
  | cons i l ih =>
    obtain ⟨fresh, nodup⟩ := List.nodup_cons.mp nodup
    obtain ⟨same, streams⟩ := ih nodup (periodClose s i)
    refine ⟨(periodClose_sameBlocks s i).trans same, fun j => ?_⟩
    rw [List.foldl_cons, streams, (periodClose_sameBlocks s i).period, periodClose_stream]
    by_cases own : j = i
    · subst own; simp [fresh]
    · simp [own]

theorem periodCloses_sameBlocks (s : State) : SameBlocks s (periodCloses s) :=
  (foldl_periodClose all8 (by decide) s).1

theorem periodCloses_stream (s : State) (i : Fin 8) :
    (periodCloses s).stream i = (s.stream i).closed s.period.ms := by
  rw [periodCloses, (foldl_periodClose all8 (by decide) s).2, if_pos (mem_all8 i)]

/-! ### The parts of an allocation -/

/-- The streams that the parts of a list stand for. -/
def partIndices (l : List Share) : List (Fin 8) := l.map Share.idx

theorem partIndices_map {l : List Share} {f : Share → Share} (idx : ∀ p, (f p).idx = p.idx) :
    partIndices (l.map f) = partIndices l := by
  simp [partIndices, idx]

theorem partIndices_giveShares (m : Int) (l : List Share) : partIndices (giveShares m l) = partIndices l :=
  partIndices_map fun p => by split <;> rfl

/-- The passes fix parts and share heat among them, and neither add nor lose one (R67). -/
theorem partIndices_runPasses (e fuel k : Nat) (l : List Share) :
    partIndices (runPasses e fuel k l).parts = partIndices l := by
  induction fuel generalizing k l with
  | zero => rfl
  | succ fuel ih =>
    unfold runPasses
    split; · rfl
    split; · rw [ih, partIndices_map fun p => by split <;> rfl]
    split; · rw [ih, partIndices_map fun p => by split <;> rfl, partIndices_giveShares]
    split; · rw [ih, partIndices_map fun p => by split <;> rfl, partIndices_giveShares]
    exact partIndices_giveShares _ _

/-- A pass leaves a fixed part as it is, where it changes UNFIXED parts alone. -/
theorem mem_map_of_fixed {l : List Share} {c : Share → Bool} {f : Share → Share} {p : Share} (mem : p ∈ l)
    (keeps : c p = false) : p ∈ l.map fun q => if c q then f q else q :=
  List.mem_map.mpr ⟨p, mem, by simp [keeps]⟩

theorem mem_giveShares_of_fixed {m : Int} {l : List Share} {p : Share} (mem : p ∈ l) (fixed : p.unfixed = false) :
    p ∈ giveShares m l :=
  mem_map_of_fixed mem fixed

/-- A fixed part goes through every pass unchanged (R67). -/
theorem mem_runPasses_of_fixed (e fuel k : Nat) {l : List Share} {p : Share} (mem : p ∈ l)
    (fixed : p.unfixed = false) : p ∈ (runPasses e fuel k l).parts := by
  induction fuel generalizing k l with
  | zero => exact mem
  | succ fuel ih =>
    have given := mem_giveShares_of_fixed (m := remainingHeat e l) mem fixed
    unfold runPasses
    split; · exact mem
    split; · exact ih _ (mem_map_of_fixed mem fixed)
    split; · exact ih _ (mem_map_of_fixed given (by simp [Share.above, fixed]))
    split; · exact ih _ (mem_map_of_fixed given (by simp [Share.below, fixed]))
    exact given

theorem mem_openShares {x : Site} {v : Vector Stream 8} {p : Share} :
    p ∈ openShares x v ↔ v[p.idx].limits.site = x ∧ v[p.idx].share p.idx = some p := by
  rw [openShares, List.mem_filterMap]
  constructor
  · rintro ⟨i, -, taken⟩
    split at taken
    case isTrue member =>
      obtain ⟨rfl, -⟩ := Stream.share_fits taken
      exact ⟨member, taken⟩
    case isFalse => cases taken
  · rintro ⟨member, taken⟩
    exact ⟨p.idx, mem_all8 _, by rw [if_pos member, taken]⟩

theorem partIndices_openShares_nodup (x : Site) (v : Vector Stream 8) : (partIndices (openShares x v)).Nodup := by
  rw [partIndices, openShares, List.map_filterMap]
  have own (i k : Fin 8) (h : k ∈ Option.map Share.idx (if v[i].limits.site = x then v[i].share i else none)) :
      k = i := by
    obtain ⟨p, taken, rfl⟩ := Option.map_eq_some_iff.mp h
    split at taken
    · exact (Stream.share_fits taken).1
    · cases taken
  exact List.Nodup.filterMap (fun i j k hi hj => (own i k hi).symm.trans (own j k hj)) (by decide)

theorem partIndices_allocation (x : Site) (s : State) :
    partIndices (s.allocation x).parts = partIndices (openShares x s.streams) :=
  partIndices_runPasses _ _ _ _

/-- The part of a stream is the one that stands for it. -/
theorem State.allocation_part_of_mem {x : Site} {s : State} {p : Share} (mem : p ∈ (s.allocation x).parts) :
    (s.allocation x).part p.idx = some p := by
  have nodup : ((s.allocation x).parts.map Share.idx).Nodup := by
    have same := partIndices_allocation x s
    rw [partIndices] at same
    rw [same]
    exact partIndices_openShares_nodup x s.streams
  have some : ((s.allocation x).part p.idx).isSome = true :=
    List.find?_isSome.mpr ⟨p, mem, beq_self_eq_true p.idx⟩
  obtain ⟨q, found⟩ := Option.isSome_iff_exists.mp some
  have idx : q.idx = p.idx := by simpa using List.find?_some found
  rw [found, List.inj_on_of_nodup_map nodup (List.mem_of_find?_eq_some found) mem idx]

/-- A stream that opens no part has none at the end. -/
theorem State.allocation_part_none {x : Site} {s : State} {i : Fin 8} (none : (s.stream i).share i = none) :
    (s.allocation x).part i = .none := by
  rw [Allocation.part, List.find?_eq_none]
  intro p mem same
  have opened : p.idx ∈ partIndices (openShares x s.streams) := by
    rw [← partIndices_allocation]
    exact List.mem_map_of_mem mem
  obtain ⟨q, hq, idx⟩ := List.mem_map.mp opened
  obtain rfl : q.idx = i := idx.trans (beq_iff_eq.mp same)
  exact absurd ((mem_openShares.mp hq).2.symm.trans none) (by simp)

/-- A stream of the site that opens a part has one at the end. -/
theorem State.allocation_part_some {x : Site} {s : State} {p : Share} (site : (s.stream p.idx).limits.site = x)
    (taken : (s.stream p.idx).share p.idx = some p) : ∃ q ∈ (s.allocation x).parts, q.idx = p.idx := by
  have opened : p.idx ∈ partIndices (s.allocation x).parts := by
    rw [partIndices_allocation]
    exact List.mem_map_of_mem (mem_openShares.mpr ⟨site, taken⟩)
  exact List.mem_map.mp opened

/-- A stream whose part is fixed from the start keeps it to the end (R65, R67). -/
theorem State.allocation_part_fixed {x : Site} {s : State} {p : Share} (site : (s.stream p.idx).limits.site = x)
    (taken : (s.stream p.idx).share p.idx = some p) (fixed : p.unfixed = false) :
    (s.allocation x).part p.idx = some p :=
  State.allocation_part_of_mem
    (mem_runPasses_of_fixed _ _ _ (mem_openShares.mpr ⟨site, taken⟩) fixed)

/-! ### A computation on the state -/

/-- The allocation of a computation, over the streams as the lowering of the STOPPING ones leaves them (R65, R67). -/
def doseAllocation (x : Site) (s : State) : Allocation :=
  State.allocation x { s with streams := lowerStreams x s.streams }

/-- The state of a computation before its report to the Alarm Unit, which is its last step (R66 to R72). -/
def computed (x : Site) (s : State) : State :=
  writeResults x (doseAllocation x s) { s with streams := lowerStreams x s.streams }

theorem reportUnplaced_sameBlocks (x : Site) (before after : Bool) (unplaced : Int) (s : State) :
    SameBlocks s (reportUnplaced x before after unplaced s) ∧
      (reportUnplaced x before after unplaced s).streams = s.streams := by
  unfold reportUnplaced
  repeat' split
  all_goals exact ⟨rfl, rfl⟩

/-- The report of a computation leaves the streams and the sites as they were computed. -/
theorem dose_computed (x : Site) (s : State) :
    SameBlocks (computed x s) (dose x s) ∧ (dose x s).streams = (computed x s).streams :=
  reportUnplaced_sameBlocks x _ _ _ _

theorem dose_sameBlocks (x : Site) (s : State) :
    SameBlocks { s with mainSite := (dose x s).mainSite, calcSite := (dose x s).calcSite } (dose x s) := by
  have same := (dose_computed x s).1
  rw [same.mainSite, same.calcSite]
  exact SameBlocks.trans (t := computed x s) rfl same

theorem dose_siteRec_computed (x y : Site) (s : State) : (dose x s).siteRec y = (computed x s).siteRec y := by
  cases y
  · exact (dose_computed x s).1.mainSite
  · exact (dose_computed x s).1.calcSite

theorem dose_siteRec_other {x y : Site} (s : State) (h : y ≠ x) : (dose x s).siteRec y = s.siteRec y := by
  rw [dose_siteRec_computed, computed, writeResults, State.modSite_siteRec_other _ _ _ _ h]
  cases y <;> rfl

/-- The record of the site computed (R61, R68, R72). -/
theorem dose_siteRec_self (x : Site) (s : State) :
    (dose x s).siteRec x =
      SiteRec.dosed (siteFiring x (lowerStreams x s.streams))
        (recordOf x (lowerStreams x s.streams) (doseAllocation x s)) (doseAllocation x s).unplaced (s.siteRec x) := by
  rw [dose_siteRec_computed, computed, writeResults, State.modSite_siteRec_self]
  cases x <;> rfl

theorem lowerStreams_getElem (x : Site) (v : Vector Stream 8) (i : Fin 8) :
    (lowerStreams x v)[i] = if v[i].limits.site = x then v[i].lowered else v[i] :=
  mapStreams_getElem _ v i

theorem dose_stream_other {x : Site} {s : State} {i : Fin 8} (site : (s.stream i).limits.site ≠ x) :
    (dose x s).stream i = s.stream i := by
  have lowered : (lowerStreams x s.streams)[i] = s.stream i := (lowerStreams_getElem x _ i).trans (if_neg site)
  rw [State.stream, (dose_computed x s).2]
  refine (mapStreams_getElem _ _ i).trans ?_
  dsimp only
  rw [lowered, if_neg site]

/-- A stream of the site computed: lowered where it is STOPPING, then given the results of its part (R65, R68, R69). -/
theorem dose_stream_member {x : Site} {s : State} {i : Fin 8} (site : (s.stream i).limits.site = x) :
    (dose x s).stream i =
      (s.stream i).lowered.dosed ((doseAllocation x s).part i) := by
  have lowered : (lowerStreams x s.streams)[i] = (s.stream i).lowered :=
    (lowerStreams_getElem x _ i).trans (if_pos site)
  rw [State.stream, (dose_computed x s).2]
  refine (mapStreams_getElem _ _ i).trans ?_
  dsimp only
  rw [lowered, if_pos (by rw [Stream.lowered_limits]; exact site)]

theorem recordOf_parts (x : Site) (v : Vector Stream 8) (a : Allocation) (i : Fin 8) :
    (recordOf x v a).parts[i] = if v[i].limits.site = x then some (recordPart (a.part i)) else none := by
  fin_cases i <;> rfl

/-- What the record of a computation holds for a stream (R68). -/
theorem dose_record_part (x : Site) (s : State) (i : Fin 8) :
    ((dose x s).siteRec x).record.parts[i] =
      if (s.stream i).limits.site = x then some (recordPart ((doseAllocation x s).part i)) else none := by
  have site : (lowerStreams x s.streams)[i].limits.site = (s.stream i).limits.site := by
    rw [lowerStreams_getElem]
    split
    · exact congrArg Limits.site (Stream.lowered_limits _)
    · rfl
  rw [dose_siteRec_self]
  exact (recordOf_parts x _ _ i).trans (by rw [site])

/-! ### The streams by their firing state -/

/-- The streams that the allocation of a computation reads. -/
theorem lowered_stream {x : Site} {s : State} {i : Fin 8} (site : (s.stream i).limits.site = x) :
    ({ s with streams := lowerStreams x s.streams } : State).stream i = (s.stream i).lowered :=
  (lowerStreams_getElem x _ i).trans (if_pos site)

theorem doseAllocation_part_none {x : Site} {s : State} {i : Fin 8} (site : (s.stream i).limits.site = x)
    (none : (s.stream i).lowered.share i = none) : (doseAllocation x s).part i = .none :=
  State.allocation_part_none (by rw [lowered_stream site, none])

/-- A stream whose part is fixed from the start is given its own output as its planned setpoint (R65, R68). -/
theorem dose_stream_fixed {x : Site} {s : State} {i : Fin 8} {p : Share} (site : (s.stream i).limits.site = x)
    (taken : (s.stream i).lowered.share i = some p) (fixed : p.unfixed = false) :
    (dose x s).stream i = (s.stream i).lowered.dosed (some p) := by
  obtain ⟨rfl, -⟩ := Stream.share_fits taken
  rw [dose_stream_member site]
  congr 1
  refine State.allocation_part_fixed ?_ (by rw [lowered_stream site, taken]) fixed
  rw [lowered_stream site, Stream.lowered_limits, site]

theorem Stream.lowered_of_not_stopping {x : Stream} (h : x.state ≠ .stopping) : x.lowered = x := if_neg h

/-- A stream in OFF, READY or TRIPPED takes no part (R65). -/
theorem Stream.share_resting (i : Fin 8) {x : Stream} (rest : x.state = .off ∨ x.state = .ready ∨ x.state = .tripped) :
    x.share i = none := by
  obtain state | state | state := rest <;> simp [Stream.share, state]

/-- A stream that burns but does not fire takes a part fixed at its output (R65, R66). -/
theorem Stream.share_fixed (i : Fin 8) {x : Stream}
    (state : x.state = .lighting ∨ x.state = .held ∨ x.state = .calib ∨ x.state = .stopping) :
    ∃ p, x.share i = some p ∧ p.unfixed = false ∧ p.mass = x.output := by
  obtain state | state | state | state := state <;> simp [Stream.share, state, Share.unfixed]

theorem Stream.share_firing (i : Fin 8) {x : Stream} (firing : x.state = .firing) :
    ∃ p, x.share i = some p ∧ p.idx = i := by
  simp [Stream.share, firing]

theorem Stream.dosed_not_firing {p : Share} {x : Stream} (h : x.state ≠ .firing) :
    x.dosed (some p) = { x with planned := p.mass.toNat } := if_neg h

theorem Stream.dosed_firing {p : Share} {x : Stream} (h : x.state = .firing) :
    x.dosed (some p) =
      { x with
        planned := p.mass.toNat
        output := ramped x.limits x.output p.mass.toNat
        rate := rateOf (ramped x.limits x.output p.mass.toNat) x.limits.scale } := if_pos h

theorem dose_stream_resting {x : Site} {s : State} {i : Fin 8} (site : (s.stream i).limits.site = x)
    (rest : (s.stream i).state = .off ∨ (s.stream i).state = .ready ∨ (s.stream i).state = .tripped) :
    (dose x s).stream i = s.stream i := by
  have lowered : (s.stream i).lowered = s.stream i :=
    Stream.lowered_of_not_stopping (by obtain state | state | state := rest <;> simp [state])
  have part := doseAllocation_part_none site (by rw [lowered, Stream.share_resting i rest])
  rw [dose_stream_member site, part, lowered]
  rfl

theorem dose_stream_kept {x : Site} {s : State} {i : Fin 8} (site : (s.stream i).limits.site = x)
    (state : (s.stream i).state = .lighting ∨ (s.stream i).state = .held ∨ (s.stream i).state = .calib) :
    (dose x s).stream i = { s.stream i with planned := (s.stream i).output } := by
  have lowered : (s.stream i).lowered = s.stream i :=
    Stream.lowered_of_not_stopping (by obtain state | state | state := state <;> simp [state])
  obtain ⟨p, taken, fixed, mass⟩ := Stream.share_fixed i (x := s.stream i) (by tauto)
  rw [dose_stream_fixed site (by rw [lowered, taken]) fixed, lowered, Stream.dosed_not_firing, mass, Int.toNat_natCast]
  obtain state | state | state := state <;> simp [state]

/-- The two ends of lowering a STOPPING stream (R46, R65). -/
theorem Stream.lowered_to_ready {x : Stream} (stopping : x.state = .stopping) (low : x.output ≤ x.limits.ramp) :
    x.lowered = { x with state := .ready, output := 0, planned := 0, rate := 0, noFlowDue := false } := by
  rw [Stream.lowered, if_pos stopping, if_pos low]

theorem Stream.lowered_by_ramp {x : Stream} (stopping : x.state = .stopping) (high : x.limits.ramp < x.output) :
    x.lowered =
      { x with
        output := x.output - x.limits.ramp
        rate := rateOf (x.output - x.limits.ramp) x.limits.scale } := by
  rw [Stream.lowered, if_pos stopping, if_neg (by omega)]
  rfl

theorem dose_stream_stopped {x : Site} {s : State} {i : Fin 8} (site : (s.stream i).limits.site = x)
    (stopping : (s.stream i).state = .stopping) (low : (s.stream i).output ≤ (s.stream i).limits.ramp) :
    (dose x s).stream i =
      { s.stream i with state := .ready, output := 0, planned := 0, rate := 0, noFlowDue := false } := by
  have lowered := Stream.lowered_to_ready stopping low
  have part := doseAllocation_part_none site (by rw [lowered, Stream.share_resting i (.inr (.inl rfl))])
  rw [dose_stream_member site, part, lowered]
  rfl

theorem dose_stream_stopping {x : Site} {s : State} {i : Fin 8} (site : (s.stream i).limits.site = x)
    (stopping : (s.stream i).state = .stopping) (high : (s.stream i).limits.ramp < (s.stream i).output) :
    (dose x s).stream i =
      { s.stream i with
        output := (s.stream i).output - (s.stream i).limits.ramp
        planned := (s.stream i).output - (s.stream i).limits.ramp
        rate := rateOf ((s.stream i).output - (s.stream i).limits.ramp) (s.stream i).limits.scale } := by
  have lowered := Stream.lowered_by_ramp stopping high
  have state : (s.stream i).lowered.state = .stopping := by rw [lowered]; exact stopping
  obtain ⟨p, taken, fixed, mass⟩ := Stream.share_fixed i (.inr (.inr (.inr state)))
  rw [dose_stream_fixed site taken fixed, Stream.dosed_not_firing (by simp [state]), mass, Int.toNat_natCast, lowered]

/-- A FIRING stream is given the mass of its part (R68, R69). -/
theorem dose_stream_firing {x : Site} {s : State} {i : Fin 8} (site : (s.stream i).limits.site = x)
    (firing : (s.stream i).state = .firing) :
    ∃ p ∈ (doseAllocation x s).parts, p.idx = i ∧ (doseAllocation x s).part i = some p ∧
      (dose x s).stream i = (s.stream i).dosed (some p) := by
  have lowered : (s.stream i).lowered = s.stream i := Stream.lowered_of_not_stopping (by simp [firing])
  obtain ⟨o, taken, rfl⟩ := Stream.share_firing i firing
  obtain ⟨p, mem, idx⟩ : ∃ p ∈ (doseAllocation x s).parts, p.idx = o.idx :=
    State.allocation_part_some (by rw [lowered_stream site, lowered, site]) (by rw [lowered_stream site, lowered, taken])
  have part : (doseAllocation x s).part o.idx = some p := idx ▸ State.allocation_part_of_mem mem
  refine ⟨p, mem, idx, part, ?_⟩
  rw [dose_stream_member site, part, lowered]

theorem le_clampNat {lo hi : Nat} (x : Nat) (h : lo ≤ hi) : lo ≤ clampNat lo hi x := by
  unfold clampNat
  split
  · exact le_refl lo
  · split <;> omega

/-- Settles O31: the closes and the two computations, then a computation block by block and stream by stream. -/
theorem dosingMovesOutputs : Obligations.DosingMovesOutputs := by
  refine ⟨fun s => ⟨rfl, ?inOrder, fun i => ?closes⟩, fun x s a allocated => ⟨fun i => ?lowered, dose_sameBlocks x s,
    fun y other => dose_siteRec_other s other, ?site, ?passes, ?lastM, fun i => ⟨fun other => ?noRecord, fun site =>
      ⟨fun p mem idx => ?record, fun none => ?emptyRecord⟩⟩, ?count, ?effective,
    fun i => ⟨fun other => dose_stream_other other, fun site => ⟨dose_stream_resting site, dose_stream_kept site,
      dose_stream_stopped site, dose_stream_stopping site, fun firing => ?firing⟩⟩⟩⟩
  case inOrder => simp only [periodCloses, all8, List.foldl_cons, List.foldl_nil]
  case closes => rw [periodCloses_stream, periodClose_stream, if_pos rfl]
  case lowered =>
    rw [lowerStreams_getElem]
    show (if (s.stream i).limits.site = x then (s.stream i).lowered else s.stream i) = _
    by_cases site : (s.stream i).limits.site = x
    · by_cases stopping : (s.stream i).state = .stopping
      · rw [if_pos site, if_pos ⟨site, stopping⟩]
        split
        case isTrue low => exact Stream.lowered_to_ready stopping low
        case isFalse high => exact Stream.lowered_by_ramp stopping (by omega)
      · rw [if_pos site, if_neg fun both => stopping both.2, Stream.lowered_of_not_stopping stopping]
    · rw [if_neg site, if_neg fun both => site both.1]
  case site => rw [allocated, dose_siteRec_self]; rfl
  case passes => rw [allocated, dose_siteRec_self]; rfl
  case lastM => rw [allocated, dose_siteRec_self]; rfl
  case count => rw [dose_siteRec_self]; rfl
  case effective => rw [dose_siteRec_self]; rfl
  case noRecord => rw [dose_record_part, if_neg other]
  case record =>
    subst idx
    rw [allocated] at mem
    have part : (doseAllocation x s).part p.idx = some p := State.allocation_part_of_mem mem
    rw [dose_record_part, if_pos site, part]
    rfl
  case emptyRecord =>
    have part : (doseAllocation x s).part i = .none :=
      List.find?_eq_none.mpr fun p mem => by simpa using none p (allocated ▸ mem)
    rw [dose_record_part, if_pos site, part]
    rfl
  case firing =>
    obtain ⟨p, mem, idx, part, dosed⟩ := dose_stream_firing site firing
    have unique : ∀ q ∈ a.parts, q.idx = i → q = p := by
      rintro q hq rfl
      rw [allocated] at hq
      exact Option.some.inj ((State.allocation_part_of_mem hq).symm.trans part)
    refine ⟨p.mass.toNat, ramped (s.stream i).limits (s.stream i).output p.mass.toNat,
      ⟨p, allocated ▸ mem, idx, rfl⟩, fun q hq own => by rw [unique q hq own], ?_, rfl, fun ordered => ?_⟩
    · rw [dosed, Stream.dosed_firing firing]
    · exact ⟨le_clampNat _ ordered, clampNat_le _ ordered⟩

/-! ### The dosing period and the SAFE link timeout -/

theorem periodOf_eq_some {v : Nat} {p : Period} : periodOf v = some p ↔ v = periodByte p := by
  unfold periodOf
  split <;> cases p <;> simp_all [periodByte]

theorem periodOf_none {v : Nat} (h : 3 < v) : periodOf v = none := by
  rw [Option.eq_none_iff_forall_ne_some]
  intro p coded
  rw [periodOf_eq_some] at coded
  cases p <;> simp [periodByte] at coded <;> omega

theorem State.allOffOrReady_iff (s : State) :
    s.allOffOrReady = true ↔ ∀ i, (s.stream i).state = .off ∨ (s.stream i).state = .ready := by
  simp [State.allOffOrReady, State.streams_toList, mem_all8]

theorem execSetPeriod_sent {r : Request} {s : State} (h : Sent [.proc] 1 r s) :
    exec (.setPeriod r) s = .next (settleReply .proc 0x22#8 (openRequest r s) (setPeriod r.body (openRequest r s))) := by
  have taken : exec (.setPeriod r) s = _ := takeRequest_of_sent (row := Cmd.setPeriod) h (by decide) (by decide)
  rw [taken, List.mem_singleton.mp h.link]
  rfl

theorem setPeriod_range {b : List Byte} (s : State) (h : 3 < u8 b 0) : setPeriod b s = .refuse .range := by
  simp only [setPeriod, periodOf_none h]

theorem setPeriod_of {b : List Byte} {p : Period} (s : State) (h : u8 b 0 = periodByte p) :
    setPeriod b s =
      if s.allOffOrReady then .done { s with period := p } (be8 (periodByte p)) else .refuse .wrongState := by
  simp only [setPeriod, periodOf_eq_some.mpr h]

theorem execSetLinkTimeout_sent {r : Request} {s : State} (h : Sent [.safe] 1 r s) :
    exec (.setLinkTimeout r) s =
      .next (settleReply .safe 0x49#8 (openRequest r s) (setLinkTimeout r.body (openRequest r s))) := by
  have taken : exec (.setLinkTimeout r) s = _ :=
    takeRequest_of_sent (row := Cmd.setLinkTimeout) h (by decide) (by decide)
  rw [taken, List.mem_singleton.mp h.link]
  rfl

theorem dose_dosingTimer (x : Site) (s : State) : (dose x s).dosingTimer = s.dosingTimer :=
  (dose_sameBlocks x s).dosingTimer

theorem dose_period (x : Site) (s : State) : (dose x s).period = s.period := (dose_sameBlocks x s).period

/-- A dosing period begun at an expiry has the length stored (R61, R62). -/
theorem dosingPeriodExpiry_timer {s t : State} (h : exec .dosingPeriodExpiry s = .next t) :
    t.dosingTimer = s.period.ms ∧ t.period = s.period := by
  obtain rfl := Host.Outcome.next.inj h
  have closes := periodCloses_sameBlocks { s with dosingTimer := s.period.ms }
  rw [dose_dosingTimer, dose_dosingTimer, closes.dosingTimer, dose_period, dose_period, closes.period]
  exact ⟨rfl, rfl⟩

/-- A command that changes the SAFE link timeout is a SET_LINK_TIMEOUT on SAFE or a reset (R56). -/
theorem ParkedAfter.setLinkTimeout_of_changed {c : Instr} {s t : State} (h : ParkedAfter c s t)
    (changed : t.safeTimeout ≠ s.safeTimeout) :
    (∃ r, c = .setLinkTimeout r ∧ r.link = .safe) ∨ (∃ p q d, c = .powerOnReset p q d) ∨
    (∃ r p d, c = .fullReset r p d) := by
  cases h with
  | kept kept => exact absurd kept.timeout changed
  | grant link index grantable streams timeout => exact absurd timeout changed
  | release link index state streams timeout => exact absurd timeout changed
  | setLinkTimeout link streams => exact .inl ⟨_, rfl, link⟩
  | reset command => exact .inr command

/-- Settles O29: the two commands, the period at an expiry, and what every command leaves of the timeout. -/
theorem periodAndTimeoutStored : Obligations.PeriodAndTimeoutStored := by
  refine ⟨⟨fun r s h => ⟨fun high => ?range, fun p coded => ⟨fun busy => ?wrongState, fun quiet => ?stored⟩⟩,
      fun s t => dosingPeriodExpiry_timer⟩,
    fun r s h => ⟨fun low high => ?timeout, fun outside => ?timeoutRange⟩,
    fun c s t h changed => (exec_parked h).setLinkTimeout_of_changed changed⟩
  case range => rw [execSetPeriod_sent h, setPeriod_range _ high, settleReply_refuse]
  case wrongState =>
    have refused : ¬(openRequest r s).allOffOrReady = true := by
      rw [State.allOffOrReady_iff]
      simpa using busy
    rw [execSetPeriod_sent h, setPeriod_of _ coded, if_neg refused, settleReply_refuse]
  case stored =>
    have passes : (openRequest r s).allOffOrReady = true := by
      rw [State.allOffOrReady_iff]
      simpa using quiet
    rw [execSetPeriod_sent h, setPeriod_of _ coded, if_pos passes, settleReply_done]
  case timeout =>
    rw [execSetLinkTimeout_sent h, setLinkTimeout, if_pos (within_iff.mpr ⟨low, high⟩), settleReply_done]
  case timeoutRange =>
    have refused : ¬within 1 10 (u8 r.body 0) = true := by
      rw [within_iff]
      omega
    rw [execSetLinkTimeout_sent h, setLinkTimeout, if_neg refused, settleReply_refuse]

end Sys2Proof.Machine
end

section
/-! PROOFS. The device clock: which events have fallen due, and what one millisecond leaves (log entries 1, 2, 4, 7). -/

namespace Sys2Proof.Machine

/-! ### What has fallen due -/

@[simp] theorem mem_dueIf {b : Bool} {c d : Instr} : c ∈ dueIf b d ↔ b = true ∧ c = d := by
  cases b <;> simp [dueIf]

theorem mem_all4 (k : Fin 4) : k ∈ all4 := by revert k; decide

/-- An OPEN record at the end of its window (R90). -/
def Stream.WindowOver (x : Stream) : Prop := ∃ c, x.cal = some c ∧ c.state = .opened ∧ 3600000 ≤ c.elapsed

theorem mem_streamDue {s : State} {i : Fin 8} {c : Instr} :
    c ∈ streamDue s i ↔
      ((s.stream i).noFlowDue = true ∧ c = .noFlowReport i) ∨
      ((s.stream i).lighting = some 0 ∧ c = .lightingTimerExpiry i) ∨
      ((s.stream i).WindowOver ∧ c = .calWindowTimeout i) := by
  unfold streamDue Stream.WindowOver
  cases (s.stream i).cal <;> simp

/-- The events due, each by what makes it so. -/
theorem State.mem_due {s : State} {c : Instr} :
    c ∈ s.due ↔
      (s.dosingTimer = 0 ∧ c = .dosingPeriodExpiry) ∨
      (∃ i, (s.stream i).noFlowDue = true ∧ c = .noFlowReport i) ∨
      (∃ i, (s.stream i).lighting = some 0 ∧ c = .lightingTimerExpiry i) ∨
      (∃ i, (s.stream i).WindowOver ∧ c = .calWindowTimeout i) ∨
      (s.safeTimer = some 0 ∧ c = .safeLinkTimerExpiry) ∨
      (∃ n, (s.slot n).timer = some 0 ∧ c = .staleTimerExpiry n) ∨
      (∃ k, (s.cutSet k).timer = .running 0 ∧ c = .delayTimerExpiry k) ∨
      (s.cooler.timer = 0 ∧ c = .coolerPeriod) ∨
      (∃ n : Fin 4, s.cooler.sections[n].stall = some 0 ∧ c = .stallTimerExpiry n) ∨
      (s.scanTimer = 0 ∧ c = .contactScan s.contactInputs) ∨
      (∃ e ∈ s.au.list, (e.state = .shelved ∧ e.shelf = some 0) ∧ c = .shelfExpiry e.code) ∨
      (s.au.hornBTimer = some 0 ∧ c = .hornBIntervalExpiry) ∨
      (s.su.secondTimer = 0 ∧ c = .clockAdvance) := by
  simp only [State.due, shelvesDue, List.mem_append, List.mem_flatMap, mem_dueIf, mem_streamDue, mem_all8, mem_all4,
    true_and, beq_iff_eq, Bool.and_eq_true, exists_or, or_assoc]

/-- An event due is an event of the part's own: no request, no pulse, no reset, no bad transfer. -/
theorem State.own_of_mem_due {s : State} {c : Instr} (h : c ∈ s.due) :
    c.request = none ∧ (∀ i, c ≠ .massPulse i) ∧ (∀ n, c ≠ .strokePulse n) ∧ (∀ p q d, c ≠ .powerOnReset p q d) ∧
      (∀ l b, c ≠ .frameErr l b) ∧ (∀ v r, c ≠ .unknownCmd v r) ∧ ∀ l b, c ≠ .abandonedTransfer l b := by
  obtain ⟨-, rfl⟩ | ⟨i, -, rfl⟩ | ⟨i, -, rfl⟩ | ⟨i, -, rfl⟩ | ⟨-, rfl⟩ | ⟨n, -, rfl⟩ | ⟨k, -, rfl⟩ | ⟨-, rfl⟩ |
    ⟨n, -, rfl⟩ | ⟨-, rfl⟩ | ⟨e, -, -, rfl⟩ | ⟨-, rfl⟩ | ⟨-, rfl⟩ := State.mem_due.mp h
  all_goals exact ⟨rfl, by simp, by simp, by simp, by simp, by simp, by simp⟩

/-- Whatever the free order, the event taken is one of those due (log entry 2). -/
theorem chooseDue_mem (seed : Nat) (c : Instr) (rest : List Instr) : chooseDue seed c rest ∈ c :: rest := by
  unfold chooseDue
  split
  · exact List.mem_singleton_self c
  · have bound : Config.raceChoice seed rest.length % (rest.length + 1) < (c :: rest).length :=
      Nat.mod_lt _ rest.length.succ_pos
    rw [List.getD_eq_getElem _ _ bound]
    exact List.getElem_mem bound

theorem step_idle {s : State} (h : s.pending = []) : step s = .next (idle s) := by
  unfold step
  rw [h]

theorem idle_of_none_due {s : State} (h : s.due = []) : idle s = s.tick := by
  unfold idle
  rw [h]

theorem idle_of_due {s : State} (h : s.due ≠ []) :
    ∃ c ∈ s.due, idle s = { s with pending := [c], raceSeed := s.raceSeed + 1 } := by
  unfold idle
  split
  case h_1 none => exact absurd none h
  case h_2 c rest due => exact ⟨_, due ▸ chooseDue_mem s.raceSeed c rest, rfl⟩

/-! ### One millisecond -/

theorem State.tick_stream (s : State) (i : Fin 8) : s.tick.stream i = (s.stream i).tick :=
  mapStreams_getElem _ s.streams i

theorem State.tick_slot (s : State) (n : Fin 8) : s.tick.slot n = (s.slot n).tick := by
  fin_cases n <;> rfl

theorem State.tick_cutSet (s : State) (k : Fin 4) : s.tick.cutSet k = (s.cutSet k).tick := by
  fin_cases k <;> rfl

theorem State.tick_section (s : State) (n : Fin 4) : s.tick.cooler.sections[n] = s.cooler.sections[n].tick := by
  fin_cases n <;> rfl

theorem CutSet.tick_eq (x : CutSet) :
    x.tick =
      { x with
        timer :=
          match x.timer with
          | .running ms => .running (ms - 1)
          | .frozen ms => .frozen ms
          | .stopped => .stopped } := by
  unfold CutSet.tick DelayTimer.tick
  cases x.timer <;> rfl

theorem Stream.tick_eq (x : Stream) :
    x.tick =
      { x with
        lighting := x.lighting.map fun ms => ms - 1
        cal :=
          match x.cal with
          | some c => some (if c.state = .opened then { c with elapsed := min 3600000 (c.elapsed + 1) } else c)
          | none => none } := by
  unfold Stream.tick
  cases x.cal <;> rfl

/-- Settles O2: a step on an empty queue, then the events due one kind after the other, then the millisecond. -/
theorem idleStepQueuesDueEvent : Obligations.IdleStepQueuesDueEvent := by
  intro s empty
  refine ⟨fun none => ?ticks, fun some => ?queues, by simp [State.mem_due], by simp [State.mem_due],
    by simp [State.mem_due], by simp [State.mem_due], by simp [State.mem_due], fun i => by simp [State.mem_due],
    fun i => by simp [State.mem_due], fun n => by simp [State.mem_due], fun k => by simp [State.mem_due],
    fun n => by simp [State.mem_due], fun x => by simp [State.mem_due], fun i => by simp [State.mem_due, Stream.WindowOver],
    fun c => ?shelf, fun c => State.own_of_mem_due, rfl, fun i => (s.tick_stream i).trans (s.stream i).tick_eq,
    fun n => s.tick_slot n, fun k => (s.tick_cutSet k).trans (s.cutSet k).tick_eq, fun n => s.tick_section n⟩
  case ticks => rw [step_idle empty, idle_of_none_due none]
  case queues =>
    obtain ⟨c, due, queued⟩ := idle_of_due some
    exact ⟨c, due, by rw [step_idle empty, queued]⟩
  case shelf =>
    simp only [State.mem_due, reduceCtorEq, and_false, exists_false, false_or, or_false, Instr.shelfExpiry.injEq]
    exact exists_congr fun e => and_congr_right fun _ => and_comm.trans (and_congr_left fun _ => eq_comm)

end Sys2Proof.Machine
end

section
/-! PROOFS. The calibration window: a record opened, latched, discarded and accepted (R47, R87 to R94). -/

namespace Sys2Proof.Machine

/-! ### CAL_START, CAL_STOP and CAL_DISCARD -/

/-- A change of a stream is known by what it makes of that stream as it stands. -/
theorem State.modStream_congr {i : Fin 8} {f g : Stream → Stream} {s : State} (h : f (s.stream i) = g (s.stream i)) :
    s.modStream i f = s.modStream i g := by
  simp only [State.stream] at h
  simp only [State.modStream, h]

theorem execCalStart_sent {r : Request} {s : State} {i : Fin 8} (h : Sent [.proc] 1 r s)
    (index : u8 r.body 0 = i.val) :
    exec (.calStart r) s = .next (settleReply .proc 0x27#8 (openRequest r s) (calStart i (openRequest r s))) :=
  takeRequest_onStream (row := Cmd.calStart) h rfl (by decide) (by decide) index

theorem execCalStop_sent {r : Request} {s : State} {i : Fin 8} (h : Sent [.proc] 1 r s)
    (index : u8 r.body 0 = i.val) :
    exec (.calStop r) s = .next (settleReply .proc 0x28#8 (openRequest r s) (calStop i (openRequest r s))) :=
  takeRequest_onStream (row := Cmd.calStop) h rfl (by decide) (by decide) index

theorem execCalDiscard_sent {r : Request} {s : State} {i : Fin 8} (h : Sent [.proc] 1 r s)
    (index : u8 r.body 0 = i.val) :
    exec (.calDiscard r) s = .next (settleReply .proc 0x2A#8 (openRequest r s) (calDiscard i (openRequest r s))) :=
  takeRequest_onStream (row := Cmd.calDiscard) h rfl (by decide) (by decide) index

theorem execCalAccept_sent {r : Request} {s : State} {i : Fin 8} (h : Sent [.proc] 5 r s)
    (index : u8 r.body 0 = i.val) :
    exec (.calAccept r) s =
      .next (settleReply .proc 0x29#8 (openRequest r s) (calAccept r.body i (openRequest r s))) :=
  takeRequest_onStream (row := Cmd.calAccept) h rfl (by decide) (by decide) index

theorem calStart_opens {i : Fin 8} {s : State} (firing : (s.stream i).state = .firing)
    (none : (s.stream i).cal = .none) :
    calStart i s =
      .done (s.modStream i fun x =>
          { x with state := .calib, cal := some ⟨.opened, s.su.clock, x.output, x.plan.pulseWeight, 0, 0⟩ })
        (be8 i.val ++ [0x05#8]) := by
  rw [calStart, if_pos ⟨firing, none⟩, fired_modStream]
  rfl

theorem CalRecord.stopState_eq (c : CalRecord) : c.stopState = if c.elapsed < 60000 then .short else .done := rfl

/-- The latched fields in the answer of CAL_STOP (R89). -/
theorem calStopBytes_latched (c : CalRecord) :
    calStopBytes { c with state := c.stopState } =
      [if c.elapsed < 60000 then 0x02#8 else 0x03#8] ++ be32 c.pulses ++ be32 c.elapsed := by
  have coded : be8 (calStateByte c.stopState) = [if c.elapsed < 60000 then 0x02#8 else 0x03#8] := by
    rw [CalRecord.stopState_eq]
    split <;> rfl
  rw [calStopBytes, coded]

theorem calStop_latches {i : Fin 8} {s : State} {c : CalRecord} (calib : (s.stream i).state = .calib)
    (cal : (s.stream i).cal = some c) (opened : c.state = .opened) :
    calStop i s =
      .done ((s.modStream i fun x => { x with state := .firing, cal := some { c with state := c.stopState } }).setFactors
          (calIf true))
        (be8 i.val ++ be8 (firingByte .firing) ++ calStopBytes { c with state := c.stopState }) := by
  simp only [calStop, calib, cal, opened, if_true]

theorem calDiscard_refused {i : Fin 8} {s : State}
    (h : (s.stream i).calOpen = true ∨ (s.stream i).cal = none) : calDiscard i s = .refuse .wrongState := by
  rw [Stream.calOpen_iff] at h
  obtain ⟨c, cal, opened⟩ | none := h
  · simp only [calDiscard, cal, opened, if_true]
  · simp only [calDiscard, none]

theorem calDiscard_taken {i : Fin 8} {s : State} {c : CalRecord} (cal : (s.stream i).cal = some c)
    (shut : c.state ≠ .opened) :
    calDiscard i s = .done (s.modStream i fun x => { x with cal := none }) (be8 i.val ++ be8 (calStateByte c.state)) := by
  simp only [calDiscard, cal, if_neg shut]

/-- The end of the window latches an OPEN record DONE (R90). -/
theorem execCalWindowTimeout_latches {i : Fin 8} {s : State} {c : CalRecord} (cal : (s.stream i).cal = some c)
    (opened : c.state = .opened) (calib : (s.stream i).state = .calib) :
    exec (.calWindowTimeout i) s =
      .next ((s.modStream i fun x =>
        { x with state := .firing, cal := some { c with state := .done, elapsed := 3600000 } }).setFactors
          (calIf true)) := by
  simp only [exec, execCalWindowTimeout, cal, opened, if_true]
  rw [State.modStream_congr]
  simp only [calib, if_true]

/-! ### CAL_ACCEPT -/

theorem clampNat_eq_self_iff {lo hi v : Nat} : clampNat lo hi v = v ↔ lo ≤ v ∧ v ≤ hi := by
  unfold clampNat
  split
  · omega
  · split <;> omega

theorem roundHalfUp_percent (g p : Nat) : roundHalfUp (g * p) 100 = (g * p + 50) / 100 := by
  unfold roundHalfUp
  omega

theorem computedWeight_eq (reference pulses : Nat) :
    computedWeight reference pulses = (reference * 1000 * 2 + pulses) / (2 * pulses) := by
  rw [computedWeight, roundHalfUp, Nat.mul_comm 2 (reference * 1000)]

theorem calAccept_range {b : List Byte} (i : Fin 8) (s : State) (h : u32 b 1 < 1 ∨ 100000 < u32 b 1) :
    calAccept b i s = .refuse .range := by
  have outside : within 1 100000 (u32 b 1) = false := by
    rw [Bool.eq_false_iff, ne_eq, within_iff]
    omega
  simp [calAccept, outside]

theorem Stream.acceptable_none {x : Stream}
    (h : x.cal = none ∨ ∃ c, x.cal = some c ∧ (c.state ≠ .done ∨ c.pulses = 0)) : x.acceptable = none := by
  obtain none | ⟨c, cal, bad⟩ := h
  · simp only [Stream.acceptable, none]
  · simp only [Stream.acceptable, cal]
    exact if_neg (by tauto)

theorem calAccept_wrongState {b : List Byte} {i : Fin 8} {s : State} (low : 1 ≤ u32 b 1) (high : u32 b 1 ≤ 100000)
    (h : (s.stream i).state = .tripped ∨ (s.stream i).acceptable = none) : calAccept b i s = .refuse .wrongState := by
  have inside : within 1 100000 (u32 b 1) = true := within_iff.mpr ⟨low, high⟩
  obtain tripped | none := h
  · simp [calAccept, inside, tripped]
  · simp [calAccept, inside, none]

theorem calAccept_taken {b : List Byte} {i : Fin 8} {s : State} {c : CalRecord} (low : 1 ≤ u32 b 1)
    (high : u32 b 1 ≤ 100000) (state : (s.stream i).state ≠ .tripped) (cal : (s.stream i).acceptable = some c) :
    calAccept b i s =
      .take
        (State.modShift OpenShift.countCal (s.modStream i
          (Stream.recalibrated (acceptedWeight (u32 b 1) c.pulses (s.stream i).plan.pulseWeight))))
        (if acceptedWeight (u32 b 1) c.pulses (s.stream i).plan.pulseWeight = computedWeight (u32 b 1) c.pulses
          then .ok else .okClamped)
        (calAcceptBytes i (u32 b 1) c (s.stream i).plan.pulseWeight) := by
  have inside : within 1 100000 (u32 b 1) = true := within_iff.mpr ⟨low, high⟩
  simp only [calAccept, inside, Bool.not_true, Bool.false_eq_true, if_false, if_neg state, cal]
  rw [State.modStream_congr]
  rfl

/-- Settles O35: the window command by command, then CAL_ACCEPT in the order of its checks. -/
theorem calibrationTaken : Obligations.CalibrationTaken := by
  refine ⟨⟨fun r s i h index => ⟨fun firing none => ?opens, fun refused => ?startState, fun state => ?stopState,
      fun c calib cal opened => ?latches, fun refused => ?discardState, fun c cal shut => ?discards⟩,
      fun s i c cal opened calib => execCalWindowTimeout_latches cal opened calib⟩,
    fun r s i h index => ⟨fun outside => ?range, fun low high => ⟨fun refused => ?acceptState,
      fun c state cal done pulses => ?accepts⟩⟩⟩
  case opens =>
    rw [execCalStart_sent h index, calStart_opens (by simpa using firing) (by simpa using none), openRequest_su]
    rfl
  case startState =>
    rw [execCalStart_sent h index, calStart, openRequest_stream, if_neg (by tauto), settleReply_refuse]
  case stopState =>
    rw [execCalStop_sent h index, calStop, openRequest_stream, if_neg state, settleReply_refuse]
  case latches =>
    rw [execCalStop_sent h index, calStop_latches (by simpa using calib) (by simpa using cal) opened,
      calStopBytes_latched, ← List.append_assoc, ← List.append_assoc]
    rfl
  case discardState =>
    rw [execCalDiscard_sent h index, calDiscard_refused (by simpa using refused), settleReply_refuse]
  case discards =>
    rw [execCalDiscard_sent h index, calDiscard_taken (by simpa using cal) shut, settleReply_done]
  case range => rw [execCalAccept_sent h index, calAccept_range _ _ outside, settleReply_refuse]
  case acceptState =>
    have refused : ((openRequest r s).stream i).state = .tripped ∨ ((openRequest r s).stream i).acceptable = none := by
      rw [openRequest_stream]
      exact refused.imp_right Stream.acceptable_none
    rw [execCalAccept_sent h index, calAccept_wrongState low high refused, settleReply_refuse]
  case accepts =>
    have acceptable : ((openRequest r s).stream i).acceptable = some c := by
      rw [openRequest_stream]
      simp only [Stream.acceptable, cal]
      exact if_pos ⟨done, pulses⟩
    refine ⟨_, _, _, _, rfl, rfl, rfl, rfl, ?_⟩
    rw [execCalAccept_sent h index, calAccept_taken low high (by simpa using state) acceptable, settleReply_take,
      openRequest_stream]
    simp only [acceptedWeight, calAcceptBytes, clampNat_eq_self_iff, computedWeight_eq, lowerWeight, upperWeight,
      roundHalfUp_percent]
    rfl

end Sys2Proof.Machine
end

section
/-! PROOFS. Field contacts: what a contact that goes abnormal and one that returns do by their role, the stop cause of the
cooler, and the samples of a scan one after the other (R53, R121, R124, R129 to R131). -/

namespace Sys2Proof.Machine

/-! ### A contact acted on by its role -/

theorem contactRaise_alarm {k : Fin 24} {c : Contact} (role : c.role = .alarm) :
    contactRaise k c = ⟨.contact k, c.priority, none⟩ := by
  simp [contactRaise, Contact.raisePriority, role]

theorem contactRaise_p1 {k : Fin 24} {c : Contact} (role : c.role = .streamInterlock ∨ c.role = .coolerStop) :
    contactRaise k c = ⟨.contact k, .p1, none⟩ := by
  obtain role | role := role <;> simp [contactRaise, Contact.raisePriority, role]

/-- Interlock reports to streams in OFF and TRIPPED do nothing (R53). -/
theorem reportInterlocks_of_parked {p : Fin 8 → Bool} {s : State} (h : ∀ i, p i = true → (s.stream i).Parked) :
    reportInterlocks p s = s := by
  refine List.foldl_fixed' (fun i => ?_) all8
  split
  case isTrue named => exact withdraw_of_parked .interlock (h i named)
  case isFalse => rfl

theorem goesAbnormal_none {k : Fin 24} {s : State} (role : (s.contact k).role = .none) : goesAbnormal k s = s := by
  simp only [goesAbnormal, role]

theorem goesAbnormal_alarm {k : Fin 24} {s : State} (role : (s.contact k).role = .alarm) :
    goesAbnormal k s =
      raiseAlarm ⟨.contact k, (s.contact k).priority, none⟩ (s.modContact k fun c => { c with cond := true }) := by
  simp only [goesAbnormal, role, raiseContact, contactRaise_alarm role]

theorem goesAbnormal_coolerStop {k : Fin 24} {s : State} (role : (s.contact k).role = .coolerStop) :
    goesAbnormal k s =
      stopReported k (raiseAlarm ⟨.contact k, .p1, none⟩ (s.modContact k fun c => { c with cond := true })) := by
  simp only [goesAbnormal, role, raiseContact, contactRaise_p1 (.inr role)]

theorem goesAbnormal_interlock {k : Fin 24} {s : State} (role : (s.contact k).role = .streamInterlock) :
    goesAbnormal k s =
      reportInterlocks (fun i => (s.contact k).mask.getLsbD i.val)
        (raiseAlarm ⟨.contact k, .p1, none⟩ (s.modContact k fun c => { c with cond := true })) := by
  simp only [goesAbnormal, role, raiseContact, contactRaise_p1 (.inl role)]

theorem goesAbnormal_interlock_stream {k : Fin 24} {s : State} (role : (s.contact k).role = .streamInterlock)
    (i : Fin 8) :
    (goesAbnormal k s).stream i =
      if (s.contact k).mask.getLsbD i.val then withdrawn .interlock (s.stream i) else s.stream i := by
  rw [goesAbnormal_interlock role, reportInterlocks_stream, raiseAlarm_stream, State.modContact_stream]

theorem returnsNormal_none {k : Fin 24} {s : State} (role : (s.contact k).role = .none) : returnsNormal k s = s := by
  simp only [returnsNormal, role]

theorem returnsNormal_cleared {k : Fin 24} {s : State}
    (role : (s.contact k).role = .alarm ∨ (s.contact k).role = .streamInterlock) :
    returnsNormal k s = clearAlarm (.contact k) (s.modContact k fun c => { c with cond := false }) := by
  obtain role | role := role <;> simp only [returnsNormal, role, clearContact]

theorem returnsNormal_coolerStop {k : Fin 24} {s : State} (role : (s.contact k).role = .coolerStop) :
    returnsNormal k s =
      stopReturned k (clearAlarm (.contact k) (s.modContact k fun c => { c with cond := false })) := by
  simp only [returnsNormal, role, clearContact]

/-! ### The stop cause -/

theorem mapSections_getElem (f : Fin 4 → Section → Section) (v : Vector Section 4) (n : Fin 4) :
    (mapSections f v)[n] = f n v[n] := by
  fin_cases n <;> rfl

/-- The sections when a contact joins the stop contacts set: at 0 where the stop cause comes to stand (R124). -/
def Cooler.sectionsStopped (c : Cooler) : Vector Section 4 :=
  if c.stopContacts = [] then mapSections (fun _ x => x.drive 0) c.sections else c.sections

/-- The sections when the stop contacts set comes to `left`: at their manual rates where that ends the stop cause in
MANUAL (R124). -/
def Cooler.sectionsReturned (left : List (Fin 24)) (c : Cooler) : Vector Section 4 :=
  if left = [] ∧ c.mode = .manual then mapSections (fun _ x => x.drive x.manual) c.sections else c.sections

theorem stopReported_present {k : Fin 24} {s : State} (h : k ∈ s.cooler.stopContacts) : stopReported k s = s := if_pos h

theorem stopReported_joins {k : Fin 24} {s : State} (h : k ∉ s.cooler.stopContacts) :
    stopReported k s =
      refreshHoldback { s with
        cooler :=
          { s.cooler with
            stopContacts := s.cooler.stopContacts ++ [k], sections := s.cooler.sectionsStopped } } := by
  rw [stopReported, if_neg h, Cooler.sectionsStopped]
  by_cases none : s.cooler.stopContacts = []
  · rw [if_neg (by simp [Cooler.stopCause, none]), if_pos none]
    rfl
  · rw [if_pos (by simp [Cooler.stopCause, none]), if_neg none]
    rfl

theorem stopReturned_absent {k : Fin 24} {s : State} (h : k ∉ s.cooler.stopContacts) : stopReturned k s = s := if_neg h

theorem stopReturned_leaves {k : Fin 24} {s : State} {left : List (Fin 24)} (h : k ∈ s.cooler.stopContacts)
    (hleft : left = s.cooler.stopContacts.filter fun j => j != k) :
    stopReturned k s =
      refreshHoldback { s with
        cooler := { s.cooler with stopContacts := left, sections := s.cooler.sectionsReturned left } } := by
  have dropped : s.cooler.dropStop k =
      { s.cooler with stopContacts := left, sections := s.cooler.sectionsReturned left } := by
    simp only [Cooler.dropStop, Cooler.sectionsReturned, ← hleft, List.isEmpty_iff]
    split
    case isTrue ends => rw [ends.1]; rfl
    case isFalse => rfl
  rw [stopReturned, if_pos h, State.modCooler, dropped]

/-- Settles O45: each role in turn, then the stop contacts set by its first and its last member. -/
theorem contactRolesAct : Obligations.ContactRolesAct := by
  refine ⟨fun k s u hu => ⟨goesAbnormal_none, hu ▸ goesAbnormal_alarm, hu ▸ goesAbnormal_coolerStop, fun role => ?interlock⟩,
    fun k s u hu => ⟨returnsNormal_none, hu ▸ returnsNormal_cleared, hu ▸ returnsNormal_coolerStop⟩,
    fun k s left hleft => ⟨stopReported_present, fun fresh => ?joins, stopReturned_absent, fun present => ?leaves⟩⟩
  case interlock =>
    have acts := goesAbnormal_interlock role
    have streams := goesAbnormal_interlock_stream role
    rw [← hu] at acts
    refine ⟨?_, ?_, fun parked => ?_, fun i => ⟨fun named burning => ?_, fun named ready => ?_, fun rest => ?_⟩⟩
    · rw [acts]
      exact reportInterlocks_inOrder _ _
    · rw [acts]
      exact (raiseAlarm_sameBlocks _ _).trans (reportInterlocks_sameBlocks _ _)
    · rw [acts]
      refine reportInterlocks_of_parked fun i named => ?_
      rw [raiseAlarm_stream, hu, State.modContact_stream]
      exact parked i named
    · rw [streams, if_pos named, withdrawn_burning _ burning]
    · rw [streams, if_pos named, withdrawn_ready _ ready]
    · rw [streams]
      obtain unnamed | parked := rest
      · rw [unnamed, if_neg Bool.false_ne_true]
      · rw [withdrawn_of_parked _ parked, ite_self]
  case joins =>
    have joined := stopReported_joins fresh
    refine ⟨?_, ?_, fun none n => ?_, fun some => ?_, s.cooler.sectionsStopped, joined,
      fun some => if_neg some, fun none n => ?_⟩
    · rw [joined, refreshHoldback_cooler]
    · rw [joined, refreshHoldback_cooler]
      simp [Cooler.anyCause, Cooler.stopCause]
    · simp only [joined, refreshHoldback_cooler, Cooler.sectionsStopped, if_pos none, mapSections_getElem]
      rfl
    · rw [joined, refreshHoldback_cooler]
      exact if_neg some
    · simp only [Cooler.sectionsStopped, if_pos none, mapSections_getElem]
      rfl
  case leaves =>
    have returned := stopReturned_leaves present hleft
    have stays (h : left ≠ [] ∨ s.cooler.mode = .auto) : s.cooler.sectionsReturned left = s.cooler.sections := by
      refine if_neg ?_
      rintro ⟨none, manual⟩
      obtain some | auto := h
      · exact some none
      · exact absurd (manual.symm.trans auto) (by decide)
    refine ⟨?_, ?_, fun none manual n => ?_, fun h => ?_, s.cooler.sectionsReturned left, returned, stays,
      fun none manual n => ?_⟩
    · rw [returned, refreshHoldback_cooler]
    · rw [returned, refreshHoldback_cooler]
      rfl
    · simp only [returned, refreshHoldback_cooler, Cooler.sectionsReturned, if_pos (And.intro none manual),
        mapSections_getElem]
      rfl
    · rw [returned, refreshHoldback_cooler]
      exact stays h
    · simp only [Cooler.sectionsReturned, if_pos (And.intro none manual), mapSections_getElem]
      rfl

/-! ### What a contact acted on leaves alone -/

/-- What a scan leaves to the other blocks, and the scan's own timer, count and levels. -/
structure ScanKept (s t : State) : Prop where
  scanTimer : t.scanTimer = s.scanTimer
  scanCount : t.scanCount = s.scanCount
  contactInputs : t.contactInputs = s.contactInputs
  dosingTimer : t.dosingTimer = s.dosingTimer
  slots : t.slots = s.slots
  sets : t.sets = s.sets

theorem ScanKept.refl (s : State) : ScanKept s s := ⟨rfl, rfl, rfl, rfl, rfl, rfl⟩

theorem ScanKept.trans {s t u : State} (h : ScanKept s t) (k : ScanKept t u) : ScanKept s u :=
  ⟨k.scanTimer.trans h.scanTimer, k.scanCount.trans h.scanCount, k.contactInputs.trans h.contactInputs,
    k.dosingTimer.trans h.dosingTimer, k.slots.trans h.slots, k.sets.trans h.sets⟩

theorem SameBlocks.scanKept {s t : State} (h : SameBlocks s t) : ScanKept s t :=
  ⟨h.scanTimer, h.scanCount, h.contactInputs, h.dosingTimer, h.slots, h.sets⟩

theorem modContact_scanKept (k : Fin 24) (f : Contact → Contact) (s : State) : ScanKept s (s.modContact k f) :=
  ⟨rfl, rfl, rfl, rfl, rfl, rfl⟩

/-- A change of the stop contacts set and the sections, with holdback brought up to date, reaches no contact and nothing
that a scan keeps (R124, R125). -/
theorem refreshHoldback_scanKept (s : State) (c : Cooler) :
    ScanKept s (refreshHoldback { s with cooler := c }) ∧
      (refreshHoldback { s with cooler := c }).contacts = s.contacts := by
  rw [refreshHoldback_frame]
  exact ⟨⟨rfl, rfl, rfl, rfl, rfl, rfl⟩, rfl⟩

theorem stopReported_scanKept (k : Fin 24) (s : State) :
    ScanKept s (stopReported k s) ∧ (stopReported k s).contacts = s.contacts := by
  by_cases present : k ∈ s.cooler.stopContacts
  · rw [stopReported_present present]
    exact ⟨.refl s, rfl⟩
  · rw [stopReported_joins present]
    exact refreshHoldback_scanKept s _

theorem stopReturned_scanKept (k : Fin 24) (s : State) :
    ScanKept s (stopReturned k s) ∧ (stopReturned k s).contacts = s.contacts := by
  by_cases present : k ∈ s.cooler.stopContacts
  · rw [stopReturned_leaves present rfl]
    exact refreshHoldback_scanKept s _
  · rw [stopReturned_absent present]
    exact ⟨.refl s, rfl⟩

/-- A contact whose CONTACT condition follows its reading, where it has a role (R131). -/
def Contact.withCond (b : Bool) (c : Contact) : Contact := { c with cond := if c.role = .none then c.cond else b }

theorem State.modContact_congr {k : Fin 24} {f g : Contact → Contact} {s : State}
    (h : f (s.contact k) = g (s.contact k)) : s.modContact k f = s.modContact k g := by
  simp only [State.contact] at h
  simp only [State.modContact, h]

/-- A contact written over itself is as it was. -/
theorem State.modContact_self {k : Fin 24} {f : Contact → Contact} {s : State} (h : f (s.contact k) = s.contact k) :
    (s.modContact k f).contacts = s.contacts := by
  have same : f s.contacts[k.val] = s.contacts[k.val] := h
  simp only [State.modContact, Fin.getElem_fin, same, Vector.set_getElem_self]

theorem withCond_none (b : Bool) {k : Fin 24} {s : State} (role : (s.contact k).role = .none) :
    (s.modContact k (Contact.withCond b)).contacts = s.contacts :=
  State.modContact_self (by rw [Contact.withCond, if_pos role])

theorem withCond_role (b : Bool) {k : Fin 24} {s : State} (role : (s.contact k).role ≠ .none) :
    s.modContact k (Contact.withCond b) = s.modContact k fun c => { c with cond := b } :=
  State.modContact_congr (by simp [Contact.withCond, role])

/-- Of the contacts, one that goes abnormal has its own condition set alone (R131). -/
theorem goesAbnormal_scanKept (k : Fin 24) (s : State) :
    ScanKept s (goesAbnormal k s) ∧
      (goesAbnormal k s).contacts = (s.modContact k (Contact.withCond true)).contacts := by
  have raised (r : Raise) : ScanKept s (raiseAlarm r (s.modContact k fun c => { c with cond := true })) :=
    (modContact_scanKept k _ s).trans (raiseAlarm_sameBlocks _ _).scanKept
  cases role : (s.contact k).role with
  | none => rw [goesAbnormal_none role, withCond_none true role]; exact ⟨.refl s, rfl⟩
  | alarm => rw [goesAbnormal_alarm role, withCond_role true (by simp [role])]; exact ⟨raised _, rfl⟩
  | streamInterlock =>
    have reported (t : State) := reportInterlocks_sameBlocks (fun i => (s.contact k).mask.getLsbD i.val) t
    rw [goesAbnormal_interlock role, withCond_role true (by simp [role])]
    exact ⟨(raised _).trans (reported _).scanKept, (reported _).contacts⟩
  | coolerStop =>
    rw [goesAbnormal_coolerStop role, withCond_role true (by simp [role])]
    exact ⟨(raised _).trans (stopReported_scanKept k _).1, (stopReported_scanKept k _).2⟩

/-- Of the contacts, one that returns has its own condition cleared alone (R131). -/
theorem returnsNormal_scanKept (k : Fin 24) (s : State) :
    ScanKept s (returnsNormal k s) ∧
      (returnsNormal k s).contacts = (s.modContact k (Contact.withCond false)).contacts := by
  have cleared : ScanKept s (clearAlarm (.contact k) (s.modContact k fun c => { c with cond := false })) :=
    (modContact_scanKept k _ s).trans (clearAlarm_sameBlocks _ _).scanKept
  cases role : (s.contact k).role with
  | none => rw [returnsNormal_none role, withCond_none false role]; exact ⟨.refl s, rfl⟩
  | alarm => rw [returnsNormal_cleared (.inl role), withCond_role false (by simp [role])]; exact ⟨cleared, rfl⟩
  | streamInterlock =>
    rw [returnsNormal_cleared (.inr role), withCond_role false (by simp [role])]
    exact ⟨cleared, rfl⟩
  | coolerStop =>
    rw [returnsNormal_coolerStop role, withCond_role false (by simp [role])]
    exact ⟨cleared.trans (stopReturned_scanKept k _).1, (stopReturned_scanKept k _).2⟩

/-! ### One sample -/

/-- A contact that has taken a level as its accepted state. -/
def Contact.accept (level : Level) (c : Contact) : Contact := { c with accepted := level, count := 0 }

theorem sampleContact_agrees {k : Fin 24} {level : Level} {s : State} (same : level = (s.contact k).accepted) :
    sampleContact k level s = s.modContact k (Contact.accept level) := by
  have sampled : (s.contact k).sampled level = (s.contact k).accept level := by
    rw [Contact.sampled, if_pos same, Contact.accept, same]
  rw [sampleContact, sampled, if_neg fun h => h.1 same]
  exact State.modContact_congr sampled

theorem sampleContact_counts {k : Fin 24} {level : Level} {s : State} (differs : level ≠ (s.contact k).accepted)
    (few : (s.contact k).count + 1 < (s.contact k).debounce) :
    sampleContact k level s = s.modContact k fun c => { c with count := c.count + 1 } := by
  have sampled : (s.contact k).sampled level = { s.contact k with count := (s.contact k).count + 1 } := by
    rw [Contact.sampled, if_neg differs, if_neg (by omega)]
  rw [sampleContact, sampled, if_neg fun h => h.1 rfl]
  exact State.modContact_congr sampled

theorem Contact.sampled_accepted {level : Level} {c : Contact} (differs : level ≠ c.accepted)
    (enough : c.debounce ≤ c.count + 1) : c.sampled level = c.accept level := by
  rw [Contact.sampled, if_neg differs, if_pos enough, Contact.accept]

theorem sampleContact_forced {k : Fin 24} {level : Level} {s : State} (differs : level ≠ (s.contact k).accepted)
    (enough : (s.contact k).debounce ≤ (s.contact k).count + 1) (forced : (s.contact k).forced = true) :
    sampleContact k level s = s.modContact k (Contact.accept level) := by
  rw [sampleContact, if_neg fun h => by simp [forced] at h]
  exact State.modContact_congr (Contact.sampled_accepted differs enough)

/-- An accepted change of a contact that is not forced is acted on by the level accepted (R130). -/
theorem sampleContact_acts {k : Fin 24} {level : Level} {s : State} (differs : level ≠ (s.contact k).accepted)
    (enough : (s.contact k).debounce ≤ (s.contact k).count + 1) (free : (s.contact k).forced = false) :
    sampleContact k level s =
      if level = (s.contact k).normal then returnsNormal k (s.modContact k (Contact.accept level))
      else goesAbnormal k (s.modContact k (Contact.accept level)) := by
  have sampled := Contact.sampled_accepted differs enough
  have abnormal : ((s.contact k).accept level).abnormal = true ↔ level ≠ (s.contact k).normal := by
    simp [Contact.abnormal, Contact.reading, Contact.accept, free]
  rw [sampleContact, sampled, if_pos ⟨differs, free⟩, State.modContact_congr sampled, actOnReading,
    State.modContact_contact_self]
  by_cases normal : level = (s.contact k).normal
  · rw [if_neg (by rw [abnormal]; exact not_not.mpr normal), if_pos normal]
  · rw [if_pos (abnormal.mpr normal), if_neg normal]

theorem sampleContact_abnormal {k : Fin 24} {level : Level} {s : State} (differs : level ≠ (s.contact k).accepted)
    (enough : (s.contact k).debounce ≤ (s.contact k).count + 1) (free : (s.contact k).forced = false)
    (abnormal : level ≠ (s.contact k).normal) :
    sampleContact k level s = goesAbnormal k (s.modContact k (Contact.accept level)) := by
  rw [sampleContact_acts differs enough free, if_neg abnormal]

theorem sampleContact_normal {k : Fin 24} {level : Level} {s : State} (differs : level ≠ (s.contact k).accepted)
    (enough : (s.contact k).debounce ≤ (s.contact k).count + 1) (free : (s.contact k).forced = false)
    (normal : level = (s.contact k).normal) :
    sampleContact k level s = returnsNormal k (s.modContact k (Contact.accept level)) := by
  rw [sampleContact_acts differs enough free, if_pos normal]

/-- The condition of a contact after an accepted change (R131). -/
theorem sampleContact_cond {k : Fin 24} {level : Level} {s : State} (differs : level ≠ (s.contact k).accepted)
    (enough : (s.contact k).debounce ≤ (s.contact k).count + 1) :
    (sampleContact k level s).contact k =
      { s.contact k with
        accepted := level
        count := 0
        cond :=
          if (s.contact k).role = .none ∨ (s.contact k).forced = true then (s.contact k).cond
          else decide (level ≠ (s.contact k).normal) } := by
  have read {t u : State} (h : t.contacts = u.contacts) : t.contact k = u.contact k := by
    rw [State.contact, h]
    rfl
  cases forced : (s.contact k).forced with
  | true =>
    rw [sampleContact_forced differs enough forced, State.modContact_contact_self, if_pos (.inr rfl)]
    rfl
  | false =>
    by_cases normal : level = (s.contact k).normal
    · rw [sampleContact_normal differs enough forced normal, read (returnsNormal_scanKept k _).2,
        State.modContact_contact_self, State.modContact_contact_self]
      simp [Contact.withCond, Contact.accept, normal]
    · rw [sampleContact_abnormal differs enough forced normal, read (goesAbnormal_scanKept k _).2,
        State.modContact_contact_self, State.modContact_contact_self]
      by_cases role : (s.contact k).role = .none <;> simp [Contact.withCond, Contact.accept, normal, role]

theorem sampleContact_scanKept (k : Fin 24) (level : Level) (s : State) : ScanKept s (sampleContact k level s) := by
  unfold sampleContact actOnReading
  split
  · split
    · exact (modContact_scanKept k _ s).trans (goesAbnormal_scanKept k _).1
    · exact (modContact_scanKept k _ s).trans (returnsNormal_scanKept k _).1
  · exact modContact_scanKept k _ s

theorem sampleContact_other {k j : Fin 24} (level : Level) (s : State) (h : j ≠ k) :
    (sampleContact k level s).contact j = s.contact j := by
  have read {t u : State} (h : t.contacts = u.contacts) : t.contact j = u.contact j := by
    rw [State.contact, h]
    rfl
  unfold sampleContact actOnReading
  split
  · split
    · rw [read (goesAbnormal_scanKept k _).2, State.modContact_contact_other _ _ _ _ h,
        State.modContact_contact_other _ _ _ _ h]
    · rw [read (returnsNormal_scanKept k _).2, State.modContact_contact_other _ _ _ _ h,
        State.modContact_contact_other _ _ _ _ h]
  · exact State.modContact_contact_other _ _ _ _ h

/-! ### The samples of a scan -/

/-- A contact reached by a scan: sampled with slow scan off, and at a scan count of 0 (R129). -/
def scanContact (levels : BitVec 24) (s : State) (k : Fin 24) : State :=
  if (s.contact k).slow = false ∨ s.scanCount = 0 then sampleContact k (levelAt levels k) s else s

theorem scanContact_scanKept (levels : BitVec 24) (s : State) (k : Fin 24) : ScanKept s (scanContact levels s k) := by
  unfold scanContact
  split
  · exact sampleContact_scanKept k _ s
  · exact .refl s

theorem scanContact_other (levels : BitVec 24) (s : State) {k j : Fin 24} (h : j ≠ k) :
    (scanContact levels s k).contact j = s.contact j := by
  unfold scanContact
  split
  · exact sampleContact_other _ s h
  · rfl

theorem foldl_scanContact (levels : BitVec 24) (l : List (Fin 24)) (s : State) :
    ScanKept s (l.foldl (scanContact levels) s) ∧
      ∀ j ∉ l, (l.foldl (scanContact levels) s).contact j = s.contact j := by
  induction l generalizing s with
  | nil => exact ⟨.refl s, fun j _ => rfl⟩
  | cons k l ih =>
    obtain ⟨kept, others⟩ := ih (scanContact levels s k)
    refine ⟨(scanContact_scanKept levels s k).trans kept, fun j fresh => ?_⟩
    obtain ⟨other, fresh⟩ := not_or.mp (List.mem_cons.not.mp fresh)
    exact (others j fresh).trans (scanContact_other levels s other)

/-- The state of a scan once the first `n` contacts are through. -/
def scanned (levels : BitVec 24) (s : State) (n : Nat) : State := (all24.take n).foldl (scanContact levels) s

theorem scanned_succ (levels : BitVec 24) (s : State) (k : Fin 24) :
    scanned levels s (k.val + 1) = scanContact levels (scanned levels s k.val) k := by
  have next : all24.take (k.val + 1) = all24.take k.val ++ [k] := by revert k; decide
  rw [scanned, next, List.foldl_append]
  rfl

theorem scanned_scanKept (levels : BitVec 24) (s : State) (n : Nat) : ScanKept s (scanned levels s n) :=
  (foldl_scanContact levels _ s).1

/-- A contact is as it was until its own turn. -/
theorem scanned_before (levels : BitVec 24) (s : State) (k : Fin 24) :
    (scanned levels s k.val).contact k = s.contact k :=
  (foldl_scanContact levels _ s).2 k (by revert k; decide)

/-- After its own turn a contact stays as it is. -/
theorem scanContacts_contact (levels : BitVec 24) (s : State) (k : Fin 24) :
    (scanContacts levels s).contact k = (scanContact levels (scanned levels s k.val) k).contact k := by
  have past : k ∉ all24.drop (k.val + 1) := by revert k; decide
  have whole : scanContacts levels s =
      (all24.drop (k.val + 1)).foldl (scanContact levels) (scanned levels s (k.val + 1)) := by
    rw [scanned, ← List.foldl_append, List.take_append_drop]
    rfl
  rw [whole, (foldl_scanContact levels _ _).2 k past, scanned_succ]

theorem scanContact_slow {levels : BitVec 24} {s : State} {k : Fin 24} (slow : (s.contact k).slow = true)
    (count : s.scanCount ≠ 0) : scanContact levels s k = s :=
  if_neg (by simp [slow, count])

theorem scanContact_sampled {levels : BitVec 24} {s : State} {k : Fin 24}
    (h : (s.contact k).slow = false ∨ s.scanCount = 0) :
    scanContact levels s k = sampleContact k (levelAt levels k) s := if_pos h

/-- A sampled contact by its debounce, as an update of the state it is sampled in (R130, R131). -/
theorem scanContact_acts {levels : BitVec 24} {w v : State} {k : Fin 24} {level : Level} {c : Contact}
    (hlevel : level = levelAt levels k) (hc : c = w.contact k)
    (hv : v = w.modContact k fun _ => { c with accepted := level, count := 0 })
    (due : (w.contact k).slow = false ∨ w.scanCount = 0) :
    (level = c.accepted → scanContact levels w k = v) ∧
    (level ≠ c.accepted → c.count + 1 < c.debounce →
      scanContact levels w k = w.modContact k fun _ => { c with count := c.count + 1 }) ∧
    (level ≠ c.accepted → c.debounce ≤ c.count + 1 →
      (c.forced = true → scanContact levels w k = v) ∧
      (c.forced = false → level ≠ c.normal → scanContact levels w k = goesAbnormal k v) ∧
      (c.forced = false → level = c.normal → scanContact levels w k = returnsNormal k v)) := by
  subst hc
  have accepts : w.modContact k (Contact.accept level) = v := hv ▸ State.modContact_congr rfl
  rw [scanContact_sampled due, ← hlevel, ← accepts]
  exact ⟨sampleContact_agrees, fun differs few => (sampleContact_counts differs few).trans (State.modContact_congr rfl),
    fun differs enough => ⟨sampleContact_forced differs enough, sampleContact_abnormal differs enough,
      sampleContact_normal differs enough⟩⟩

/-- Settles O44: each contact at its own turn, from the state that the contacts before it left. -/
theorem contactScanDebounces : Obligations.ContactScanDebounces := by
  intro levels s
  generalize hstart : { s with scanTimer := 20, scanCount := (s.scanCount + 1) % 4, contactInputs := levels } = start
  have taken : exec (.contactScan levels) s = .next (scanContacts levels start) := hstart ▸ rfl
  have kept : ScanKept start (scanContacts levels start) := (foldl_scanContact levels all24 start).1
  have turn (k : Fin 24) : (scanned levels start k.val).contact k = s.contact k := by
    rw [scanned_before, ← hstart]
    rfl
  have turnCount (k : Fin 24) : (scanned levels start k.val).scanCount = (s.scanCount + 1) % 4 := by
    rw [(scanned_scanKept levels start k.val).scanCount, ← hstart]
  have skipped (k : Fin 24) (slow : (s.contact k).slow = true) (off : (s.scanCount + 1) % 4 ≠ 0) :
      scanContact levels (scanned levels start k.val) k = scanned levels start k.val :=
    scanContact_slow (by rw [turn]; exact slow) (by rw [turnCount]; exact off)
  have reached (k : Fin 24) (due : (s.contact k).slow = false ∨ (s.scanCount + 1) % 4 = 0) :
      ((scanned levels start k.val).contact k).slow = false ∨ (scanned levels start k.val).scanCount = 0 := by
    rw [turn, turnCount]
    exact due
  refine ⟨_, taken, ?timer, ?count, ?inputs, ?dosing, ?slots, ?sets, fun k level hlevel => ⟨fun slow off => ?untouched,
    fun due => ⟨fun agrees => ?agrees, fun differs few => ?counts, fun differs enough => ?accepts⟩⟩,
    scanned levels start, rfl, rfl, fun k level c v hlevel hc hv => ⟨fun slow off => ?slow, fun due => ?acts⟩⟩
  case timer => rw [kept.scanTimer, ← hstart]
  case count => rw [kept.scanCount, ← hstart]
  case inputs => rw [kept.contactInputs, ← hstart]
  case dosing => rw [kept.dosingTimer, ← hstart]
  case slots => rw [kept.slots, ← hstart]
  case sets => rw [kept.sets, ← hstart]
  case untouched => rw [scanContacts_contact, skipped k slow off, turn]
  case slow =>
    subst hc
    rw [scanned_succ, skipped k slow off]
  case acts =>
    subst hc
    rw [scanned_succ]
    exact scanContact_acts hlevel (turn k).symm hv (reached k due)
  all_goals
    replace hlevel : levelAt levels k = level := hlevel.symm
    rw [scanContacts_contact, scanContact_sampled (reached k due), hlevel]
  case agrees =>
    rw [← turn k] at agrees ⊢
    rw [sampleContact_agrees agrees, State.modContact_contact_self, Contact.accept, agrees]
  case counts =>
    rw [← turn k] at differs few ⊢
    rw [sampleContact_counts differs few, State.modContact_contact_self]
  case accepts =>
    rw [← turn k] at differs enough ⊢
    rw [sampleContact_cond differs enough]

end Sys2Proof.Machine
end

section
/-! PROOFS. The site record: what an offer, a demand and a recomputation make of it (R63, R64), and SET_DEMAND. -/

namespace Sys2Proof.Machine

/-! ### The largest cut -/

/-- An offer place counts with its percentage, an absent one with 0 (R64). -/
theorem eq_zero_or_present (o : Option Nat) : o.getD 0 = 0 ∨ o = some (o.getD 0) := by
  cases o with
  | none => exact .inl rfl
  | some v => exact .inr rfl

theorem SiteRec.setOffer_le_largestOffer {y : SiteRec} {k : Fin 4} {v : Nat} (h : y.setOffers[k] = some v) :
    v ≤ y.largestOffer := by
  have present : v = y.setOffers[k].getD 0 := by rw [h, Option.getD_some]
  rw [present, SiteRec.largestOffer]
  fin_cases k <;> simp

theorem SiteRec.holdbackOffer_le_largestOffer {y : SiteRec} {v : Nat} (h : y.holdbackOffer = some v) :
    v ≤ y.largestOffer := by
  simp [SiteRec.largestOffer, h]

/-- A largest offer above 0 is one of the five that are present (R64). -/
theorem SiteRec.largestOffer_attained (y : SiteRec) :
    y.largestOffer = 0 ∨ (∃ k : Fin 4, y.setOffers[k] = some y.largestOffer) ∨
      y.holdbackOffer = some y.largestOffer := by
  have set (k : Fin 4) (largest : y.largestOffer = y.setOffers[k].getD 0) :
      y.largestOffer = 0 ∨ (∃ k : Fin 4, y.setOffers[k] = some y.largestOffer) ∨
        y.holdbackOffer = some y.largestOffer := by
    rw [largest]
    exact (eq_zero_or_present _).imp_right fun present => .inl ⟨k, present⟩
  obtain largest | rest := max_choice (y.setOffers[0].getD 0) _
  · exact set 0 largest
  obtain largest | rest' := max_choice (y.setOffers[1].getD 0) _
  · exact set 1 (rest.trans largest)
  obtain largest | rest'' := max_choice (y.setOffers[2].getD 0) _
  · exact set 2 (rest.trans (rest'.trans largest))
  obtain largest | holdback := max_choice (y.setOffers[3].getD 0) (y.holdbackOffer.getD 0)
  · exact set 3 (rest.trans (rest'.trans (rest''.trans largest)))
  · have largest : y.largestOffer = y.holdbackOffer.getD 0 := rest.trans (rest'.trans (rest''.trans holdback))
    rw [largest]
    exact (eq_zero_or_present _).imp_right .inr

theorem SiteRec.recompute_eq (y : SiteRec) :
    y.recompute =
      { y with
        largest := y.largestOffer
        effective := y.demand * (100 - y.largestOffer) / 100
        capActive := decide (y.largestOffer ≠ 0) } := by
  simp only [SiteRec.recompute, Nat.pos_iff_ne_zero]

/-! ### SET_DEMAND -/

theorem siteOf_none {v : Nat} (h : 1 < v) : siteOf v = none := by
  rw [Option.eq_none_iff_forall_ne_some]
  intro x coded
  rw [siteOf_eq_some] at coded
  cases x <;> simp [siteByte] at coded <;> omega

theorem execSetDemand_sent {r : Request} {s : State} (h : Sent [.proc] 5 r s) :
    exec (.setDemand r) s =
      .next (settleReply .proc 0x20#8 (openRequest r s) (setDemand r.body (openRequest r s))) := by
  have taken : exec (.setDemand r) s = _ := takeRequest_of_sent (row := Cmd.setDemand) h (by decide) (by decide)
  rw [taken, List.mem_singleton.mp h.link]
  rfl

theorem setDemand_of {b : List Byte} {x : Site} (s : State) (h : u8 b 0 = siteByte x) :
    setDemand b s =
      .take (s.modSite x fun y => SiteRec.recompute { y with demand := min (u32 b 1) 200000 })
        (if u32 b 1 ≤ 200000 then .ok else .okClamped)
        (be8 (siteByte x) ++ be24 (min (u32 b 1) 200000) ++
          be24 (min (u32 b 1) 200000 * (100 - (s.siteRec x).recompute.largest) / 100)) := by
  have result : (if 200000 < u32 b 1 then ResultCode.okClamped else .ok) =
      if u32 b 1 ≤ 200000 then .ok else .okClamped := by simp only [← not_le, ite_not]
  simp only [setDemand, siteOf_eq_some.mpr h, result]
  rfl

theorem setDemand_range {b : List Byte} (s : State) (h : 1 < u8 b 0) : setDemand b s = .refuse .range := by
  simp only [setDemand, siteOf_none h]

/-- Settles O28: the largest cut as the maximum of the offers, then SET_DEMAND by its site. -/
theorem demandAndCutGiveEffective : Obligations.DemandAndCutGiveEffective := by
  refine ⟨fun y => ⟨y.recompute_eq, fun k v => SiteRec.setOffer_le_largestOffer,
    fun v => SiteRec.holdbackOffer_le_largestOffer, y.largestOffer_attained⟩,
    fun r s h => ⟨fun x site => ?taken, fun foreign => ?range⟩⟩
  case taken => rw [execSetDemand_sent h, setDemand_of _ site, settleReply_take, openRequest_siteRec]
  case range => rw [execSetDemand_sent h, setDemand_range _ foreign, settleReply_refuse]

end Sys2Proof.Machine
end

section
/-! PROOFS. The blocks of the field side, which are the slots, the cutback sets, the cooler, the contacts and the sites:
every command leaves them all alone but those that `reachesField` names. -/

namespace Sys2Proof.Machine

/-- The blocks of the field side. -/
def State.field (s : State) :
    Vector Slot 8 × Vector CutSet 4 × Cooler × Vector Contact 24 × SiteRec × SiteRec :=
  (s.slots, s.sets, s.cooler, s.contacts, s.mainSite, s.calcSite)

/-- The commands and events that may change a block of the field side. -/
def reachesField : Instr → Bool
  | .setDemand _ | .putMeas _ | .setMeasConfig _ | .setCutback _ | .setCooler _ | .coolerModeManual _
  | .coolerModeAuto _ | .setContact _ | .forceContact _ | .unforce _ | .fullReset _ _ _ | .powerOnReset _ _ _
  | .strokePulse _ | .dosingPeriodExpiry | .staleTimerExpiry _ | .delayTimerExpiry _ | .coolerPeriod
  | .stallTimerExpiry _ | .contactScan _ => true
  | _ => false

theorem SameBlocks.field {s t : State} (h : SameBlocks s t) : t.field = s.field := by
  rw [State.field, h.slots, h.sets, h.cooler, h.contacts, h.mainSite, h.calcSite]
  rfl

theorem openRequest_field (r : Request) (s : State) : (openRequest r s).field = s.field := by
  simp [State.field]

/-! ### Requests -/

/-- What a block makes of a command leaves the field side alone, or refuses the command. -/
inductive Reply.KeepsField (s : State) : Reply → Prop
  | refuse {c : ResultCode} : Reply.KeepsField s (.refuse c)
  | take {t : State} {c : ResultCode} {b : List Byte} (same : t.field = s.field) :
      Reply.KeepsField s (.take t c b)

theorem takeRequest_field {row : CommandRow} {r : Request} {act : State → Reply} {s t : State}
    (h : takeRequest row r act s = .next t) (keeps : ∀ s, (act s).KeepsField s) : t.field = s.field := by
  obtain ⟨-, rfl | ⟨-, ⟨-, rfl⟩ | ⟨-, -, rfl⟩ | ⟨-, -, rfl⟩⟩⟩ := takeRequest_next h
  · rfl
  · exact openRequest_field r s
  · exact openRequest_field r s
  · cases reply : act (openRequest r s) with
    | refuse c => exact openRequest_field r s
    | take u c b =>
      have taken := keeps (openRequest r s)
      rw [reply] at taken
      cases taken with
      | take same => exact Eq.trans same (openRequest_field r s)

theorem onStream_field {act : Fin 8 → State → Reply} (h : ∀ i s, (act i s).KeepsField s) (b : List Byte)
    (s : State) : (onStream b act s).KeepsField s := by
  unfold onStream
  split
  · exact h _ s
  · exact .refuse

theorem onContact_field {act : Fin 24 → State → Reply} (h : ∀ k s, (act k s).KeepsField s) (b : List Byte)
    (s : State) : (onContact b act s).KeepsField s := by
  unfold onContact
  split
  · exact h _ s
  · exact .refuse

theorem onCode_field {act : AlarmCode → State → Reply} (h : ∀ c s, (act c s).KeepsField s) (b : List Byte)
    (s : State) : (onCode b act s).KeepsField s := by
  unfold onCode
  split
  · exact h _ s
  · exact .refuse

theorem onEntry_field {c : AlarmCode} {s : State} {act : Entry → Reply} (h : ∀ e, (act e).KeepsField s) :
    (onEntry c s act).KeepsField s := by
  unfold onEntry
  split
  · exact h _
  · exact .refuse

theorem takeRequest_onStream_field {row : CommandRow} {r : Request} {act : Fin 8 → State → Reply} {s t : State}
    (h : takeRequest row r (onStream r.body act) s = .next t) (keeps : ∀ i s, (act i s).KeepsField s) :
    t.field = s.field :=
  takeRequest_field h (onStream_field keeps _)

theorem trip_field (i : Fin 8) (c : TripCause) (s : State) : (trip i c s).field = s.field :=
  (trip_sameBlocks i c s).field

theorem flame_field (b : List Byte) (s : State) : (flame b s).KeepsField s := by
  refine onStream_field (fun i s => ?_) b s
  dsimp only [flameProven, flameLost, fired, Reply.done]
  repeat' split
  all_goals constructor
  · rfl
  · exact trip_field i _ s
  · rfl

theorem shelve_field (minutes : Nat) (c : AlarmCode) (s : State) : (shelve minutes c s).KeepsField s := by
  unfold shelve
  split
  · exact .refuse
  · refine onEntry_field fun e => ?_
    split
    · exact .refuse
    · exact .take rfl

/-! ### Events -/

theorem execFrameErr_field {l : Link} {bytes : List Byte} {s t : State} (h : execFrameErr l bytes s = .next t) :
    t.field = s.field := by
  unfold execFrameErr at h
  repeat' split at h
  all_goals cases h
  all_goals rfl

theorem execUnknownCmd_field {code : Byte} {r : Request} {s t : State} (h : execUnknownCmd code r s = .next t) :
    t.field = s.field := by
  unfold execUnknownCmd at h
  repeat' split at h
  all_goals cases h
  · rfl
  · exact openRequest_field r s

theorem execNoFlowReport_field {i : Fin 8} {s t : State} (h : execNoFlowReport i s = .next t) :
    t.field = s.field := by
  unfold execNoFlowReport at h
  split at h <;> cases h
  · exact trip_field i _ _
  · rfl

theorem execLightingTimerExpiry_field {i : Fin 8} {s t : State} (h : execLightingTimerExpiry i s = .next t) :
    t.field = s.field := by
  unfold execLightingTimerExpiry at h
  split at h <;> cases h
  · exact trip_field i _ s
  · rfl

theorem unhealthy_field (s : State) : ({ s with safeHealthy := false } : State).field = s.field := rfl

theorem execSafeLinkTimerExpiry_field {s t : State} (h : execSafeLinkTimerExpiry s = .next t) : t.field = s.field := by
  unfold execSafeLinkTimerExpiry at h
  split at h
  · have stopped : ({ s with safeTimer := none } : State).field = s.field := rfl
    have tripped := (raiseAlarm_sameBlocks safeLinkRaise _).field.trans <|
      (withdrawAll_sameBlocks .linkLoss { s with safeTimer := none }).field.trans stopped
    exact Host.Outcome.next.inj h ▸ (unhealthy_field _).trans tripped
  · exact Host.Outcome.next.inj h ▸ rfl

/-! ### Every command -/

/-- What a command that does not reach the field side leaves of it. -/
theorem exec_field {c : Instr} {s t : State} (h : exec c s = .next t) (hc : reachesField c = false) :
    t.field = s.field := by
  cases c with
  | setDemand | putMeas | setMeasConfig | setCutback | setCooler | coolerModeManual | coolerModeAuto | setContact
  | forceContact | unforce | fullReset | powerOnReset | strokePulse | dosingPeriodExpiry | staleTimerExpiry
  | delayTimerExpiry | coolerPeriod | stallTimerExpiry | contactScan => cases hc
  | nop | status | poll | readFirstout | attnMask | attnClear | linkReset | setCheck | ackAll | silence
  | firstoutClear => exact takeRequest_field h fun s => .take rfl
  | readStream | readCal => exact takeRequest_onStream_field h fun _ s => .take rfl
  | readContacts => exact takeRequest_field h (onContact_field (fun _ s => .take rfl) _)
  | readSite | readShift | readMeas | readCooler | listRead | setPeriod | setLinkTimeout | firstoutMode | setClock
  | setShifts | closeShift =>
    refine takeRequest_field h fun s => ?_
    dsimp only [readSite, readShift, readMeas, readCooler, listRead, setPeriod, setLinkTimeout, firstoutMode, setClock,
      setShifts, closeShift, Reply.done]
    repeat' split
    all_goals constructor
    all_goals rfl
  | setLimits | setPlan | setPoll | grant | light | hold | resume | stop | release | calStart | calStop | calAccept
  | calDiscard =>
    refine takeRequest_onStream_field h fun i s => ?_
    dsimp only [setLimits, setPlan, setPoll, grant, light, hold, resume, stop, release, calStart, calStop, calAccept,
      calDiscard, fired, Reply.done]
    repeat' split
    all_goals constructor
    all_goals rfl
  | revoke => exact takeRequest_onStream_field h fun i s => .take (withdraw_sameBlocks .revoke i s).field
  | flameProven | flameLost => exact takeRequest_field h (flame_field _)
  | masterTrip => exact takeRequest_field h fun s => .take (withdrawAll_sameBlocks .master s).field
  | ack | unshelve =>
    refine takeRequest_field h (onCode_field (fun c s => onEntry_field fun e => ?_) _)
    split
    all_goals constructor
    all_goals rfl
  | shelve => exact takeRequest_field h (onCode_field (shelve_field _) _)
  | frameErr => exact execFrameErr_field h
  | unknownCmd => exact execUnknownCmd_field h
  | noFlowReport => exact execNoFlowReport_field h
  | lightingTimerExpiry => exact execLightingTimerExpiry_field h
  | safeLinkTimerExpiry => exact execSafeLinkTimerExpiry_field h
  | massPulse => cases h; rfl
  | abandonedTransfer | calWindowTimeout | shelfExpiry | hornBIntervalExpiry | clockAdvance =>
    dsimp only [exec, execAbandonedTransfer, execCalWindowTimeout, execShelfExpiry, execHornBIntervalExpiry,
      execClockAdvance] at h
    repeat' split at h
    all_goals cases h
    all_goals rfl

end Sys2Proof.Machine
end

section
/-! PROOFS. What every command does to the slots, the cutback sets, holdback and the offers at the sites: each operation
that reaches them keeps them sound, and so does every step (O58; R64, R98 to R100, R104 to R109, R125). -/

namespace Sys2Proof.Machine

/-! ### Site records -/

theorem SiteRec.takeOffer_set (k j : Fin 4) (v : Option Nat) (y : SiteRec) :
    (y.takeOffer (.set k) v).setOffers[j] = if j = k then v else y.setOffers[j] := by
  simp only [SiteRec.takeOffer, SiteRec.putOffer, SiteRec.recompute, Fin.getElem_fin, Vector.getElem_set,
    ← Fin.ext_iff, eq_comm (a := k)]

/-- A record that has taken an offer is up to date (R64). -/
theorem SiteRec.takeOffer_recompute (p : Place) (v : Option Nat) (y : SiteRec) :
    (y.takeOffer p v).recompute = y.takeOffer p v := rfl

theorem SiteRec.takeOffer_demand (p : Place) (v : Option Nat) (y : SiteRec) :
    (y.takeOffer p v).demand = y.demand := by cases p <;> rfl

/-- The results of a computation reach none of the fields that offers and demand decide (R61, R68, R72). -/
theorem SiteRec.dosed_recompute {y : SiteRec} (firing : Bool) (record : CompRecord) (unplaced : Int)
    (h : y.recompute = y) : (y.dosed firing record unplaced).recompute = y.dosed firing record unplaced :=
  congrArg (SiteRec.dosed firing record unplaced) h

/-! ### States that keep slots, sets and sites sound -/

/-- What the soundness of the slots, the sets and the sites rests on. -/
def State.offering (s : State) : Vector Slot 8 × Vector CutSet 4 × SiteRec × SiteRec × Option Nat :=
  (s.slots, s.sets, s.mainSite, s.calcSite, s.cooler.offer)

/-- From `s` to `t` sound slots stay sound, and so do sound sets and sites. -/
structure OffersKept (s t : State) : Prop where
  slots : SlotsSound s → SlotsSound t
  cuts : CutsSound s → CutsSound t

/-- A site whose record and sources are as before. -/
theorem SiteSound.kept {s t : State} {x : Site} (h : SiteSound s x)
    (sets : ∀ k, (t.cutSet k).offer x = (s.cutSet k).offer x) (site : t.siteRec x = s.siteRec x)
    (offer : t.cooler.offer = s.cooler.offer) : SiteSound t x where
  sets k := by rw [site, sets]; exact h.sets k
  holdback := by rw [site, offer]; exact h.holdback
  computed := by rw [site]; exact h.computed
  demand := by rw [site]; exact h.demand

/-- A site that has taken the offer of a set (R64, R107, R108). -/
theorem SiteSound.takenSet {s t : State} {x : Site} {k : Fin 4} {v : Option Nat} (h : SiteSound s x)
    (own : (t.cutSet k).offer x = v) (others : ∀ j ≠ k, t.cutSet j = s.cutSet j)
    (site : t.siteRec x = (s.siteRec x).takeOffer (.set k) v) (cooler : t.cooler = s.cooler) : SiteSound t x where
  sets j := by
    rw [site, SiteRec.takeOffer_set]
    split
    case isTrue same => rw [same, own]
    case isFalse other => rw [others j other]; exact h.sets j
  holdback := by rw [site, cooler]; exact h.holdback
  computed := by rw [site, SiteRec.takeOffer_recompute]
  demand := by rw [site, SiteRec.takeOffer_demand]; exact h.demand

/-- A site that has taken the holdback offer (R125). -/
theorem SiteSound.takenHoldback {s t : State} {x : Site} {v : Option Nat} (h : SiteSound s x)
    (sets : t.sets = s.sets) (site : t.siteRec x = (s.siteRec x).takeOffer .holdback v) (offer : t.cooler.offer = v) :
    SiteSound t x where
  sets k := by rw [site, State.cutSet, sets]; exact h.sets k
  holdback := by rw [site, offer]; rfl
  computed := by rw [site, SiteRec.takeOffer_recompute]
  demand := by rw [site, SiteRec.takeOffer_demand]; exact h.demand

namespace OffersKept

theorem of_eq {s t : State} (h : t.offering = s.offering) : OffersKept s t := by
  simp only [State.offering, Prod.mk.injEq] at h
  obtain ⟨slots, sets, main, calciner, offer⟩ := h
  refine ⟨fun hs n => ?_, fun hs => ⟨fun k => ?_, fun x => ?_⟩⟩
  · rw [State.slot, slots]; exact hs n
  · rw [State.cutSet, sets]; exact hs.sets k
  · cases x
    · exact (hs.sites .main).kept (fun k => by rw [State.cutSet, sets]; rfl) main offer
    · exact (hs.sites .calc).kept (fun k => by rw [State.cutSet, sets]; rfl) calciner offer

theorem refl (s : State) : OffersKept s s := ⟨id, id⟩

theorem trans {s t u : State} (h : OffersKept s t) (k : OffersKept t u) : OffersKept s u :=
  ⟨k.slots ∘ h.slots, k.cuts ∘ h.cuts⟩

/-- After a change of what holds none of them. -/
theorem after {s t u : State} (h : OffersKept t u) (same : t.offering = s.offering) : OffersKept s u :=
  (of_eq same).trans h

/-- Before a change of what holds none of them. -/
theorem before {s t u : State} (h : OffersKept s t) (same : u.offering = t.offering) : OffersKept s u :=
  h.trans (of_eq same)

theorem of_field {s t : State} (h : t.field = s.field) : OffersKept s t := by
  simp only [State.field, Prod.mk.injEq] at h
  obtain ⟨slots, sets, cooler, -, main, calciner⟩ := h
  exact of_eq (by rw [State.offering, slots, sets, cooler, main, calciner]; rfl)

theorem of_sameBlocks {s t : State} (h : SameBlocks s t) : OffersKept s t := of_field h.field

theorem foldl {α : Type} {f : State → α → State} (h : ∀ s a, OffersKept s (f s a)) (l : List α) (s : State) :
    OffersKept s (l.foldl f s) := by
  induction l generalizing s with
  | nil => exact .refl s
  | cons a l ih => exact (h s a).trans (ih (f s a))

end OffersKept

/-! ### Slots -/

theorem clampInt_mem {lo hi : Int} (x : Int) (h : lo ≤ hi) : lo ≤ clampInt lo hi x ∧ clampInt lo hi x ≤ hi := by
  unfold clampInt
  split
  · omega
  · split <;> omega

/-- A change of one slot that keeps it sound. -/
theorem modSlot_offers {n : Fin 8} {f : Slot → Slot} {s : State} (h : SlotSound (s.slot n) → SlotSound (f (s.slot n))) :
    OffersKept s (s.modSlot n f) where
  slots hs m := by
    rw [State.modSlot_slot]
    split
    · exact h (hs n)
    · exact hs m
  cuts hs := ⟨hs.sets, fun x => (hs.sites x).kept (fun _ => rfl) (State.modSlot_siteRec n f s x) rfl⟩

theorem Slot.configured_sound {low high : Int} (staleTime : Nat) {x : Slot} (h : SlotSound x) (ordered : low ≤ high) :
    SlotSound (x.configured low high staleTime) :=
  { h with range := clampInt_mem x.value ordered }

/-- A slot with a fresh value, its stale alarm condition off (R99). -/
theorem SlotSound.refresh {x : Slot} (h : SlotSound x) (v : Int) (ms : Nat) {alarm : Bool} (quiet : alarm = false) :
    SlotSound
      { x with value := clampInt x.low x.high v, timer := some ms, isStale := false, alarm := alarm } where
  range := clampInt_mem v (h.range.1.trans h.range.2)
  timer := by simp
  alarm := by simp [quiet]

theorem Slot.tick_sound {x : Slot} (h : SlotSound x) : SlotSound x.tick :=
  { h with timer := by simp [Slot.tick, tickTimer, h.timer] }

/-! ### Cutback sets -/

theorem CutSet.offer_of_not_active {c : CutSet} (h : c.state ≠ .active) (x : Site) : c.offer x = none :=
  if_neg fun both => h both.1

/-- A change of one set, with its new offer taken by the sites that `p` names and no other offer changed. -/
theorem CutsSound.changeSet {s t : State} {k : Fin 4} {f : CutSet → CutSet} {p : Site → Bool} {v : Option Nat}
    (h : CutsSound s) (sets : t.sets = (s.modSet k f).sets) (cooler : t.cooler = s.cooler)
    (sites : ∀ x, t.siteRec x = if p x then (s.siteRec x).takeOffer (.set k) v else s.siteRec x)
    (sound : SetSound (f (s.cutSet k)))
    (offer : ∀ x, (f (s.cutSet k)).offer x = if p x then v else (s.cutSet k).offer x) : CutsSound t := by
  have read (j : Fin 4) : t.cutSet j = (s.modSet k f).cutSet j := by rw [State.cutSet, sets]; rfl
  have own : t.cutSet k = f (s.cutSet k) := by rw [read, State.modSet_cutSet_self]
  have others (j : Fin 4) (hj : j ≠ k) : t.cutSet j = s.cutSet j := by rw [read, State.modSet_cutSet_other _ _ _ _ hj]
  refine ⟨fun j => ?_, fun x => ?_⟩
  · by_cases hj : j = k
    · rw [hj, own]; exact sound
    · rw [others j hj]; exact h.sets j
  · by_cases named : p x = true
    · exact (h.sites x).takenSet (by rw [own, offer, if_pos named]) others (by rw [sites, if_pos named]) cooler
    · refine (h.sites x).kept (fun j => ?_) (by rw [sites, if_neg named]) (by rw [cooler])
      by_cases hj : j = k
      · rw [hj, own, offer, if_neg named]
      · rw [others j hj]

/-- A set changed in what its offer does not rest on. -/
theorem modSet_offers {k : Fin 4} {f : CutSet → CutSet} {s : State}
    (sound : SetSound (s.cutSet k) → SetSound (f (s.cutSet k)))
    (offer : ∀ x, (f (s.cutSet k)).offer x = (s.cutSet k).offer x) : OffersKept s (s.modSet k f) where
  slots hs := hs
  cuts hs := hs.changeSet (p := fun _ => false) (v := none) rfl rfl (State.modSet_siteRec k f s) (sound (hs.sets k)) offer

/-- A set that offers nothing, before and after. -/
theorem modSet_idle_offers {k : Fin 4} {f : CutSet → CutSet} {s : State}
    (sound : SetSound (s.cutSet k) → SetSound (f (s.cutSet k))) (before : (s.cutSet k).state ≠ .active)
    (after : (f (s.cutSet k)).state ≠ .active) : OffersKept s (s.modSet k f) :=
  modSet_offers sound fun x => by rw [CutSet.offer_of_not_active before, CutSet.offer_of_not_active after]

/-- A set that is not DISABLED stays sound in another state, with a delay timer exactly while that is TIMING. -/
theorem SetSound.moveTo {c : CutSet} (h : SetSound c) (enabled : c.state ≠ .disabled) {state : SetState}
    {timer : DelayTimer} (stays : state ≠ .disabled) (timed : timer = .stopped ↔ state ≠ .timing) :
    SetSound { c with state := state, timer := timer } where
  enable := iff_of_false stays fun off => enabled (h.enable.mpr off)
  timer := timed
  cut := h.cut

/-- A change of the delay timer that neither starts nor stops it. -/
theorem SetSound.retime {c : CutSet} (h : SetSound c) {timer : DelayTimer}
    (same : timer = .stopped ↔ c.timer = .stopped) : SetSound { c with timer := timer } :=
  { h with timer := same.trans h.timer }

theorem DelayTimer.resumed_stopped (t : DelayTimer) : t.resumed = .stopped ↔ t = .stopped := by
  cases t <;> simp [DelayTimer.resumed]

theorem DelayTimer.froze_stopped (t : DelayTimer) : t.froze = .stopped ↔ t = .stopped := by
  cases t <;> simp [DelayTimer.froze]

theorem DelayTimer.tick_stopped (t : DelayTimer) : t.tick = .stopped ↔ t = .stopped := by
  cases t <;> simp [DelayTimer.tick]

/-- An enabled set that comes to be ACTIVE, with its cut at the sites it names (R107). -/
theorem activate_offers {k : Fin 4} {s : State} (enabled : (s.cutSet k).state ≠ .disabled) :
    OffersKept s (activate k s) where
  slots hs := hs
  cuts hs := by
    refine hs.changeSet (f := fun c => { c with state := .active, timer := .stopped }) (p := (s.cutSet k).sites.has)
      (v := some (s.cutSet k).cut) rfl rfl (fun x => ?_) ((hs.sets k).moveTo enabled (by simp) (by simp)) fun x => ?_
    · simp [activate, offerCut_siteRec]
    · by_cases named : (s.cutSet k).sites.has x = true <;> simp [CutSet.offer, named]

/-- The withdrawal of an ACTIVE set (R105, R108). -/
theorem deactivate_offers {k : Fin 4} {s : State} (active : (s.cutSet k).state = .active) :
    OffersKept s (deactivate k s) where
  slots hs := hs
  cuts hs := by
    refine hs.changeSet (f := fun c => { c with state := .idle, timer := .stopped }) (p := (s.cutSet k).sites.has)
      (v := none) rfl rfl (fun x => ?_) ((hs.sets k).moveTo (by simp [active]) (by simp) (by simp)) fun x => ?_
    · simp [deactivate, offerCut_siteRec]
    · rw [CutSet.offer_of_not_active (by simp)]
      split
      · rfl
      · simp_all [CutSet.offer]

theorem testIdle_offers {k : Fin 4} {s : State} (v : Int) (idle : (s.cutSet k).state = .idle) :
    OffersKept s (testIdle k v s) := by
  unfold testIdle
  split; swap; · exact .refl s
  split
  · exact activate_offers (by simp [idle])
  · exact modSet_idle_offers (fun hs => hs.moveTo (by simp [idle]) (by simp) (by simp)) (by simp [idle]) (by simp)

theorem freshValue_offers (v : Int) (k : Fin 4) (s : State) : OffersKept s (freshValue v k s) := by
  unfold freshValue
  split
  case h_1 => exact .refl s
  case h_2 idle => exact testIdle_offers v idle
  case h_3 timing =>
    split
    · exact modSet_offers (fun hs => hs.retime (DelayTimer.resumed_stopped _)) fun _ => rfl
    · exact modSet_idle_offers (fun hs => hs.moveTo (by simp [timing]) (by simp) (by simp)) (by simp [timing]) (by simp)
  case h_4 active =>
    split
    · exact deactivate_offers active
    · exact .refl s

theorem handFresh_offers (n : Fin 8) (s : State) : OffersKept s (handFresh n s) := by
  refine .foldl (fun s k => ?_) all4 s
  split
  · exact freshValue_offers _ k s
  · exact .refl s

theorem handStale_offers (n : Fin 8) (s : State) : OffersKept s (handStale n s) := by
  refine .foldl (fun s k => ?_) all4 s
  split
  · exact modSet_offers (fun hs => hs.retime (DelayTimer.froze_stopped _)) fun _ => rfl
  · exact .refl s

/-- A set as SET_CUTBACK writes it: IDLE or DISABLED by its enable, its timer stopped (R105). -/
structure CutSet.Rewritten (c : CutSet) : Prop where
  state : c.state = if c.enable then .idle else .disabled
  timer : c.timer = .stopped
  cut : c.cut ≤ 50

theorem cutSetOf_rewritten {b : List Byte} {slot : Fin 8} {c : CutSet} (h : cutSetOf b slot = some c) :
    c.Rewritten := by
  unfold cutSetOf at h
  split at h; swap; · cases h
  split at h <;> cases h
  case h_1.isTrue.refl fields => exact ⟨rfl, rfl, of_decide_eq_true (Bool.and_eq_true_iff.mp fields).2⟩

theorem CutSet.Rewritten.sound {c : CutSet} (h : c.Rewritten) : SetSound c := by
  obtain ⟨state, timer, cut⟩ := h
  refine ⟨?_, ?_, cut⟩ <;> cases enable : c.enable <;> simp [state, timer, enable]

theorem CutSet.Rewritten.not_active {c : CutSet} (h : c.Rewritten) : c.state ≠ .active := by
  rw [h.state]
  split <;> simp

theorem rewriteSet_offers {k : Fin 4} {c : CutSet} (s : State) (h : c.Rewritten) :
    OffersKept s (rewriteSet k c s) := by
  have written {s1 : State} (idle : (s1.cutSet k).state ≠ .active) : OffersKept s1 (s1.modSet k fun _ => c) :=
    modSet_idle_offers (fun _ => h.sound) idle h.not_active
  have withdrawn : OffersKept s (if (s.cutSet k).state = .active then deactivate k s else s) ∧
      ((if (s.cutSet k).state = .active then deactivate k s else s).cutSet k).state ≠ .active := by
    split
    case isTrue active => exact ⟨deactivate_offers active, by simp [deactivate]⟩
    case isFalse idle => exact ⟨.refl s, idle⟩
  obtain ⟨kept, idle⟩ := withdrawn
  unfold rewriteSet
  dsimp only
  split
  case isTrue tested =>
    exact (kept.trans (written idle)).trans (testIdle_offers _ (by simp [h.state, tested.1]))
  case isFalse => exact kept.trans (written idle)

/-! ### The cooler -/

/-- A change of the cooler that leaves its offer as it is. -/
theorem modCooler_offers {f : Cooler → Cooler} {s : State} (h : (f s.cooler).offer = s.cooler.offer) :
    OffersKept s (s.modCooler f) :=
  .of_eq (by rw [State.offering, State.modCooler_cooler, h]; rfl)

/-- A state with a change of the cooler and the holdback offer that follows it at both sites (R114, R125). -/
theorem offerHoldback_offers {s t : State} (slots : t.slots = s.slots) (sets : t.sets = s.sets)
    (sites : ∀ x, t.siteRec x = (s.siteRec x).takeOffer .holdback t.cooler.offer) : OffersKept s t where
  slots hs n := by rw [State.slot, slots]; exact hs n
  cuts hs := ⟨fun k => by rw [State.cutSet, sets]; exact hs.sets k,
    fun x => (hs.sites x).takenHoldback sets (sites x) rfl⟩

theorem refreshHoldback_offers (s : State) : OffersKept s (refreshHoldback s) := by
  unfold refreshHoldback
  split
  · exact offerHoldback_offers rfl rfl fun x => by simp [offerCut_siteRec, CutSites.has, Cooler.offer]
  · split
    · exact offerHoldback_offers rfl rfl fun x => by simp [offerCut_siteRec, CutSites.has, Cooler.offer]
    · exact .refl s

/-- A change of the cooler with holdback brought up to date (R125). -/
theorem modCooler_refreshHoldback_offers {f : Cooler → Cooler} {s : State} (h : (f s.cooler).offer = s.cooler.offer) :
    OffersKept s (refreshHoldback (s.modCooler f)) :=
  (modCooler_offers h).trans (refreshHoldback_offers _)

theorem Cooler.dropStop_offer (k : Fin 24) (c : Cooler) : (c.dropStop k).offer = c.offer := by
  unfold Cooler.dropStop
  split <;> rfl

theorem Cooler.manualOutputs_offer (c : Cooler) : c.manualOutputs.offer = c.offer := by
  unfold Cooler.manualOutputs
  split <;> rfl

theorem Cooler.stalePeriod_offer (c : Cooler) : c.stalePeriod.offer = c.offer := by
  unfold Cooler.stalePeriod
  split <;> rfl

theorem Cooler.freshPeriod_offer (p : Int) (c : Cooler) : (c.freshPeriod p).offer = c.offer := by
  unfold Cooler.freshPeriod
  split <;> rfl

theorem Cooler.pressureTest_offer (p : Int) (c : Cooler) : (c.pressureTest p).offer = c.offer := by
  unfold Cooler.pressureTest Cooler.entryTest
  repeat' split
  all_goals rfl

/-- New settings leave holdback as it is (R114). -/
theorem Cooler.configured_offer (b : List Byte) (slot : Fin 8) (c : Cooler) :
    (c.configured b slot).fitOutputs.offer = if c.holdback then some (u8 b 9) else none := by
  unfold Cooler.fitOutputs
  repeat' split
  all_goals simp_all [Cooler.offer, Cooler.halt, Cooler.runManual, Cooler.configured, settingsOf]

theorem takeCooler_offers (b : List Byte) (slot : Fin 8) (s : State) : OffersKept s (takeCooler b slot s) := by
  have offer := Cooler.configured_offer b slot s.cooler
  unfold takeCooler
  split
  case isTrue held =>
    exact offerHoldback_offers rfl rfl fun x => by simp [offerCut_siteRec, CutSites.has, offer, held]
  case isFalse free => exact modCooler_offers (by rw [offer, if_neg free, Cooler.offer, if_neg free])

theorem takeManual_offers (b : List Byte) (s : State) : OffersKept s (takeManual b s) :=
  (modCooler_refreshHoldback_offers rfl).trans (modCooler_offers (Cooler.manualOutputs_offer _))

theorem takeAuto_offers (s : State) : OffersKept s (takeAuto s) := by
  unfold takeAuto
  split
  · exact .refl s
  · exact .of_eq rfl

theorem bookStroke_offers (n : Fin 4) (s : State) : OffersKept s (bookStroke n s) := by
  unfold bookStroke
  split
  · exact .of_eq rfl
  · exact .refl s

theorem strokeSupervision_offers (n : Fin 4) (s : State) : OffersKept s (strokeSupervision n s) := by
  unfold strokeSupervision
  split
  · exact (refreshHoldback_offers _).after rfl
  · exact .of_eq rfl

theorem stopReported_offers (k : Fin 24) (s : State) : OffersKept s (stopReported k s) := by
  unfold stopReported
  split
  · exact .refl s
  · split <;> exact modCooler_refreshHoldback_offers rfl

theorem stopReturned_offers (k : Fin 24) (s : State) : OffersKept s (stopReturned k s) := by
  unfold stopReturned
  split
  · exact modCooler_refreshHoldback_offers (Cooler.dropStop_offer k _)
  · exact .refl s

/-! ### Contacts -/

theorem reportInterlocks_offers (p : Fin 8 → Bool) (s : State) : OffersKept s (reportInterlocks p s) :=
  .of_sameBlocks (reportInterlocks_sameBlocks p s)

theorem goesAbnormal_offers (k : Fin 24) (s : State) : OffersKept s (goesAbnormal k s) := by
  unfold goesAbnormal
  split
  · exact .refl s
  · exact .of_eq rfl
  · exact (reportInterlocks_offers _ _).after rfl
  · exact (stopReported_offers k _).after rfl

theorem returnsNormal_offers (k : Fin 24) (s : State) : OffersKept s (returnsNormal k s) := by
  unfold returnsNormal
  split
  · exact .refl s
  · exact .of_eq rfl
  · exact .of_eq rfl
  · exact (stopReturned_offers k _).after rfl

theorem actOnReading_offers (k : Fin 24) (s : State) : OffersKept s (actOnReading k s) := by
  unfold actOnReading
  split
  · exact goesAbnormal_offers k s
  · exact returnsNormal_offers k s

theorem scanContacts_offers (levels : BitVec 24) (s : State) : OffersKept s (scanContacts levels s) := by
  refine .foldl (fun s k => ?_) all24 s
  unfold sampleContact
  split; swap; · exact .refl s
  split
  · exact (actOnReading_offers k _).after rfl
  · exact .of_eq rfl

theorem settleCondition_offers (k : Fin 24) (before : Bool) (s : State) :
    OffersKept s (settleCondition k before s) := by
  unfold settleCondition
  repeat' split
  all_goals exact .of_eq rfl

theorem settleStop_offers (k : Fin 24) (old new : Contact) (s : State) : OffersKept s (settleStop k old new s) := by
  unfold settleStop
  split
  · exact stopReturned_offers k s
  · split
    · exact stopReported_offers k s
    · exact .refl s

theorem replaceContact_offers (k : Fin 24) (new : Contact) (s : State) : OffersKept s (replaceContact k new s) := by
  have written : OffersKept s (s.modContact k fun _ => new) := .of_eq rfl
  exact written.trans <| (settleCondition_offers k _ _).trans <|
    (reportInterlocks_offers _ _).trans (settleStop_offers k _ new _)

theorem force_offers (k : Fin 24) (s : State) : OffersKept s (force k s) := by
  have forced : OffersKept s (s.modContact k fun c => { c with forced := true }) := .of_eq rfl
  unfold force
  dsimp only
  split
  · exact (forced.trans (returnsNormal_offers k _)).before rfl
  · exact .of_eq rfl

theorem liftForce_offers (k : Fin 24) (s : State) : OffersKept s (liftForce k s) := by
  unfold liftForce
  dsimp only
  split
  · exact (goesAbnormal_offers k _).after rfl
  · exact .of_eq rfl

/-! ### Demand and the dosing period -/

/-- A change of one site record that keeps it up to date and its offers as they are. -/
theorem modSite_offers {x : Site} {f : SiteRec → SiteRec} {s : State}
    (sets : (f (s.siteRec x)).setOffers = (s.siteRec x).setOffers)
    (holdback : (f (s.siteRec x)).holdbackOffer = (s.siteRec x).holdbackOffer)
    (computed : (s.siteRec x).recompute = s.siteRec x → (f (s.siteRec x)).recompute = f (s.siteRec x))
    (demand : (s.siteRec x).demand ≤ 200000 → (f (s.siteRec x)).demand ≤ 200000) :
    OffersKept s (s.modSite x f) where
  slots hs := hs
  cuts hs := by
    refine ⟨hs.sets, fun y => ?_⟩
    by_cases own : y = x
    · subst own
      have site := State.modSite_siteRec_self y f s
      obtain ⟨places, held, upToDate, bound⟩ := hs.sites y
      exact ⟨fun k => by rw [site, sets]; exact places k, by rw [site, holdback]; exact held,
        by rw [site]; exact computed upToDate, by rw [site]; exact demand bound⟩
    · exact (hs.sites y).kept (fun _ => rfl) (State.modSite_siteRec_other x y f s own) rfl

theorem takeDemand_offers (x : Site) (d : Nat) (s : State) : OffersKept s (s.modSite x (SiteRec.takeDemand d)) :=
  modSite_offers rfl rfl (fun _ => rfl) fun _ => Nat.min_le_right d 200000

theorem dose_offers (x : Site) (s : State) : OffersKept s (dose x s) := by
  have lowered : OffersKept s { s with streams := lowerStreams x s.streams } := .of_eq rfl
  have written (a : Allocation) (s : State) : OffersKept s (writeResults x a s) :=
    OffersKept.after (modSite_offers rfl rfl (SiteRec.dosed_recompute _ _ _) id) rfl
  exact lowered.trans ((written _ _).trans (.of_sameBlocks (dose_computed x s).1))

theorem dosingPeriod_offers (s : State) :
    OffersKept s (dose .calc (dose .main (periodCloses { s with dosingTimer := s.period.ms }))) := by
  have restarted : OffersKept s { s with dosingTimer := s.period.ms } := .of_eq rfl
  exact restarted.trans <| (OffersKept.of_sameBlocks (periodCloses_sameBlocks _)).trans <|
    (dose_offers .main _).trans (dose_offers .calc _)

/-! ### Requests -/

/-- What a block makes of a command keeps slots, sets and sites sound, or refuses the command. -/
inductive Reply.OffersKept (s : State) : Reply → Prop
  | refuse {c : ResultCode} : Reply.OffersKept s (.refuse c)
  | take {t : State} {c : ResultCode} {b : List Byte} (kept : Machine.OffersKept s t) :
      Reply.OffersKept s (.take t c b)

theorem takeRequest_offers {row : CommandRow} {r : Request} {act : State → Reply} {s t : State}
    (h : takeRequest row r act s = .next t) (kept : ∀ s, (act s).OffersKept s) : OffersKept s t := by
  have opened : OffersKept s (openRequest r s) := .of_field (openRequest_field r s)
  obtain ⟨-, rfl | ⟨-, ⟨-, rfl⟩ | ⟨-, -, rfl⟩ | ⟨-, -, rfl⟩⟩⟩ := takeRequest_next h
  · exact .of_eq rfl
  · exact opened.before rfl
  · exact opened.before rfl
  · cases reply : act (openRequest r s) with
    | refuse c => exact opened.before rfl
    | take u c b =>
      have taken := kept (openRequest r s)
      rw [reply] at taken
      cases taken with
      | take kept => exact (opened.trans kept).before rfl

theorem setDemand_offers (b : List Byte) (s : State) : (setDemand b s).OffersKept s := by
  unfold setDemand
  split
  · exact .refuse
  · exact .take (takeDemand_offers _ _ s)

theorem putMeas_offers (b : List Byte) (s : State) : (putMeas b s).OffersKept s := by
  unfold putMeas
  split
  · exact .refuse
  · refine .take (OffersKept.trans ?_ (handFresh_offers _ _))
    split
    · exact (modSlot_offers fun hs => hs.refresh _ _ rfl).trans (.of_sameBlocks (clearAlarm_sameBlocks _ _))
    case isFalse quiet => exact modSlot_offers fun hs => hs.refresh _ _ (Bool.eq_false_iff.mpr quiet)

theorem setMeasConfig_offers (b : List Byte) (s : State) : (setMeasConfig b s).OffersKept s := by
  unfold setMeasConfig
  split; · exact .refuse
  split; · exact .refuse
  case isFalse ordered =>
  split; · exact .refuse
  have configured (n : Fin 8) : OffersKept s (s.modSlot n (Slot.configured (s16 b 1) (s16 b 3) (u8 b 5))) :=
    modSlot_offers fun hs => Slot.configured_sound _ hs (not_lt.mp ordered)
  refine .take ?_
  split
  · exact (configured _).trans (handFresh_offers _ _)
  · exact configured _

theorem setCutback_offers (b : List Byte) (s : State) : (setCutback b s).OffersKept s := by
  unfold setCutback
  split; swap; · exact .refuse
  split
  case h_1 => exact .refuse
  case h_2 fields => exact .take (rewriteSet_offers s (cutSetOf_rewritten fields))

theorem setCooler_offers (b : List Byte) (s : State) : (setCooler b s).OffersKept s := by
  unfold setCooler
  split; · exact .refuse
  split; · exact .refuse
  split; · exact .refuse
  exact .take (takeCooler_offers b _ s)

theorem coolerMode_offers (b : List Byte) (s : State) : (coolerMode b s).OffersKept s := by
  unfold coolerMode
  split
  · exact .take (takeManual_offers b s)
  · exact .take (takeAuto_offers s)
  · exact .refuse

theorem onContact_offers {act : Fin 24 → State → Reply} (h : ∀ k s, (act k s).OffersKept s) (b : List Byte)
    (s : State) : (onContact b act s).OffersKept s := by
  unfold onContact
  split
  · exact h _ s
  · exact .refuse

theorem setContact_offers (b : List Byte) (k : Fin 24) (s : State) : (setContact b k s).OffersKept s := by
  unfold setContact
  split; · exact .refuse
  split; · exact .refuse
  exact .take (replaceContact_offers k _ s)

theorem forceContact_offers (k : Fin 24) (s : State) : (forceContact k s).OffersKept s := by
  unfold forceContact
  split; · exact .refuse
  split; · exact .take (.refl s)
  exact .take (force_offers k s)

theorem unforce_offers (k : Fin 24) (s : State) : (unforce k s).OffersKept s := by
  unfold unforce
  split
  · exact .take (liftForce_offers k s)
  · exact .refuse

/-- A reset leaves sound records, whatever it found (R15, R16). -/
theorem resetAll_offers (cause : ResetCause) (p q d : Option Nat) (s : State) :
    OffersKept s (resetAll cause p q d s) := by
  have reset : OffersKept State.reset (resetAll cause p q d s) := .of_eq (by simp only [resetAll, State.offering])
  exact ⟨fun _ => reset.slots resetIsSound.slots, fun _ => reset.cuts resetIsSound.cuts⟩

theorem fullReset_offers (p d : Option Nat) (s : State) : (fullReset p d s).OffersKept s := by
  unfold fullReset
  split
  · exact .take (resetAll_offers _ _ _ _ s)
  · exact .refuse

/-! ### Events -/

theorem execStaleTimerExpiry_offers {n : Fin 8} {s t : State} (h : execStaleTimerExpiry n s = .next t) :
    OffersKept s t := by
  unfold execStaleTimerExpiry at h
  split at h <;> cases h
  · have staled : OffersKept s (s.modSlot n fun x => { x with isStale := true, timer := none, alarm := true }) :=
      modSlot_offers fun hs => { hs with timer := by simp, alarm := fun _ => rfl }
    exact staled.trans ((handStale_offers n _).after rfl)
  · exact .refl s

theorem execDelayTimerExpiry_offers {k : Fin 4} {s t : State} (h : execDelayTimerExpiry k s = .next t) :
    OffersKept s t := by
  unfold execDelayTimerExpiry at h
  split at h <;> cases h
  case h_1.refl timing _ => exact activate_offers (by simp [timing])
  case h_2.refl => exact .refl s

theorem execCoolerPeriod_offers {s t : State} (h : execCoolerPeriod s = .next t) : OffersKept s t := by
  unfold execCoolerPeriod at h
  split at h
  · cases h; exact .of_eq rfl
  · split at h <;> cases h
    · exact modCooler_offers (Cooler.stalePeriod_offer _)
    · exact modCooler_refreshHoldback_offers ((Cooler.pressureTest_offer _ _).trans (Cooler.freshPeriod_offer _ _))

theorem execStallTimerExpiry_offers {n : Fin 4} {s t : State} (h : execStallTimerExpiry n s = .next t) :
    OffersKept s t := by
  unfold execStallTimerExpiry at h
  split at h <;> cases h
  · exact (refreshHoldback_offers _).after rfl
  · exact .refl s

/-! ### Every command and every step -/

/-- Every command keeps slots, sets and sites sound. -/
theorem exec_offers {c : Instr} {s t : State} (h : exec c s = .next t) : OffersKept s t := by
  cases c with
  | powerOnReset p q d => exact Host.Outcome.next.inj h ▸ resetAll_offers _ p q d s
  | fullReset r p d => exact takeRequest_offers h (fullReset_offers p d)
  | setDemand r => exact takeRequest_offers h (setDemand_offers _)
  | putMeas r => exact takeRequest_offers h (putMeas_offers _)
  | setMeasConfig r => exact takeRequest_offers h (setMeasConfig_offers _)
  | setCutback r => exact takeRequest_offers h (setCutback_offers _)
  | setCooler r => exact takeRequest_offers h (setCooler_offers _)
  | coolerModeManual r | coolerModeAuto r => exact takeRequest_offers h (coolerMode_offers _)
  | setContact r => exact takeRequest_offers h (onContact_offers (setContact_offers _) _)
  | forceContact r => exact takeRequest_offers h (onContact_offers forceContact_offers _)
  | unforce r => exact takeRequest_offers h (onContact_offers unforce_offers _)
  | strokePulse n =>
    exact Host.Outcome.next.inj h ▸ (bookStroke_offers n s).trans (strokeSupervision_offers n _)
  | dosingPeriodExpiry => exact Host.Outcome.next.inj h ▸ dosingPeriod_offers s
  | contactScan levels => exact Host.Outcome.next.inj h ▸ (scanContacts_offers levels _).after rfl
  | staleTimerExpiry n => exact execStaleTimerExpiry_offers h
  | delayTimerExpiry k => exact execDelayTimerExpiry_offers h
  | coolerPeriod => exact execCoolerPeriod_offers h
  | stallTimerExpiry n => exact execStallTimerExpiry_offers h
  | _ => exact .of_field (exec_field h rfl)

/-- One millisecond counts the stale and the delay timers down, and reaches no offer. -/
theorem tick_offers (s : State) : OffersKept s s.tick where
  slots hs n := by
    rw [State.tick_slot]
    exact Slot.tick_sound (hs n)
  cuts hs := by
    refine ⟨fun k => ?_, fun x => (hs.sites x).kept (fun k => ?_) (by cases x <;> rfl) rfl⟩
    · rw [State.tick_cutSet]
      exact (hs.sets k).retime (DelayTimer.tick_stopped _)
    · rw [State.tick_cutSet]
      rfl

theorem idle_offers (s : State) : OffersKept s (idle s) := by
  unfold idle
  split
  · exact tick_offers s
  · exact .of_eq rfl

/-- A step keeps slots, sets and sites sound, as the device clock or as the command at the front of the queue. -/
theorem step_offers {s t : State} (h : step s = .next t) : OffersKept s t := by
  unfold step at h
  split at h
  · exact Host.Outcome.next.inj h ▸ idle_offers s
  · exact (exec_offers h).after rfl

/-- Settles O58, by what a step does to the slots, the sets and the sites. -/
theorem stepKeepsOffersSound : Obligations.StepKeepsOffersSound :=
  ⟨fun _ _ hs h => (step_offers h).slots hs, fun _ _ hs h => (step_offers h).cuts hs⟩

end Sys2Proof.Machine
end

section
/-! PROOFS. Unplaced heat: the count and the SITE_UNPLACED condition that a computation leaves, and its report (R72). -/

namespace Sys2Proof.Machine

/-- Lowering makes no stream FIRING, and moves none that is (R46). -/
theorem Stream.lowered_firing (x : Stream) : x.lowered.state = .firing ↔ x.state = .firing := by
  by_cases stopping : x.state = .stopping
  · unfold Stream.lowered Stream.withOutput
    rw [if_pos stopping]
    split <;> simp [stopping]
  · rw [Stream.lowered_of_not_stopping stopping]

theorem siteFiring_iff (x : Site) (s : State) :
    siteFiring x s.streams = true ↔ ∃ i, (s.stream i).limits.site = x ∧ (s.stream i).state = .firing := by
  simp [siteFiring, State.streams_toList, mem_all8]

/-- A site burns after the lowering of its STOPPING streams exactly if it did before (R65, R72). -/
theorem siteFiring_lowered (x : Site) (s : State) :
    siteFiring x (lowerStreams x s.streams) = true ↔
      ∃ i, (s.stream i).limits.site = x ∧ (s.stream i).state = .firing := by
  have stream (i : Fin 8) : ({ s with streams := lowerStreams x s.streams } : State).stream i =
      if (s.stream i).limits.site = x then (s.stream i).lowered else s.stream i := lowerStreams_getElem x _ i
  refine (siteFiring_iff x { s with streams := lowerStreams x s.streams }).trans (exists_congr fun i => ?_)
  rw [stream]
  split
  · rw [Stream.lowered_limits, Stream.lowered_firing]
  · rfl

/-- Behind the report of a computation stand its streams and its two site records. -/
theorem computed_eq (x : Site) (s : State) :
    computed x s =
      { s with streams := (dose x s).streams, mainSite := (dose x s).mainSite, calcSite := (dose x s).calcSite } := by
  obtain ⟨same, streams⟩ := dose_computed x s
  rw [streams, same.mainSite, same.calcSite]
  rfl

/-- The last step of a computation (R72). -/
theorem dose_report (x : Site) (s : State) :
    dose x s =
      reportUnplaced x (s.siteRec x).unplacedCond ((dose x s).siteRec x).unplacedCond
        ((dose x s).siteRec x).unplaced (computed x s) := by
  have before : ({ s with streams := lowerStreams x s.streams } : State).siteRec x = s.siteRec x := by cases x <;> rfl
  have unplaced : ((dose x s).siteRec x).unplaced = (doseAllocation x s).unplaced := by rw [dose_siteRec_self]; rfl
  rw [unplaced, dose_siteRec_computed, ← before]
  rfl

/-- The count and the condition that a computation leaves, by whether the site burned and heat is unplaced (R72). -/
theorem dose_unplaced (x : Site) (s : State) :
    ((dose x s).siteRec x).unplacedCount =
        nextUnplacedCount (siteFiring x (lowerStreams x s.streams)) ((dose x s).siteRec x).unplaced
          (s.siteRec x).unplacedCount ∧
      ((dose x s).siteRec x).unplacedCond =
        if siteFiring x (lowerStreams x s.streams) ∧ ((dose x s).siteRec x).unplaced ≠ 0 then
          (s.siteRec x).unplacedCond || ((dose x s).siteRec x).unplacedCount == 10
        else false := by
  rw [dose_siteRec_self]
  exact ⟨rfl, rfl⟩

theorem unplaced_counted {x : Site} {s : State}
    (firing : ∃ i, (s.stream i).limits.site = x ∧ (s.stream i).state = .firing)
    (unplaced : ((dose x s).siteRec x).unplaced ≠ 0) :
    ((dose x s).siteRec x).unplacedCount = min 10 ((s.siteRec x).unplacedCount + 1) ∧
      ((dose x s).siteRec x).unplacedCond =
        ((s.siteRec x).unplacedCond || ((dose x s).siteRec x).unplacedCount == 10) := by
  obtain ⟨count, cond⟩ := dose_unplaced x s
  have burns := (siteFiring_lowered x s).mpr firing
  rw [if_pos ⟨burns, unplaced⟩] at cond
  rw [nextUnplacedCount, if_pos ⟨burns, unplaced⟩] at count
  exact ⟨count, cond⟩

theorem unplaced_ended {x : Site} {s : State}
    (ended : (∀ i, (s.stream i).limits.site = x → (s.stream i).state ≠ .firing) ∨
      ((dose x s).siteRec x).unplaced = 0) :
    ((dose x s).siteRec x).unplacedCount = 0 ∧ ((dose x s).siteRec x).unplacedCond = false := by
  obtain ⟨count, cond⟩ := dose_unplaced x s
  have none : ¬(siteFiring x (lowerStreams x s.streams) = true ∧ ((dose x s).siteRec x).unplaced ≠ 0) := by
    rw [siteFiring_lowered]
    rintro ⟨⟨i, site, firing⟩, unplaced⟩
    exact ended.elim (fun quiet => quiet i site firing) unplaced
  rw [if_neg none] at cond
  rw [nextUnplacedCount, if_neg none] at count
  exact ⟨count, cond⟩

/-- Settles O32: the count and the condition by `dose_unplaced`, and the report by how the condition changes. -/
theorem unplacedHeatRaisesAlarm : Obligations.UnplacedHeatRaisesAlarm := by
  intro x s w hw
  rw [← computed_eq] at hw
  have report := hw ▸ dose_report x s
  refine ⟨fun firing unplaced => ?counted, fun ended => ?ended⟩
  case counted =>
    obtain ⟨count, cond⟩ := unplaced_counted firing unplaced
    refine ⟨count, by simp [cond], fun before after => ?_, fun same => ?_⟩
    · rw [before, after] at report
      exact report
    · rw [same] at report
      simpa [reportUnplaced] using report
  case ended =>
    obtain ⟨count, cond⟩ := unplaced_ended ended
    refine ⟨count, cond, ?_⟩
    rw [cond] at report
    simpa [reportUnplaced] using report

end Sys2Proof.Machine
end

section
/-! PROOFS. The arithmetic of one pass: the model's functions in the words of the claims, the receiver of the remainder
as the leader of the UNFIXED parts, and the shares of a pass, which add up to the remaining heat (R66, R67). -/

namespace Sys2Proof.Machine

/-! ### The model's functions in the words of the claims -/

theorem Share.unfixed_iff (p : Share) : p.unfixed = true ↔ p.role = .unfixed := beq_iff_eq

theorem unfixedOf_eq (l : List Share) : unfixedOf l = l.filter Share.unfixed :=
  List.filter_congr fun p _ => by rw [Bool.eq_iff_iff, decide_eq_true_iff, Share.unfixed_iff]

theorem mem_unfixedOf {l : List Share} {p : Share} : p ∈ unfixedOf l ↔ p ∈ l ∧ p.role = .unfixed := by
  simp [unfixedOf]

/-- No part is UNFIXED exactly if each is fixed (R67, step 2). -/
theorem unfixedOf_eq_nil {l : List Share} : unfixedOf l = [] ↔ ∀ p ∈ l, p.role ≠ .unfixed := by
  simp [unfixedOf, List.filter_eq_nil_iff]

theorem remainingHeat_eq (e : Nat) (l : List Share) : remainingHeat e l = heatLeft e l := by
  have fixed : (l.filter fun p => !p.unfixed) = l.filter fun p => p.role ≠ .unfixed :=
    List.filter_congr fun p _ => by simp [Share.unfixed, beq_eq_decide]
  rw [remainingHeat, heatLeft, fixed]

theorem weightSum_eq (l : List Share) : weightSum l = ((unfixedOf l).map Share.weight).sum := by
  rw [weightSum, unfixedOf_eq]

theorem floorShare_eq (m : Int) (l : List Share) (p : Share) :
    floorShare m p.weight (weightSum l) = flooredShare m l p := by
  rw [floorShare, flooredShare, weightSum_eq, Int.fdiv_eq_ediv_of_nonneg _ (Int.natCast_nonneg _)]

theorem remainder_eq (m : Int) (l : List Share) :
    remainder m l = m - ((unfixedOf l).map (flooredShare m l)).sum := by
  simp only [remainder, floorShare_eq, unfixedOf_eq]

theorem Share.fixMax_eq (p : Share) :
    p.fixMax = { p with role := .fixedMax, heat := fixedHeat p.max p.ncv, mass := p.max } := by
  rw [Share.fixMax, heatOf_eq]

theorem Share.fixMin_eq (p : Share) :
    p.fixMin = { p with role := .fixedMin, heat := fixedHeat p.min p.ncv, mass := p.min } := by
  rw [Share.fixMin, heatOf_eq]

/-! ### The receiver of the remainder -/

/-- A part comes before another for the remainder: the lower rank number, ties to the lower stream number (R67, step 5). -/
def Share.Leads (p q : Share) : Prop := p.rank < q.rank ∨ p.rank = q.rank ∧ p.idx ≤ q.idx

theorem Share.Leads.refl (p : Share) : p.Leads p := .inr ⟨rfl, le_refl _⟩

theorem Share.Leads.trans {p q r : Share} (h : p.Leads q) (k : q.Leads r) : p.Leads r := by
  unfold Share.Leads at *
  omega

theorem Share.Leads.antisymm {p q : Share} (h : p.Leads q) (k : q.Leads p) : p.idx = q.idx := by
  unfold Share.Leads at *
  omega

/-- In stream order, by the streams the parts stand for. -/
def InOrder (l : List Share) : Prop := l.Pairwise fun p q => p.idx < q.idx

theorem inOrder_iff (l : List Share) : InOrder l ↔ (partIndices l).Pairwise (· < ·) := List.pairwise_map.symm

theorem InOrder.unfixed {l : List Share} (h : InOrder l) : InOrder (unfixedOf l) := List.Pairwise.filter _ h

theorem betterRank_leads {p q : Share} (h : p.idx < q.idx) :
    (betterRank p q).Leads p ∧ (betterRank p q).Leads q := by
  unfold betterRank Share.Leads
  split <;> omega

theorem betterRank_mem (p q : Share) : betterRank p q = p ∨ betterRank p q = q := by
  unfold betterRank
  split <;> simp

/-- The better of all parts in stream order is one of them, and leads them all. -/
theorem foldl_betterRank {p : Share} {l : List Share} (h : InOrder (p :: l)) :
    l.foldl betterRank p ∈ p :: l ∧ ∀ q ∈ p :: l, (l.foldl betterRank p).Leads q := by
  induction l generalizing p with
  | nil => simpa using Share.Leads.refl p
  | cons c l ih =>
    obtain ⟨hp, hc⟩ := List.pairwise_cons.mp h
    obtain ⟨leadsP, leadsC⟩ := betterRank_leads (hp c List.mem_cons_self)
    have ordered : InOrder (betterRank p c :: l) := by
      obtain same | same := betterRank_mem p c <;> rw [same]
      · exact h.sublist (by simp)
      · exact hc
    obtain ⟨mem, leads⟩ := ih ordered
    have first := leads _ List.mem_cons_self
    refine ⟨?_, fun q hq => ?_⟩
    · obtain same | tail := List.mem_cons.mp mem
      · rw [List.foldl_cons, same]
        obtain same | same := betterRank_mem p c <;> simp [same]
      · exact List.mem_cons_of_mem p (List.mem_cons_of_mem c tail)
    · obtain rfl | hq := List.mem_cons.mp hq
      · exact first.trans leadsP
      obtain rfl | hq := List.mem_cons.mp hq
      · exact first.trans leadsC
      · exact leads q (List.mem_cons_of_mem _ hq)

/-- Where a part is UNFIXED, the receiver is the leader of those that are (R67, step 5). -/
theorem receiver_eq {l : List Share} (h : InOrder l) (free : unfixedOf l ≠ []) :
    ∃ b ∈ unfixedOf l, receiver l = some b.idx ∧ ∀ q ∈ unfixedOf l, b.Leads q := by
  have ordered := h.unfixed
  rw [unfixedOf_eq] at ordered free ⊢
  unfold receiver
  cases unfixed : l.filter Share.unfixed with
  | nil => exact absurd unfixed free
  | cons p rest =>
    rw [unfixed] at ordered
    obtain ⟨mem, leads⟩ := foldl_betterRank ordered
    exact ⟨_, mem, rfl, leads⟩

theorem receiver_iff {l : List Share} {p : Share} (h : InOrder l) (hp : p ∈ unfixedOf l) :
    receiver l = some p.idx ↔ ∀ q ∈ unfixedOf l, p.Leads q := by
  obtain ⟨b, mem, receives, leads⟩ := receiver_eq h (List.ne_nil_of_mem hp)
  rw [receives, Option.some_inj]
  constructor
  · intro same
    have nodup : ((unfixedOf l).map Share.idx).Nodup :=
      ((inOrder_iff _).mp h.unfixed).imp fun lt => ne_of_lt lt
    rw [← List.inj_on_of_nodup_map nodup mem hp same]
    exact leads
  · exact fun leadsAll => (leads p hp).antisymm (leadsAll b mem)

/-! ### The shares of a pass -/

theorem shareHeat_eq {l : List Share} {p : Share} (m : Int) (h : InOrder l) (hp : p ∈ unfixedOf l) :
    shareHeat m l p = sharedHeat m l p := by
  have receives := receiver_iff h hp
  unfold Share.Leads at receives
  simp only [shareHeat, sharedHeat, floorShare_eq, remainder_eq, receives]

/-- An UNFIXED part with its share, and any other as it is (R67, steps 5 and 6). -/
def Share.withShare (m : Int) (l : List Share) (p : Share) : Share :=
  if p.role = .unfixed then
    { p with heat := sharedHeat m l p, mass := sharedMass (sharedHeat m l p) p.ncv }
  else p

theorem giveShares_eq (m : Int) {l : List Share} (h : InOrder l) : giveShares m l = l.map (Share.withShare m l) := by
  refine List.map_congr_left fun p hp => ?_
  unfold Share.withShare
  by_cases unfixed : p.role = .unfixed
  · have heat := shareHeat_eq m h (mem_unfixedOf.mpr ⟨hp, unfixed⟩)
    rw [if_pos unfixed, if_pos ((Share.unfixed_iff p).mpr unfixed), heat, massOf_eq]
  · rw [if_neg unfixed, if_neg (mt (Share.unfixed_iff p).mp unfixed)]

@[simp] theorem Share.withShare_role (m : Int) (l : List Share) (p : Share) : (p.withShare m l).role = p.role := by
  unfold Share.withShare; split <;> rfl

@[simp] theorem Share.withShare_idx (m : Int) (l : List Share) (p : Share) : (p.withShare m l).idx = p.idx := by
  unfold Share.withShare; split <;> rfl

@[simp] theorem Share.withShare_weight (m : Int) (l : List Share) (p : Share) :
    (p.withShare m l).weight = p.weight := by
  unfold Share.withShare; split <;> rfl

@[simp] theorem Share.withShare_rank (m : Int) (l : List Share) (p : Share) : (p.withShare m l).rank = p.rank := by
  unfold Share.withShare; split <;> rfl

theorem Share.withShare_fixed (m : Int) (l : List Share) {p : Share} (fixed : p.role ≠ .unfixed) :
    p.withShare m l = p := if_neg fixed

theorem Share.withShare_unfixed (m : Int) (l : List Share) {p : Share} (unfixed : p.role = .unfixed) :
    p.withShare m l = { p with heat := sharedHeat m l p, mass := sharedMass (sharedHeat m l p) p.ncv } := if_pos unfixed

/-- The shares of a pass leave the UNFIXED parts UNFIXED. -/
theorem unfixedOf_map_withShare (m : Int) (l : List Share) :
    unfixedOf (l.map (Share.withShare m l)) = (unfixedOf l).map (Share.withShare m l) := by
  simp [unfixedOf, List.filter_map, Function.comp_def]

theorem heatLeft_map_withShare (e : Nat) (m : Int) (l : List Share) :
    heatLeft e (l.map (Share.withShare m l)) = heatLeft e l := by
  have fixed : (l.map (Share.withShare m l)).filter (fun p => p.role ≠ .unfixed) =
      l.filter fun p => p.role ≠ .unfixed := by
    simp only [List.filter_map, Function.comp_def, Share.withShare_role]
    refine (List.map_congr_left fun p hp => ?_).trans (List.map_id _)
    exact Share.withShare_fixed m l (by simpa using (List.mem_filter.mp hp).2)
  rw [heatLeft, heatLeft, fixed]

/-- Shares reckoned over the parts that have been given them are the same shares: they rest on weights and ranks. -/
theorem sharedHeat_map_withShare (m : Int) (l : List Share) (p : Share) :
    sharedHeat m (l.map (Share.withShare m l)) (p.withShare m l) = sharedHeat m l p := by
  have floored (q : Share) :
      flooredShare m (l.map (Share.withShare m l)) (q.withShare m l) = flooredShare m l q := by
    simp [flooredShare, unfixedOf_map_withShare, Function.comp_def]
  simp only [sharedHeat, unfixedOf_map_withShare, floored, List.forall_mem_map, List.map_map, Function.comp_def,
    Share.withShare_rank, Share.withShare_idx]

/-- The shares of the UNFIXED parts add up to the remaining heat: what the floors leave goes to the one receiver (R67,
step 5). -/
theorem sum_sharedHeat (m : Int) {l : List Share} (h : InOrder l) (free : unfixedOf l ≠ []) :
    ((unfixedOf l).map (sharedHeat m l)).sum = m := by
  obtain ⟨b, mem, receives, -⟩ := receiver_eq h free
  have nodup : ((unfixedOf l).map Share.idx).Nodup := ((inOrder_iff _).mp h.unfixed).imp fun lt => ne_of_lt lt
  have split : (unfixedOf l).map (sharedHeat m l) =
      (unfixedOf l).map fun p => flooredShare m l p + if p.idx = b.idx then remainder m l else 0 := by
    refine List.map_congr_left fun p hp => ?_
    rw [← shareHeat_eq m h hp, shareHeat, floorShare_eq, receives]
    simp only [Option.some_inj, eq_comm]
  have once : ((unfixedOf l).map fun p => if p.idx = b.idx then remainder m l else 0).sum = remainder m l := by
    have counted := List.sum_map_ite_eq ((unfixedOf l).map Share.idx) (fun _ => remainder m l) (fun _ => 0) b.idx
    rw [List.count_eq_one_of_mem nodup (List.mem_map_of_mem mem)] at counted
    simpa [Function.comp_def] using counted
  rw [split, List.sum_map_add, once, remainder_eq]
  ring

/-- With the shares given, the heats of all parts add up to the effective demand (R67, step 9). -/
theorem sum_heat_withShare (e : Nat) {l : List Share} (h : InOrder l) (free : unfixedOf l ≠ []) :
    ((l.map (Share.withShare (heatLeft e l) l)).map Share.heat).sum = (e : Int) := by
  have heats : (l.map (Share.withShare (heatLeft e l) l)).map Share.heat =
      l.map fun p => if p.role = .unfixed then sharedHeat (heatLeft e l) l p else p.heat := by
    rw [List.map_map]
    refine List.map_congr_left fun p _ => ?_
    unfold Share.withShare
    rw [Function.comp_apply]
    split <;> rfl
  have shares := sum_sharedHeat (heatLeft e l) h free
  rw [unfixedOf] at shares
  rw [heats, List.sum_map_ite, shares, heatLeft]
  ring

end Sys2Proof.Machine
end

section
/-! PROOFS. The passes of a computation: one pass by the nine steps of R67, what a pass that does not end it does, how it
ends, and what the parts carry through to the end (R65 to R68). -/

namespace Sys2Proof.Machine

/-! ### One pass -/

/-- The parts with the shares of a pass given (R67, steps 5 and 6). -/
def sharedOut (e : Nat) (l : List Share) : List Share := l.map (Share.withShare (heatLeft e l) l)

/-- One pass, step by step (R67). -/
theorem runPasses_succ (e fuel k : Nat) {l : List Share} (h : InOrder l) :
    runPasses e (fuel + 1) k l =
      if unfixedOf l = [] then ⟨l, k + 1, heatLeft e l, false⟩
      else if ((unfixedOf l).map Share.weight).sum = 0 then
        runPasses e fuel (k + 1) (l.map fun p => if p.unfixed then p.fixMin else p)
      else if ∃ p ∈ sharedOut e l, p.above = true then
        runPasses e fuel (k + 1) ((sharedOut e l).map fun p => if p.above then p.fixMax else p)
      else if ∃ p ∈ sharedOut e l, p.below = true then
        runPasses e fuel (k + 1) ((sharedOut e l).map fun p => if p.below then p.fixMin else p)
      else ⟨sharedOut e l, k + 1, heatLeft e l, true⟩ := by
  have none : (l.all fun p => !p.unfixed) = true ↔ unfixedOf l = [] := by
    simp [unfixedOf_eq, List.filter_eq_nil_iff]
  have shares : giveShares (heatLeft e l) l = sharedOut e l := giveShares_eq _ h
  simp only [runPasses, none, remainingHeat_eq, weightSum_eq, shares, List.any_eq_true]

/-- A pass that does not end the computation: of the parts, as they stand or with their shares given, it fixes some
UNFIXED ones, each at one of its flow limits (R67, steps 4, 7 and 8). -/
inductive Pass (e : Nat) (l : List Share) : List Share → Prop
  | fix {g : List Share} {c : Share → Bool} {f : Share → Share} (given : g = l ∨ g = sharedOut e l)
      (limit : f = Share.fixMin ∨ f = Share.fixMax) (unfixed : ∀ p, c p = true → p.unfixed = true)
      (some : ∃ p ∈ g, c p = true) : Pass e l (g.map fun p => if c p then f p else p)

/-- How a computation ends after a pass on parts `l`: none of them is UNFIXED, or none of the shares given lies outside
the flow limits (R67, steps 2 and 9). -/
inductive Ends (e k : Nat) (l : List Share) : Allocation → Prop
  | spent (none : unfixedOf l = []) : Ends e k l ⟨l, k + 1, heatLeft e l, false⟩
  | placed (free : unfixedOf l ≠ []) (above : ∀ p ∈ sharedOut e l, p.above = false)
      (below : ∀ p ∈ sharedOut e l, p.below = false) : Ends e k l ⟨sharedOut e l, k + 1, heatLeft e l, true⟩

/-- Everything one pass can do (R67). -/
theorem runPasses_pass_or_end (e k : Nat) {l : List Share} (h : InOrder l) :
    (∃ l', Pass e l l' ∧ ∀ fuel, runPasses e (fuel + 1) k l = runPasses e fuel (k + 1) l') ∨
      ∃ a, Ends e k l a ∧ ∀ fuel, runPasses e (fuel + 1) k l = a := by
  have pass (fuel : Nat) := runPasses_succ e fuel k h
  by_cases none : unfixedOf l = []
  · exact .inr ⟨_, .spent none, fun fuel => (pass fuel).trans (if_pos none)⟩
  simp only [if_neg none] at pass
  by_cases weights : ((unfixedOf l).map Share.weight).sum = 0
  · simp only [if_pos weights] at pass
    have some : ∃ p ∈ l, p.unfixed = true := by
      obtain ⟨p, hp⟩ := List.exists_mem_of_ne_nil _ none
      obtain ⟨mem, unfixed⟩ := mem_unfixedOf.mp hp
      exact ⟨p, mem, p.unfixed_iff.mpr unfixed⟩
    exact .inl ⟨_, .fix (.inl rfl) (.inl rfl) (fun _ => id) some, pass⟩
  simp only [if_neg weights] at pass
  by_cases above : ∃ p ∈ sharedOut e l, p.above = true
  · simp only [if_pos above] at pass
    exact .inl ⟨_, .fix (.inr rfl) (.inr rfl) (fun p hp => (Bool.and_eq_true_iff.mp hp).1) above, pass⟩
  simp only [if_neg above] at pass
  by_cases below : ∃ p ∈ sharedOut e l, p.below = true
  · simp only [if_pos below] at pass
    exact .inl ⟨_, .fix (.inr rfl) (.inl rfl) (fun p hp => (Bool.and_eq_true_iff.mp hp).1) below, pass⟩
  simp only [if_neg below] at pass
  exact .inr ⟨_, .placed none (by simpa using above) (by simpa using below), pass⟩

/-! ### What passes keep, and that they end -/

theorem unfixedOf_sharedOut_length (e : Nat) (l : List Share) :
    (unfixedOf (sharedOut e l)).length = (unfixedOf l).length := by
  rw [sharedOut, unfixedOf_map_withShare, List.length_map]

theorem partIndices_sharedOut (e : Nat) (l : List Share) : partIndices (sharedOut e l) = partIndices l :=
  partIndices_map fun p => p.withShare_idx _ _

/-- A pass that does not end the computation leaves fewer UNFIXED parts. -/
theorem Pass.fewer {e : Nat} {l l' : List Share} (h : Pass e l l') : (unfixedOf l').length < (unfixedOf l).length := by
  obtain ⟨given, limit, unfixed, p, mem, chosen⟩ := h
  rename_i g c f
  have same : (unfixedOf g).length = (unfixedOf l).length := by
    obtain rfl | rfl := given
    · rfl
    · exact unfixedOf_sharedOut_length e l
  have fixed (p : Share) : (f p).unfixed = false := by obtain rfl | rfl := limit <;> rfl
  have left : ((unfixedOf (g.map fun p => if c p then f p else p))).length =
      ((unfixedOf g).filter fun p => !c p).length := by
    rw [unfixedOf_eq, unfixedOf_eq, List.filter_map, List.length_map, List.filter_filter]
    congr 1
    refine List.filter_congr fun p _ => ?_
    cases hc : c p <;> simp [hc, fixed]
  rw [← same, left, List.length_filter_lt_length_iff_exists]
  exact ⟨p, by rw [unfixedOf_eq, List.mem_filter]; exact ⟨mem, unfixed p chosen⟩, by simp [chosen]⟩

theorem Pass.partIndices {e : Nat} {l l' : List Share} (h : Pass e l l') :
    Machine.partIndices l' = Machine.partIndices l := by
  obtain ⟨given, limit, -, -⟩ := h
  rename_i g c f
  have idx (p : Share) : (if c p then f p else p).idx = p.idx := by
    split
    · obtain rfl | rfl := limit <;> rfl
    · rfl
  rw [partIndices_map idx]
  obtain rfl | rfl := given
  · rfl
  · exact partIndices_sharedOut e l

theorem Pass.inOrder {e : Nat} {l l' : List Share} (h : Pass e l l') (ordered : InOrder l) : InOrder l' := by
  rw [inOrder_iff, h.partIndices, ← inOrder_iff]
  exact ordered

/-- What holds of every part and of a part fixed at a flow limit or given a share holds after the shares. -/
theorem forall_sharedOut {P : Share → Prop} {e : Nat} {l : List Share} (h : ∀ p ∈ l, P p)
    (share : ∀ (p : Share) (heat mass : Int), p.role = .unfixed → P p → P { p with heat := heat, mass := mass }) :
    ∀ p ∈ sharedOut e l, P p := by
  intro q hq
  obtain ⟨p, mem, rfl⟩ := List.mem_map.mp hq
  unfold Share.withShare
  split
  case isTrue unfixed => exact share p _ _ unfixed (h p mem)
  case isFalse => exact h p mem

theorem Pass.forall {P : Share → Prop} {e : Nat} {l l' : List Share} (h : Pass e l l') (hl : ∀ p ∈ l, P p)
    (share : ∀ (p : Share) (heat mass : Int), p.role = .unfixed → P p → P { p with heat := heat, mass := mass })
    (fixMin : ∀ p, P p → P p.fixMin) (fixMax : ∀ p, P p → P p.fixMax) : ∀ p ∈ l', P p := by
  obtain ⟨given, limit, -, -⟩ := h
  rename_i g c f
  have hg : ∀ p ∈ g, P p := by
    obtain rfl | rfl := given
    · exact hl
    · exact forall_sharedOut hl share
  intro q hq
  obtain ⟨p, mem, rfl⟩ := List.mem_map.mp hq
  split
  · obtain rfl | rfl := limit
    · exact fixMin p (hg p mem)
    · exact fixMax p (hg p mem)
  · exact hg p mem

/-- With more passes at hand than UNFIXED parts the computation ends. -/
theorem runPasses_ends (e : Nat) {fuel : Nat} (k : Nat) {l : List Share} (h : InOrder l)
    (enough : (unfixedOf l).length < fuel) :
    ∃ l' k', Relation.ReflTransGen (Pass e) l l' ∧ Ends e k' l' (runPasses e fuel k l) := by
  induction fuel generalizing k l with
  | zero => omega
  | succ fuel ih =>
    obtain ⟨l', pass, next⟩ | ⟨a, ends, last⟩ := runPasses_pass_or_end e k h
    · have fewer := pass.fewer
      obtain ⟨l'', k', passes, ends⟩ := ih (k + 1) (pass.inOrder h) (by omega)
      exact ⟨l'', k', .head pass passes, next fuel ▸ ends⟩
    · exact ⟨l, k, .refl, last fuel ▸ ends⟩

theorem runPasses_passes_le (e fuel k : Nat) {l : List Share} (h : InOrder l) :
    (runPasses e fuel k l).passes ≤ k + fuel := by
  induction fuel generalizing k l with
  | zero => exact le_refl k
  | succ fuel ih =>
    obtain ⟨l', pass, next⟩ | ⟨a, ends, last⟩ := runPasses_pass_or_end e k h
    · rw [next]
      have bound := ih (k + 1) (pass.inOrder h)
      omega
    · rw [last]
      cases ends <;> dsimp only <;> omega

/-- More passes at hand change nothing once there are enough. -/
theorem runPasses_fuel (e k : Nat) {fuel more : Nat} {l : List Share} (h : InOrder l)
    (enough : (unfixedOf l).length < fuel) (le : (unfixedOf l).length < more) :
    runPasses e fuel k l = runPasses e more k l := by
  induction fuel generalizing more k l with
  | zero => omega
  | succ fuel ih =>
    obtain ⟨more, rfl⟩ := Nat.exists_eq_add_one_of_ne_zero (Nat.ne_of_gt (Nat.zero_lt_of_lt le))
    obtain ⟨l', pass, next⟩ | ⟨a, ends, last⟩ := runPasses_pass_or_end e k h
    · have fewer := pass.fewer
      rw [next fuel, next more]
      exact ih (k + 1) (pass.inOrder h) (by omega) (by omega)
    · rw [last, last]

/-! ### The opening -/

/-- The part a stream takes at the opening, in the words of the claims (R65). -/
theorem Stream.share_eq (i : Fin 8) (x : Stream) : x.share i = openingPart i x := by
  unfold Stream.share openingPart
  cases state : x.state <;> simp [Plan.heatNcv, heatOf_eq]

theorem openingPart_idx {i : Fin 8} {x : Stream} {p : Share} (h : openingPart i x = some p) : p.idx = i := by
  rw [← Stream.share_eq] at h
  exact (Stream.share_fits h).1

/-- A part is UNFIXED at the opening, or fixed at its stream's output (R65, R66). -/
theorem openingPart_role {i : Fin 8} {x : Stream} {p : Share} (h : openingPart i x = some p) :
    p.role = .unfixed ∨ p.role = .fixedStart ∧ p.heat = fixedHeat x.output p.ncv ∧ p.mass = x.output := by
  unfold openingPart at h
  split at h
  · cases h
    exact .inl rfl
  · split at h <;> cases h
    exact .inr ⟨rfl, rfl, rfl⟩

theorem openShares_inOrder (x : Site) (v : Vector Stream 8) : InOrder (openShares x v) := by
  have ordered : all8.Pairwise (· < ·) := by decide
  refine ordered.filterMap _ fun i j lt p hp q hq => ?_
  have own {i : Fin 8} {p : Share} (h : (if v[i].limits.site = x then v[i].share i else none) = some p) : p.idx = i := by
    split at h
    · exact (Stream.share_fits h).1
    · cases h
  rw [own hp, own hq]
  exact lt

theorem openShares_length_le (x : Site) (v : Vector Stream 8) : (openShares x v).length ≤ 8 :=
  List.length_filterMap_le _ all8

theorem unfixedOf_length_le (l : List Share) : (unfixedOf l).length ≤ l.length := List.length_filter_le _ l

/-- A computation comes to its end by passes from the parts of the opening (R65, R67). -/
theorem State.allocation_ends (x : Site) (s : State) :
    ∃ l k, Relation.ReflTransGen (Pass (s.siteRec x).effective) (openShares x s.streams) l ∧
      Ends (s.siteRec x).effective k l (s.allocation x) :=
  runPasses_ends _ 0 (openShares_inOrder x s.streams) (Nat.lt_succ_of_le (unfixedOf_length_le _))

/-! ### What a part carries -/

/-- A part of a computation on `s`: that of its stream at the opening but for role, heat and mass, and where it is fixed,
heat and mass those of its role (R65, R66). -/
structure PartOpened (s : State) (p : Share) : Prop where
  opened : ∃ o, openingPart p.idx (s.stream p.idx) = some o ∧ p = { o with role := p.role, heat := p.heat, mass := p.mass }
  start : p.role = .fixedStart →
    p.heat = fixedHeat (s.stream p.idx).output p.ncv ∧ p.mass = (s.stream p.idx).output
  max : p.role = .fixedMax → p.heat = fixedHeat p.max p.ncv ∧ p.mass = p.max
  min : p.role = .fixedMin → p.heat = fixedHeat p.min p.ncv ∧ p.mass = p.min

theorem PartOpened.rerole {s : State} {p : Share} (h : PartOpened s p) (role : Role) (heat mass : Int) :
    ∃ o, openingPart p.idx (s.stream p.idx) = some o ∧
      { p with role := role, heat := heat, mass := mass } = { o with role := role, heat := heat, mass := mass } := by
  obtain ⟨o, opening, same⟩ := h.opened
  exact ⟨o, opening, by rw [same]⟩

theorem PartOpened.share {s : State} (p : Share) (heat mass : Int) (unfixed : p.role = .unfixed)
    (h : PartOpened s p) : PartOpened s { p with heat := heat, mass := mass } where
  opened := h.rerole p.role heat mass
  start fixed := by simp [unfixed] at fixed
  max fixed := by simp [unfixed] at fixed
  min fixed := by simp [unfixed] at fixed

theorem PartOpened.fixMin {s : State} (p : Share) (h : PartOpened s p) : PartOpened s p.fixMin where
  opened := h.rerole _ _ _
  start := nofun
  max := nofun
  min _ := ⟨heatOf_eq _ _, rfl⟩

theorem PartOpened.fixMax {s : State} (p : Share) (h : PartOpened s p) : PartOpened s p.fixMax where
  opened := h.rerole _ _ _
  start := nofun
  max _ := ⟨heatOf_eq _ _, rfl⟩
  min := nofun

theorem openShares_opened (x : Site) (s : State) : ∀ p ∈ openShares x s.streams, PartOpened s p := by
  intro p mem
  have opening : openingPart p.idx (s.stream p.idx) = some p := by
    rw [← Stream.share_eq]
    exact (mem_openShares.mp mem).2
  obtain role | ⟨role, fixed⟩ := openingPart_role opening
  · exact ⟨⟨p, opening, rfl⟩, by simp [role], by simp [role], by simp [role]⟩
  · exact ⟨⟨p, opening, rfl⟩, fun _ => fixed, by simp [role], by simp [role]⟩

/-- Passes keep the stream order of the parts and what the parts carry. -/
theorem passes_keep {e : Nat} {s : State} {l l' : List Share} (h : Relation.ReflTransGen (Pass e) l l')
    (ordered : InOrder l) (opened : ∀ p ∈ l, PartOpened s p) : InOrder l' ∧ ∀ p ∈ l', PartOpened s p := by
  induction h with
  | refl => exact ⟨ordered, opened⟩
  | tail _ pass ih =>
    exact ⟨pass.inOrder ih.1, pass.forall ih.2 PartOpened.share PartOpened.fixMin PartOpened.fixMax⟩

/-- The last pass of a computation, on parts that stand for the streams of the opening (R65 to R67). -/
theorem State.allocation_last_pass (x : Site) (s : State) :
    ∃ l k, InOrder l ∧ (∀ p ∈ l, PartOpened s p) ∧ Ends (s.siteRec x).effective k l (s.allocation x) := by
  obtain ⟨l, k, passes, ends⟩ := s.allocation_ends x
  obtain ⟨ordered, opened⟩ := passes_keep passes (openShares_inOrder x s.streams) (openShares_opened x s)
  exact ⟨l, k, ordered, opened, ends⟩

/-! ### How a computation ends -/

/-- The remaining heat with no part UNFIXED (R68). -/
theorem heatLeft_of_spent {e : Nat} {l : List Share} (none : unfixedOf l = []) :
    heatLeft e l = e - (l.map Share.heat).sum := by
  have all : (l.filter fun p => p.role ≠ .unfixed) = l :=
    List.filter_eq_self.mpr fun p mem => decide_eq_true (unfixedOf_eq_nil.mp none p mem)
  rw [heatLeft, all]

theorem Share.mass_le_max {p : Share} (unfixed : p.role = .unfixed) (h : p.above = false) : p.mass ≤ p.max := by
  simpa [Share.above, p.unfixed_iff.mpr unfixed] using h

theorem Share.min_le_mass {p : Share} (unfixed : p.role = .unfixed) (h : p.below = false) : p.min ≤ p.mass := by
  simpa [Share.below, p.unfixed_iff.mpr unfixed] using h

/-- A computation that reached a final pass (R67, step 9; R68). -/
theorem Ends.final {e k : Nat} {l : List Share} {a : Allocation} (h : Ends e k l a) (ordered : InOrder l)
    (final : a.final = true) :
    (a.parts.map Share.heat).sum = (e : Int) ∧ a.unplaced = 0 ∧
      ∀ p ∈ a.parts, p.role = .unfixed → (p.min : Int) ≤ p.mass ∧ p.mass ≤ (p.max : Int) := by
  cases h with
  | spent => cases final
  | placed free above below =>
    exact ⟨sum_heat_withShare e ordered free, rfl, fun p mem unfixed =>
      ⟨Share.min_le_mass unfixed (below p mem), Share.mass_le_max unfixed (above p mem)⟩⟩

/-- A computation that ended without a final pass (R67, step 2; R68). -/
theorem Ends.spent_of_not_final {e k : Nat} {l : List Share} {a : Allocation} (h : Ends e k l a)
    (final : a.final = false) :
    a.unplaced = (e : Int) - (a.parts.map Share.heat).sum ∧ ∀ p ∈ a.parts, p.role ≠ .unfixed := by
  cases h with
  | spent none => exact ⟨heatLeft_of_spent none, unfixedOf_eq_nil.mp none⟩
  | placed => cases final

/-- The M of the last pass is that of the parts it leaves. -/
theorem Ends.lastM {e k : Nat} {l : List Share} {a : Allocation} (h : Ends e k l a) :
    a.lastM = heatLeft e a.parts := by
  cases h with
  | spent => rfl
  | placed => exact (heatLeft_map_withShare e _ l).symm

theorem Ends.opened {e k : Nat} {s : State} {l : List Share} {a : Allocation} (h : Ends e k l a)
    (opened : ∀ p ∈ l, PartOpened s p) : ∀ p ∈ a.parts, PartOpened s p := by
  cases h with
  | spent => exact opened
  | placed => exact forall_sharedOut opened PartOpened.share

/-- A part that is UNFIXED at the end has the share of the last pass (R67, steps 5 and 6). -/
theorem Ends.shared {e k : Nat} {l : List Share} {a : Allocation} (h : Ends e k l a) {p : Share} (mem : p ∈ a.parts)
    (unfixed : p.role = .unfixed) : p.heat = sharedHeat a.lastM a.parts p ∧ p.mass = sharedMass p.heat p.ncv := by
  cases h with
  | spent none => exact absurd unfixed (unfixedOf_eq_nil.mp none p mem)
  | placed =>
    obtain ⟨q, -, rfl⟩ := List.mem_map.mp mem
    rw [Share.withShare_role] at unfixed
    dsimp only [sharedOut]
    rw [sharedHeat_map_withShare, Share.withShare_unfixed _ _ unfixed]
    exact ⟨rfl, rfl⟩

/-! ### The computation -/

/-- One pass, step by step, in the words of the claims (R66, R67). -/
theorem runPasses_succ_eq (e fuel k : Nat) {l : List Share} (h : InOrder l) :
    runPasses e (fuel + 1) k l =
      if unfixedOf l = [] then ⟨l, k + 1, heatLeft e l, false⟩
      else if ((unfixedOf l).map Share.weight).sum = 0 then
        runPasses e fuel (k + 1) (l.map fun p =>
          if p.role = .unfixed then { p with role := .fixedMin, heat := fixedHeat p.min p.ncv, mass := p.min } else p)
      else if ∃ p ∈ sharedOut e l, p.above = true then
        runPasses e fuel (k + 1) ((sharedOut e l).map fun p =>
          if p.above = true then { p with role := .fixedMax, heat := fixedHeat p.max p.ncv, mass := p.max } else p)
      else if ∃ p ∈ sharedOut e l, p.below = true then
        runPasses e fuel (k + 1) ((sharedOut e l).map fun p =>
          if p.below = true then { p with role := .fixedMin, heat := fixedHeat p.min p.ncv, mass := p.min } else p)
      else ⟨sharedOut e l, k + 1, heatLeft e l, true⟩ := by
  rw [runPasses_succ e fuel k h]
  simp only [Share.fixMin_eq, Share.fixMax_eq, Share.unfixed_iff]

theorem Share.above_eq (p : Share) : p.above = decide (p.role = .unfixed ∧ (p.max : Int) < p.mass) := by
  simp [Share.above, Share.unfixed, beq_eq_decide]

theorem Share.below_eq (p : Share) : p.below = decide (p.role = .unfixed ∧ p.mass < (p.min : Int)) := by
  simp [Share.below, Share.unfixed, beq_eq_decide]

/-- Settles O30: how a computation ends and what its parts carry by its last pass, the opening, and one pass by the steps
of R67. -/
theorem allocationPlacesDemand : Obligations.AllocationPlacesDemand := by
  refine ⟨fun x s => ⟨?passes, fun final => ?final, fun final => ?spent⟩, fun x s a allocated => ?parts,
    fun x s l opening => ⟨?opening, fun fuel enough => ?enough⟩,
    fun e fuel k l g m above below next ordered hm hg habove hbelow hnext => ?pass⟩
  case passes =>
    have bound := runPasses_passes_le (s.siteRec x).effective ((openShares x s.streams).length + 1) 0
      (openShares_inOrder x s.streams)
    have few := openShares_length_le x s.streams
    rw [State.allocation, allocate]
    omega
  case final =>
    obtain ⟨l, k, ordered, -, ends⟩ := s.allocation_last_pass x
    exact ends.final ordered final
  case spent =>
    obtain ⟨l, k, -, -, ends⟩ := s.allocation_last_pass x
    exact ends.spent_of_not_final final
  case parts =>
    obtain ⟨l, k, -, opened, ends⟩ := s.allocation_last_pass x
    rw [← allocated] at ends
    refine ⟨ends.lastM, fun p mem => ?_⟩
    obtain ⟨⟨o, opening, same⟩, start, max, min⟩ := ends.opened opened p mem
    refine ⟨by simp [opening], fun o' opening' => ?_, start, max, min, ends.shared mem⟩
    rw [opening] at opening'
    exact Option.some.inj opening' ▸ same
  case opening =>
    rw [opening, openShares]
    exact List.filterMap_congr fun i _ => by rw [Stream.share_eq]; rfl
  case enough =>
    rw [opening] at enough ⊢
    have le := unfixedOf_length_le (openShares x s.streams)
    exact runPasses_fuel _ 0 (openShares_inOrder x s.streams) (by omega) (by omega)
  case pass =>
    obtain rfl : g = sharedOut e l := by rw [hg, hm]; rfl
    obtain rfl : above = Share.above := habove.trans (funext fun p => p.above_eq.symm)
    obtain rfl : below = Share.below := hbelow.trans (funext fun p => p.below_eq.symm)
    rw [runPasses_succ_eq e fuel k ordered, ← hm] at hnext
    refine ⟨fun none => ?_, fun free unweighted => ?_, fun weights => ?_⟩
    · rw [hnext, if_pos none]
    · rw [hnext, if_neg free, if_pos unweighted]
    have free : unfixedOf l ≠ [] := fun none => weights (by simp [none])
    rw [if_neg free, if_neg weights] at hnext
    refine ⟨fun some => ?_, fun noneAbove some => ?_, fun noneAbove noneBelow => ?_⟩
    · rw [hnext, if_pos some]
    · rw [hnext, if_neg (by simpa using noneAbove), if_pos some]
    · rw [hnext, if_neg (by simpa using noneAbove), if_neg (by simpa using noneBelow)]

end Sys2Proof.Machine
end

section
/-! PROOFS. Feed measurement: what a mass pulse counts, what a period close books, and what its supervision makes of the
counters, of the deviation condition and of the no-flow report (R77 to R85, R88). -/

namespace Sys2Proof.Machine

/-! ### The report of the deviation condition -/

/-- The three ends of a report: a raise, a clear, or nothing (R83, R84). -/
theorem reportDeviation_eq (i : Fin 8) (before after : Bool) (s : State) :
    reportDeviation i before after s =
      if before = false ∧ after = true then raiseAlarm ⟨.streamDeviation i, .p2, none⟩ s
      else if before = true ∧ after = false then clearAlarm (.streamDeviation i) s else s := by
  cases before <;> cases after <;> rfl

@[simp] theorem reportDeviation_mass (i : Fin 8) (before after : Bool) (s : State) :
    (reportDeviation i before after s).su.shift.mass = s.su.shift.mass := by
  cases before <;> cases after <;> rfl

@[simp] theorem reportDeviation_heat (i : Fin 8) (before after : Bool) (s : State) :
    (reportDeviation i before after s).su.shift.heat = s.su.shift.heat := by
  cases before <;> cases after <;> rfl

/-! ### The books of a period close -/

/-- The mass totals after a close (R79, R166). -/
theorem periodClose_mass (s : State) (i : Fin 8) :
    (periodClose s i).su.shift.mass =
      s.su.shift.mass.set i
        (min 18446744073709551615 (s.su.shift.mass[i] + (s.stream i).pulses * (s.stream i).plan.pulseWeight)) :=
  reportDeviation_mass ..

/-- The heat totals after a close; an absent NCV books no heat (R79, R166). -/
theorem periodClose_heat (s : State) (i : Fin 8) :
    (periodClose s i).su.shift.heat =
      s.su.shift.heat.set i
        (min 18446744073709551615
          (s.su.shift.heat[i] +
            (s.stream i).pulses * (s.stream i).plan.pulseWeight * (s.stream i).plan.ncv.getD 0)) :=
  reportDeviation_heat ..

/-- A period close whole: its stream and the open shift rewritten, and then its report (R78). -/
theorem periodClose_eq (s : State) (i : Fin 8) :
    periodClose s i =
      reportDeviation i (s.stream i).devCond ((periodClose s i).stream i).devCond
        { s with
          streams := s.streams.set i ((periodClose s i).stream i)
          su :=
            { s.su with
              shift :=
                { s.su.shift with
                  mass := (periodClose s i).su.shift.mass, heat := (periodClose s i).su.shift.heat } } } := by
  rw [periodClose_mass, periodClose_heat, periodClose_stream, if_pos rfl]
  rfl

/-! ### The window of a period close -/

theorem joinRing_of_length_lt {ring : List WindowEntry} (e : WindowEntry) (h : ring.length < 8) :
    joinRing ring e = ring ++ [e] := by
  rw [joinRing, if_neg (by omega)]

theorem joinRing_of_length_eq {ring : List WindowEntry} (e : WindowEntry) (h : ring.length = 8) :
    joinRing ring e = ring.tail ++ [e] := by
  rw [joinRing, if_pos (by omega), h, List.drop_one]

/-- The firing states in which the window fills (R82). -/
theorem Stream.nextFill_eq (x : Stream) :
    x.nextFill =
      if x.state = .firing ∨ x.state = .held ∨ x.state = .calib ∨ x.state = .stopping then min 8 (x.fill + 1)
      else x.fill := by
  unfold Stream.nextFill
  cases x.state <;> rfl

@[simp] theorem Stream.closed_pulses (ms : Nat) (x : Stream) : (x.closed ms).pulses = 0 := rfl

@[simp] theorem Stream.closed_ring (ms : Nat) (x : Stream) :
    (x.closed ms).ring = joinRing x.ring ⟨x.pulses, x.output⟩ := by rw [Stream.closed_frame]

@[simp] theorem Stream.closed_fill (ms : Nat) (x : Stream) : (x.closed ms).fill = x.nextFill := by
  rw [Stream.closed_frame]

@[simp] theorem Stream.closed_state (ms : Nat) (x : Stream) : (x.closed ms).state = x.state := by
  rw [Stream.closed_frame]

@[simp] theorem Stream.closed_output (ms : Nat) (x : Stream) : (x.closed ms).output = x.output := by
  rw [Stream.closed_frame]

/-- Supervision keeps the flow that the close has reckoned (R81). -/
@[simp] theorem Stream.closed_flow (ms : Nat) (x : Stream) :
    (x.closed ms).flow = measuredFlow (joinRing x.ring ⟨x.pulses, x.output⟩) x.plan.pulseWeight ms := by
  unfold Stream.closed
  rw [Stream.supervise_frame]
  rfl

/-! ### Pulses counted and booked -/

/-- A pulse on a stream: its count, and that of an OPEN record (R77, R88). -/
theorem exec_massPulse (i : Fin 8) (s : State) :
    exec (.massPulse i) s =
      .next (s.modStream i fun x =>
        { x with pulses := satAdd 65535 x.pulses 1, cal := x.cal.map CalRecord.count }) := rfl

/-- Settles O33: a pulse counted, the books and the window of a period close, and a period close whole. -/
theorem pulsesCountedAndBooked : Obligations.PulsesCountedAndBooked := by
  refine ⟨fun s i => ?pulse,
    fun s i => ⟨fun j other => ⟨?otherStream, ?otherMass, ?otherHeat⟩, ?mass, fun v ncv => ?heat, fun ncv => ?noHeat,
      ?window⟩,
    fun s w i x y hx hy hw => ?whole⟩
  case pulse =>
    rw [exec_massPulse]
    congr 2
    funext x
    congr 1
    cases x.cal <;> rfl
  case otherStream => rw [periodClose_stream, if_neg other]
  case otherMass =>
    rw [periodClose_mass]
    exact Vector.getElem_set_ne _ _ fun same => other (Fin.ext same.symm)
  case otherHeat =>
    rw [periodClose_heat]
    exact Vector.getElem_set_ne _ _ fun same => other (Fin.ext same.symm)
  case mass =>
    rw [periodClose_mass]
    exact Vector.getElem_set_self _
  case heat =>
    rw [periodClose_heat, ncv, Option.getD_some]
    exact Vector.getElem_set_self _
  case noHeat =>
    rw [periodClose_heat, ncv, Option.getD_none, Nat.mul_zero, Nat.add_zero]
    exact Vector.getElem_set_self _
  case window =>
    rw [periodClose_stream, if_pos rfl, Stream.closed_ring, Stream.closed_flow, Stream.closed_fill, Stream.nextFill_eq]
    exact ⟨joinRing_of_length_lt _, joinRing_of_length_eq _, rfl, rfl, rfl, Stream.closed_state _ _,
      Stream.closed_output _ _⟩
  case whole =>
    have closed : y = x.closed s.period.ms := by rw [hy, periodClose_stream, if_pos rfl, hx]
    have reported : periodClose s i = reportDeviation i x.devCond y.devCond w := by
      rw [hw, hy, hx, ← periodClose_mass, ← periodClose_heat]
      exact periodClose_eq s i
    rw [reportDeviation_eq] at reported
    refine ⟨?frame, fun same => ?_, fun off on => ?_, fun on off => ?_⟩
    case frame =>
      rw [closed, Stream.closed_ring, Stream.closed_fill]
      exact x.closed_frame s.period.ms
    · simpa [same] using reported
    · simpa [off, on] using reported
    · simpa [on, off] using reported

/-! ### Supervision -/

theorem distance_eq_max_sub_min (a b : Nat) : distance a b = max a b - min a b := by
  unfold distance
  omega

theorem Stream.supervised_iff (x : Stream) :
    x.supervised = true ↔ (x.state = .firing ∨ x.state = .held) ∧ x.fill = 8 := by
  simp [Stream.supervised]

theorem Stream.outOfBand_iff (x : Stream) :
    x.outOfBand = true ↔
      x.averageSetpoint * x.plan.band <
        (max x.flow x.averageSetpoint - min x.flow x.averageSetpoint) * 100 := by
  rw [Stream.outOfBand, distance_eq_max_sub_min, decide_eq_true_iff]

theorem Stream.shortOfFlow_iff (x : Stream) : x.shortOfFlow = true ↔ x.flow < x.averageSetpoint / 10 :=
  decide_eq_true_iff

/-- The delivery goes on out of band: the count rises, or brings the condition on (R84). -/
theorem Stream.deviation_strays {x : Stream} (inactive : x.devCond = false) (out : x.outOfBand = true) :
    x.deviation =
      if x.plan.devCount ≤ min 60 (x.devCounter + 1) then { x with devCond := true, devCounter := 0, retCounter := 0 }
      else { x with devCounter := min 60 (x.devCounter + 1) } := by
  simp [Stream.deviation, satAdd, inactive, out]

theorem Stream.deviation_keepsBand {x : Stream} (inactive : x.devCond = false) (within : x.outOfBand = false) :
    x.deviation = { x with devCounter := 0 } := by
  simp [Stream.deviation, inactive, within]

theorem Stream.deviation_staysOut {x : Stream} (active : x.devCond = true) (out : x.outOfBand = true) :
    x.deviation = { x with retCounter := 0 } := by
  simp [Stream.deviation, active, out]

/-- The delivery is back in band: the fourth such close ends the condition (R84). -/
theorem Stream.deviation_returns {x : Stream} (active : x.devCond = true) (within : x.outOfBand = false) :
    x.deviation =
      if x.retCounter = 3 then { x with devCond := false, devCounter := 0, retCounter := 0 }
      else { x with retCounter := x.retCounter + 1 } := by
  simp [Stream.deviation, active, within]

/-- The no-flow count (R85). -/
theorem Stream.noFlow_short {x : Stream} (short : x.shortOfFlow = true) :
    x.noFlow =
      if x.limits.noFlowCount ≤ min 60 (x.noFlowCounter + 1) then { x with noFlowCounter := 0, noFlowDue := true }
      else { x with noFlowCounter := min 60 (x.noFlowCounter + 1) } := by
  simp [Stream.noFlow, satAdd, short]

theorem Stream.noFlow_flowing {x : Stream} (flowing : x.shortOfFlow = false) :
    x.noFlow = { x with noFlowCounter := 0 } := by
  simp [Stream.noFlow, flowing]

/-- The deviation touches nothing that the no-flow count reads or writes (R84, R85). -/
theorem Stream.noFlow_deviation (x : Stream) :
    x.deviation.noFlow =
      { x.deviation with noFlowCounter := x.noFlow.noFlowCounter, noFlowDue := x.noFlow.noFlowDue } := by
  have frame : ∃ c r d, x.deviation = { x with devCounter := c, retCounter := r, devCond := d } := by
    unfold Stream.deviation
    repeat' split
    all_goals exact ⟨_, _, _, rfl⟩
  obtain ⟨c, r, d, frame⟩ := frame
  have short : Stream.shortOfFlow { x with devCounter := c, retCounter := r, devCond := d } = x.shortOfFlow := rfl
  rw [frame]
  unfold Stream.noFlow
  rw [short]
  repeat' split
  all_goals rfl

/-- A close under supervision: the deviation and the no-flow count, each from the stream that the close found (R83). -/
theorem Stream.supervise_of_supervised {x : Stream} (h : x.supervised = true) :
    x.supervise =
      { x.deviation with noFlowCounter := x.noFlow.noFlowCounter, noFlowDue := x.noFlow.noFlowDue } := by
  rw [Stream.supervise, if_pos h, Stream.noFlow_deviation]

/-- Settles O34: the counters and conditions after a close outside supervision and under it, and the report made. -/
theorem periodCloseSupervises : Obligations.PeriodCloseSupervises := by
  intro s w i x y a hx hy hw ha
  have closed : y = x.closed s.period.ms := by rw [hy, periodClose_stream, if_pos rfl, hx]
  -- `z` is the stream that the supervision reads: after steps 2 to 4 of the close (R78).
  obtain ⟨z, hz⟩ : ∃ z, z = x.closeWindow s.period.ms := ⟨_, rfl⟩
  have supervise : y = { z.supervise with pulses := 0 } := by rw [closed, hz]; rfl
  have average : a = z.averageSetpoint := by rw [ha, closed, Stream.closed_ring, hz]; rfl
  have flow : y.flow = z.flow := by rw [closed, Stream.closed_flow, hz]; rfl
  have supervised : z.supervised = true ↔ (x.state = .firing ∨ x.state = .held) ∧ y.fill = 8 := by
    rw [Stream.supervised_iff, closed, Stream.closed_fill, hz]; rfl
  have out : z.outOfBand = true ↔ a * x.plan.band < (max y.flow a - min y.flow a) * 100 := by
    rw [Stream.outOfBand_iff, ← average, flow, hz]; rfl
  have short : z.shortOfFlow = true ↔ y.flow < a / 10 := by rw [Stream.shortOfFlow_iff, ← average, flow]
  obtain ⟨devCond, devCounter, retCounter, noFlowCounter, noFlowDue, devCount, noFlowCount⟩ :
      x.devCond = z.devCond ∧ x.devCounter = z.devCounter ∧ x.retCounter = z.retCounter ∧
        x.noFlowCounter = z.noFlowCounter ∧ x.noFlowDue = z.noFlowDue ∧ x.plan.devCount = z.plan.devCount ∧
        x.limits.noFlowCount = z.limits.noFlowCount := by
    rw [hz]; exact ⟨rfl, rfl, rfl, rfl, rfl, rfl, rfl⟩
  rw [devCond, devCounter, retCounter, noFlowCounter, noFlowDue, devCount, noFlowCount]
  refine ⟨fun outside => ?outside, fun under => ⟨fun off stray => ?strays, fun off near => ?keepsBand,
    fun on stray => ?staysOut, fun on near => ?returns, fun little => ?short, fun enough => ?flowing⟩, ?report⟩
  case report =>
    rw [← reportDeviation_eq, ← devCond, hw, hy, hx]
    exact periodClose_eq s i
  case outside =>
    rw [supervise, Stream.supervise, if_neg (mt supervised.mp outside)]
    exact ⟨rfl, rfl, rfl, rfl, rfl⟩
  all_goals rw [supervise, Stream.supervise_of_supervised (supervised.mpr under)]
  case strays =>
    rw [Stream.deviation_strays off (out.mpr stray)]
    refine ⟨fun reached => ?_, fun before => ?_⟩
    · rw [if_pos reached]; exact ⟨rfl, rfl, rfl⟩
    · rw [if_neg before.not_ge]; exact ⟨off, rfl⟩
  case keepsBand =>
    rw [Stream.deviation_keepsBand off (Bool.eq_false_iff.mpr (mt out.mp near.not_gt))]
    exact ⟨off, rfl⟩
  case staysOut =>
    rw [Stream.deviation_staysOut on (out.mpr stray)]
    exact ⟨on, rfl⟩
  case returns =>
    rw [Stream.deviation_returns on (Bool.eq_false_iff.mpr (mt out.mp near.not_gt))]
    refine ⟨fun fourth => ?_, fun early => ?_⟩
    · rw [if_pos fourth]; exact ⟨rfl, rfl, rfl⟩
    · rw [if_neg early]; exact ⟨on, rfl⟩
  case short =>
    rw [Stream.noFlow_short (short.mpr little)]
    refine ⟨fun reached => ?_, fun before => ?_⟩
    · rw [if_pos reached]; exact ⟨rfl, rfl⟩
    · rw [if_neg before.not_ge]; exact ⟨rfl, rfl⟩
  case flowing =>
    rw [Stream.noFlow_flowing (Bool.eq_false_iff.mpr (mt short.mp enough.not_gt))]
    exact ⟨rfl, rfl⟩

end Sys2Proof.Machine
end

section
/-! PROOFS. The cutback sets: what entering and leaving ACTIVE do, what a fresh value does to a set by its state, how a
slot's news reach its watching sets in set order, and SET_CUTBACK (R99, R103 to R110). -/

namespace Sys2Proof.Machine

/-- A change of a cutback set is known by what it makes of that set as it stands. -/
theorem State.modSet_congr {k : Fin 4} {f g : CutSet → CutSet} {s : State} (h : f (s.cutSet k) = g (s.cutSet k)) :
    s.modSet k f = s.modSet k g := by
  simp only [State.cutSet] at h
  simp only [State.modSet, h]

/-! ### Entering and leaving ACTIVE -/

theorem CutSites.has_iff (c : CutSites) (x : Site) :
    c.has x = true ↔ c = .both ∨ (c = .main ∧ x = .main) ∨ (c = .calc ∧ x = .calc) := by
  cases c <;> cases x <;> decide

/-- The site record after a set's offer or its withdrawal, the named sites and the recomputation written out (R64). -/
theorem offerCut_siteRec_set (c : CutSites) (k : Fin 4) (v : Option Nat) (s : State) (x : Site) :
    (offerCut c (.set k) v s).siteRec x =
      if c = .both ∨ (c = .main ∧ x = .main) ∨ (c = .calc ∧ x = .calc) then
        SiteRec.recompute { s.siteRec x with setOffers := (s.siteRec x).setOffers.set k v }
      else s.siteRec x := by
  simp only [offerCut_siteRec, CutSites.has_iff]
  rfl

theorem activate_cutSet (k : Fin 4) (s : State) (j : Fin 4) :
    (activate k s).cutSet j =
      if j = k then { s.cutSet k with state := .active, timer := .stopped } else s.cutSet j := by
  rw [activate, offerCut_cutSet, raiseAlarm_cutSet, State.modSet_cutSet]

theorem deactivate_cutSet (k : Fin 4) (s : State) (j : Fin 4) :
    (deactivate k s).cutSet j =
      if j = k then { s.cutSet k with state := .idle, timer := .stopped } else s.cutSet j := by
  simp only [deactivate, State.modSet_cutSet, clearAlarm_cutSet, offerCut_cutSet]

theorem activate_siteRec (k : Fin 4) (s : State) (x : Site) :
    (activate k s).siteRec x = (offerCut (s.cutSet k).sites (.set k) (some (s.cutSet k).cut) s).siteRec x := by
  simp only [activate, offerCut_siteRec, raiseAlarm_siteRec, State.modSet_siteRec]

theorem deactivate_siteRec (k : Fin 4) (s : State) (x : Site) :
    (deactivate k s).siteRec x = (offerCut (s.cutSet k).sites (.set k) none s).siteRec x := by
  simp only [deactivate, State.modSet_siteRec, clearAlarm_siteRec]

/-- Besides the sites' records, entering ACTIVE is the raise on the rewritten set (R107). -/
theorem activate_frame (k : Fin 4) (s : State) :
    activate k s =
      { raiseAlarm (cutbackRaise k) (s.modSet k fun c => { c with state := .active, timer := .stopped }) with
        mainSite := (activate k s).mainSite, calcSite := (activate k s).calcSite } := rfl

/-- Besides the sites' records, leaving ACTIVE is the clear on the rewritten set (R108). -/
theorem deactivate_frame (k : Fin 4) (s : State) :
    deactivate k s =
      { clearAlarm (.cutback k) (s.modSet k fun c => { c with state := .idle, timer := .stopped }) with
        mainSite := (deactivate k s).mainSite, calcSite := (deactivate k s).calcSite } := rfl

theorem execDelayTimerExpiry_running {k : Fin 4} {s : State} {ms : Nat} (timing : (s.cutSet k).state = .timing)
    (running : (s.cutSet k).timer = .running ms) : execDelayTimerExpiry k s = .next (activate k s) := by
  simp only [execDelayTimerExpiry, timing, running]

theorem execDelayTimerExpiry_idle {k : Fin 4} {s : State}
    (h : (s.cutSet k).state ≠ .timing ∨ ∀ ms, (s.cutSet k).timer ≠ .running ms) :
    execDelayTimerExpiry k s = .next s := by
  unfold execDelayTimerExpiry
  split
  case h_1 ms timing running => exact absurd h (by simp [timing, running])
  case h_2 => rfl

/-- Settles O38: ACTIVE entered and left as updates of the state, and the running-out of the delay timer. -/
theorem cutIsOfferedWhileActive : Obligations.CutIsOfferedWhileActive := by
  rintro k s c rfl
  refine ⟨⟨?_, activate_frame k s, fun x => ?_⟩, ⟨?_, deactivate_frame k s, fun x => ?_⟩,
    fun ms => execDelayTimerExpiry_running, execDelayTimerExpiry_idle⟩
  · rw [activate_cutSet, if_pos rfl]
  · rw [activate_siteRec, offerCut_siteRec_set]
  · rw [deactivate_cutSet, if_pos rfl]
  · rw [deactivate_siteRec, offerCut_siteRec_set]

/-! ### A fresh value by the state of the set -/

theorem CutSet.condition_iff (c : CutSet) (v : Int) :
    c.condition v = true ↔ (c.sense = .above ∧ c.threshold < v) ∨ (c.sense = .below ∧ v < c.threshold) := by
  unfold CutSet.condition
  cases c.sense <;> simp

theorem CutSet.released_iff (c : CutSet) (v : Int) :
    c.released v = true ↔
      (c.sense = .above ∧ v < c.threshold - c.hysteresis) ∨
        (c.sense = .below ∧ c.threshold + c.hysteresis < v) := by
  unfold CutSet.released CutSet.releasePoint
  cases c.sense <;> simp

theorem freshValue_disabled (v : Int) {k : Fin 4} {s : State} (disabled : (s.cutSet k).state = .disabled) :
    freshValue v k s = s := by
  simp only [freshValue, disabled]

theorem freshValue_idle (v : Int) {k : Fin 4} {s : State} (idle : (s.cutSet k).state = .idle) :
    freshValue v k s = testIdle k v s := by
  simp only [freshValue, idle]

theorem freshValue_timing (v : Int) {k : Fin 4} {s : State} (timing : (s.cutSet k).state = .timing) :
    freshValue v k s =
      if (s.cutSet k).condition v then s.modSet k fun c => { c with timer := c.timer.resumed }
      else s.modSet k fun c => { c with state := .idle, timer := .stopped } := by
  simp only [freshValue, timing]

theorem freshValue_active (v : Int) {k : Fin 4} {s : State} (active : (s.cutSet k).state = .active) :
    freshValue v k s = if (s.cutSet k).released v then deactivate k s else s := by
  simp only [freshValue, active]

/-- A timer that is resumed or goes on leaves its set as it was but for that. -/
theorem modSet_resumed {k : Fin 4} {s : State} {ms : Nat} (running : (s.cutSet k).timer = .running ms) :
    (s.modSet k fun c => { c with timer := c.timer.resumed }) = s := by
  have same : { s.cutSet k with timer := (s.cutSet k).timer.resumed } = s.cutSet k := by
    rw [running, DelayTimer.resumed, ← running]
  simp only [State.cutSet] at same
  simp only [State.modSet, same]
  simp

/-! ### News handed to the sets in set order -/

/-- A step that acts on one set at a time, by that set and the slots alone. -/
structure ActsOnOwnSet (f : State → Fin 4 → State) : Prop where
  slots : ∀ s k, (f s k).slots = s.slots
  other : ∀ s {k j}, j ≠ k → (f s k).cutSet j = s.cutSet j
  own : ∀ {s t k}, s.slots = t.slots → s.cutSet k = t.cutSet k → (f s k).cutSet k = (f t k).cutSet k

/-- The state once the first `m` sets have had their turn. -/
def handed (f : State → Fin 4 → State) (s : State) (m : Nat) : State := (all4.take m).foldl f s

theorem handed_succ (f : State → Fin 4 → State) (s : State) (k : Fin 4) :
    handed f s (k.val + 1) = f (handed f s k.val) k := by
  have next : all4.take (k.val + 1) = all4.take k.val ++ [k] := by revert k; decide
  rw [handed, next, List.foldl_append]
  rfl

namespace ActsOnOwnSet

theorem foldl {f : State → Fin 4 → State} (h : ActsOnOwnSet f) (l : List (Fin 4)) (s : State) :
    (l.foldl f s).slots = s.slots ∧ ∀ j ∉ l, (l.foldl f s).cutSet j = s.cutSet j := by
  induction l generalizing s with
  | nil => exact ⟨rfl, fun j _ => rfl⟩
  | cons k l ih =>
    obtain ⟨slots, others⟩ := ih (f s k)
    refine ⟨slots.trans (h.slots s k), fun j fresh => ?_⟩
    obtain ⟨other, fresh⟩ := not_or.mp (List.mem_cons.not.mp fresh)
    exact (others j fresh).trans (h.other s other)

theorem handed_slots {f : State → Fin 4 → State} (h : ActsOnOwnSet f) (s : State) (m : Nat) :
    (handed f s m).slots = s.slots :=
  (h.foldl _ s).1

/-- A set is as it was until its own turn. -/
theorem handed_before {f : State → Fin 4 → State} (h : ActsOnOwnSet f) (s : State) (k : Fin 4) :
    (handed f s k.val).cutSet k = s.cutSet k :=
  (h.foldl _ s).2 k (by revert k; decide)

/-- After all turns a set is as its own turn alone would have left it. -/
theorem handed_cutSet {f : State → Fin 4 → State} (h : ActsOnOwnSet f) (s : State) (k : Fin 4) :
    (handed f s 4).cutSet k = (f s k).cutSet k := by
  have past : k ∉ all4.drop (k.val + 1) := by revert k; decide
  have whole : handed f s 4 = (all4.drop (k.val + 1)).foldl f (handed f s (k.val + 1)) := by
    rw [handed, handed, ← List.foldl_append, List.take_append_drop]
    rfl
  rw [whole, (h.foldl _ _).2 k past, handed_succ, h.own (h.handed_slots s _) (h.handed_before s k)]

end ActsOnOwnSet

theorem CutSet.watches_iff (c : CutSet) (n : Fin 8) : c.watches n = true ↔ c.enable = true ∧ c.slot = n := by
  simp [CutSet.watches]

theorem CutSet.watches_eq_false {c : CutSet} {n : Fin 8} (h : c.enable = false ∨ c.slot ≠ n) : c.watches n = false := by
  rw [Bool.eq_false_iff, ne_eq, c.watches_iff, not_and_or]
  exact h.imp_left fun off => by simp [off]

/-- A fresh value reaches its own set, and of the others and the slots nothing. -/
theorem freshValue_actsOnOwnSet (v : Int) : ActsOnOwnSet fun s k => freshValue v k s where
  slots s k := by
    unfold freshValue testIdle
    repeat' split
    all_goals rfl
  other s k j other := by
    unfold freshValue testIdle
    repeat' split
    all_goals simp [activate_cutSet, deactivate_cutSet, other]
  own {s t k} _ same := by
    unfold freshValue testIdle
    rw [same]
    repeat' split
    all_goals simp [activate_cutSet, deactivate_cutSet, same]

/-- The turn of one set when a slot has a fresh value (R99, step 5). -/
def freshTurn (n : Fin 8) (s : State) (k : Fin 4) : State :=
  if (s.cutSet k).watches n then freshValue (s.slot n).value k s else s

theorem freshTurn_actsOnOwnSet (n : Fin 8) : ActsOnOwnSet (freshTurn n) where
  slots s k := by
    unfold freshTurn
    split
    · exact (freshValue_actsOnOwnSet _).slots s k
    · rfl
  other s k j other := by
    unfold freshTurn
    split
    · exact (freshValue_actsOnOwnSet _).other s other
    · rfl
  own {s t k} slots same := by
    have value : (s.slot n).value = (t.slot n).value := by rw [State.slot, slots]; rfl
    unfold freshTurn
    rw [same, value]
    split
    · exact (freshValue_actsOnOwnSet _).own slots same
    · exact same

theorem handFresh_eq_handed (n : Fin 8) (s : State) : handFresh n s = handed (freshTurn n) s 4 := rfl

theorem freshTurn_watching {n : Fin 8} {s : State} {k : Fin 4} (h : (s.cutSet k).enable = true)
    (slot : (s.cutSet k).slot = n) : freshTurn n s k = freshValue (s.slot n).value k s :=
  if_pos ((CutSet.watches_iff _ n).mpr ⟨h, slot⟩)

theorem freshTurn_unwatching {n : Fin 8} {s : State} {k : Fin 4}
    (h : (s.cutSet k).enable = false ∨ (s.cutSet k).slot ≠ n) : freshTurn n s k = s :=
  if_neg (by simp [CutSet.watches_eq_false h])

/-- Settles O37: a fresh value by the state of its set, and then each set at its own turn. -/
theorem freshValueActsBySetState : Obligations.FreshValueActsBySetState := by
  refine ⟨?byState, fun n s k => ⟨fun unwatching => ?unwatching, fun ⟨enabled, slot⟩ => ?watching, ?slots,
    handed (freshTurn n) s, rfl, rfl, fun j => ⟨fun enabled slot => ?turn, fun unwatching => ?noTurn⟩⟩⟩
  case byState =>
    rintro v k s c met past rfl hmet hpast
    rw [← CutSet.condition_iff] at hmet
    rw [← CutSet.released_iff] at hpast
    rw [hmet, hpast]
    refine ⟨freshValue_disabled v, fun idle unmet => ?_, fun idle met now => ?_, fun idle met later => ?_,
      fun timing unmet => ?_, fun ms timing met frozen => ?_, fun ms timing met running => ?_,
      fun active held => ?_, fun active past => ?_⟩
    · rw [freshValue_idle v idle, testIdle, if_neg unmet]
    · rw [freshValue_idle v idle, testIdle, if_pos met, if_pos now]
    · rw [freshValue_idle v idle, testIdle, if_pos met, if_neg later]
      rfl
    · rw [freshValue_timing v timing, if_neg unmet]
      rfl
    · rw [freshValue_timing v timing, if_pos met]
      exact State.modSet_congr (by rw [frozen, DelayTimer.resumed])
    · rw [freshValue_timing v timing, if_pos met, modSet_resumed running]
    · rw [freshValue_active v active, if_neg held]
    · rw [freshValue_active v active, if_pos past]
  case unwatching => rw [handFresh_eq_handed, (freshTurn_actsOnOwnSet n).handed_cutSet, freshTurn_unwatching unwatching]
  case watching => rw [handFresh_eq_handed, (freshTurn_actsOnOwnSet n).handed_cutSet, freshTurn_watching enabled slot]
  case slots => exact (freshTurn_actsOnOwnSet n).handed_slots s 4
  case turn =>
    have value : (handed (freshTurn n) s j.val).slot n = s.slot n := by
      rw [State.slot, (freshTurn_actsOnOwnSet n).handed_slots]; rfl
    rw [← (freshTurn_actsOnOwnSet n).handed_before s j] at enabled slot
    rw [handed_succ, freshTurn_watching enabled slot, value]
  case noTurn =>
    rw [← (freshTurn_actsOnOwnSet n).handed_before s j] at unwatching
    rw [handed_succ, freshTurn_unwatching unwatching]

/-! ### SET_CUTBACK -/

theorem onOffOf_eq_some {v : Nat} {b : Bool} : onOffOf v = some b ↔ v = b.toNat := by
  unfold onOffOf
  split <;> cases b <;> simp_all

theorem cutSenseOf_eq_some {v : Nat} {x : CutSense} : cutSenseOf v = some x ↔ v = cutSenseByte x := by
  unfold cutSenseOf
  split <;> cases x <;> simp_all [cutSenseByte]

theorem cutSitesOf_eq_some {v : Nat} {x : CutSites} : cutSitesOf v = some x ↔ v = cutSitesByte x := by
  unfold cutSitesOf
  split <;> cases x <;> simp_all [cutSitesByte]

theorem cutSetOf_iff {b : List Byte} {n : Fin 8} {c : CutSet} : cutSetOf b n = some c ↔
    u8 b 1 = c.enable.toNat ∧ c.slot = n ∧ u8 b 3 = cutSenseByte c.sense ∧ c.threshold = s16 b 4 ∧
    c.hysteresis = u16 b 6 ∧ c.delay = u8 b 8 ∧ u8 b 9 = cutSitesByte c.sites ∧ c.cut = u8 b 10 ∧
    c.hysteresis ≤ 10000 ∧ c.delay ≤ 60 ∧ c.cut ≤ 50 ∧ c.timer = .stopped ∧
    c.state = (if c.enable = true then .idle else .disabled) := by
  constructor
  · intro h
    unfold cutSetOf at h
    split at h
    case h_2 => cases h
    case h_1 enable sense sites henable hsense hsites =>
      split at h <;> cases h
      case isTrue.refl ranges =>
        simp only [Bool.and_eq_true, decide_eq_true_eq] at ranges
        obtain ⟨⟨hysteresis, delay⟩, cut⟩ := ranges
        exact ⟨onOffOf_eq_some.mp henable, rfl, cutSenseOf_eq_some.mp hsense, rfl, rfl, rfl,
          cutSitesOf_eq_some.mp hsites, rfl, hysteresis, delay, cut, rfl, rfl⟩
  · obtain ⟨enable, slot, sense, threshold, hysteresis, delay, sites, cut, state, timer⟩ := c
    rintro ⟨henable, rfl, hsense, rfl, rfl, rfl, hsites, rfl, hysteresis, delay, cut, rfl, state⟩
    have enable := onOffOf_eq_some.mpr henable
    have sense := cutSenseOf_eq_some.mpr hsense
    have sites := cutSitesOf_eq_some.mpr hsites
    simpa [cutSetOf, enable, sense, sites, hysteresis, delay, cut] using state.symm

theorem execSetCutback_sent {r : Request} {s : State} (h : Sent [.proc] 11 r s) :
    exec (.setCutback r) s =
      .next (settleReply .proc 0x2D#8 (openRequest r s) (setCutback r.body (openRequest r s))) := by
  have taken : exec (.setCutback r) s = _ := takeRequest_of_sent (row := Cmd.setCutback) h (by decide) (by decide)
  rw [taken, List.mem_singleton.mp h.link]
  rfl

/-- Above 3 no cutback set has the number. -/
theorem index4_none {v : Nat} (h : 3 < v) : index4 v = none := by
  simp [index4, Nat.not_lt.mpr h]

theorem setCutback_badIndex {b : List Byte} (s : State) (h : 3 < u8 b 0 ∨ 7 < u8 b 2) :
    setCutback b s = .refuse .badIndex := by
  obtain set | slot := h
  · simp only [setCutback, index4_none set]
  · rw [setCutback, index8_none slot]
    cases index4 (u8 b 0) <;> rfl

theorem setCutback_range {b : List Byte} {k : Fin 4} {n : Fin 8} (s : State) (set : u8 b 0 = k.val)
    (slot : u8 b 2 = n.val) (fields : cutSetOf b n = none) : setCutback b s = .refuse .range := by
  simp only [setCutback, set, slot, index4_val, index8_val, fields]

theorem setCutback_taken {b : List Byte} {k : Fin 4} {n : Fin 8} {c : CutSet} (s : State) (set : u8 b 0 = k.val)
    (slot : u8 b 2 = n.val) (fields : cutSetOf b n = some c) :
    setCutback b s =
      .done (rewriteSet k c s) (be8 k.val ++ be8 (setStateByte ((rewriteSet k c s).cutSet k).state)) := by
  simp only [setCutback, set, slot, index4_val, index8_val, fields]

/-- The test at once of an enabled set is the fresh value's, since the rewritten set is IDLE (R105, R106). -/
theorem rewriteSet_eq (k : Fin 4) {c : CutSet} (s : State) (h : c.Rewritten) :
    rewriteSet k c s =
      if c.enable = true ∧ (s.slot c.slot).isStale = false then
        freshValue (s.slot c.slot).value k
          ((if (s.cutSet k).state = .active then deactivate k s else s).modSet k fun _ => c)
      else (if (s.cutSet k).state = .active then deactivate k s else s).modSet k fun _ => c := by
  refine if_ctx_congr Iff.rfl (fun tested => (freshValue_idle _ ?_).symm) fun _ => rfl
  rw [State.modSet_cutSet_self, h.state, if_pos tested.1]

/-- Settles O39: the body by `cutSetOf_iff`, then the checks in their order; the set taken is `rewriteSet`. -/
theorem setCutbackRewritesSet : Obligations.SetCutbackRewritesSet := by
  refine ⟨fun b n c => cutSetOf_iff, fun r s h => ⟨fun foreign => ?badIndex, fun k n set slot =>
    ⟨fun unfit => ?range, fun c fields => ?taken⟩⟩⟩
  case badIndex => rw [execSetCutback_sent h, setCutback_badIndex _ foreign, settleReply_refuse]
  case range => rw [execSetCutback_sent h, setCutback_range _ set slot unfit, settleReply_refuse]
  case taken =>
    obtain ⟨-, hslot, -, threshold, hysteresis, delay, -, cut, -, -, -, timer, state⟩ := cutSetOf_iff.mp fields
    refine ⟨hslot, timer, state, threshold, hysteresis, delay, cut, _, _, _, rfl, rfl, rfl, ?_⟩
    rw [execSetCutback_sent h, setCutback_taken _ set slot fields, settleReply_done,
      rewriteSet_eq k _ (cutSetOf_rewritten fields), hslot, openRequest_slot, openRequest_cutSet]

end Sys2Proof.Machine
end

section
/-! PROOFS. The measurement slots: PUT_MEAS, SET_MEAS_CONFIG and the running-out of a stale timer, with what each hands
to the watching sets (R98 to R100, R109). -/

namespace Sys2Proof.Machine

/-- A change of a slot is known by what it makes of that slot as it stands. -/
theorem State.modSlot_congr {n : Fin 8} {f g : Slot → Slot} {s : State} (h : f (s.slot n) = g (s.slot n)) :
    s.modSlot n f = s.modSlot n g := by
  simp only [State.slot] at h
  simp only [State.modSlot, h]

/-! ### PUT_MEAS -/

theorem execPutMeas_sent {r : Request} {s : State} (h : Sent [.proc] 3 r s) :
    exec (.putMeas r) s = .next (settleReply .proc 0x2B#8 (openRequest r s) (putMeas r.body (openRequest r s))) := by
  have taken : exec (.putMeas r) s = _ := takeRequest_of_sent (row := Cmd.putMeas) h (by decide) (by decide)
  rw [taken, List.mem_singleton.mp h.link]
  rfl

theorem putMeas_of {b : List Byte} {n : Fin 8} (s : State) (index : u8 b 0 = n.val) :
    putMeas b s =
      .take
        (handFresh n
          (if (s.slot n).alarm = true then
            clearAlarm (.measStale n) (s.modSlot n fun x =>
              { x with
                value := clampInt x.low x.high (s16 b 1), timer := some (x.staleTime * 1000), isStale := false
                alarm := false })
           else s.modSlot n fun x =>
              { x with
                value := clampInt x.low x.high (s16 b 1), timer := some (x.staleTime * 1000), isStale := false }))
        (if clampInt (s.slot n).low (s.slot n).high (s16 b 1) = s16 b 1 then .ok else .okClamped)
        (be8 n.val ++ beS16 (clampInt (s.slot n).low (s.slot n).high (s16 b 1)) ++ [0x00#8]) := by
  simp only [putMeas, index, index8_val]
  rfl

/-! ### SET_MEAS_CONFIG -/

theorem execSetMeasConfig_sent {r : Request} {s : State} (h : Sent [.proc] 6 r s) :
    exec (.setMeasConfig r) s =
      .next (settleReply .proc 0x2C#8 (openRequest r s) (setMeasConfig r.body (openRequest r s))) := by
  have taken : exec (.setMeasConfig r) s = _ :=
    takeRequest_of_sent (row := Cmd.setMeasConfig) h (by decide) (by decide)
  rw [taken, List.mem_singleton.mp h.link]
  rfl

theorem setMeasConfig_range {b : List Byte} {n : Fin 8} (s : State) (index : u8 b 0 = n.val)
    (h : s16 b 3 < s16 b 1 ∨ u8 b 5 < 2 ∨ 30 < u8 b 5) : setMeasConfig b s = .refuse .range := by
  simp only [setMeasConfig, index, index8_val]
  split
  case isTrue => rfl
  case isFalse ordered =>
    have outside : within 2 30 (u8 b 5) = false := by
      rw [Bool.eq_false_iff, ne_eq, within_iff]
      omega
    simp [outside]

theorem setMeasConfig_taken {b : List Byte} {n : Fin 8} {v : Int} {s : State} (index : u8 b 0 = n.val)
    (ordered : s16 b 1 ≤ s16 b 3) (low : 2 ≤ u8 b 5) (high : u8 b 5 ≤ 30)
    (hv : v = clampInt (s16 b 1) (s16 b 3) (s.slot n).value) :
    setMeasConfig b s =
      .take
        (if v ≠ (s.slot n).value ∧ (s.slot n).isStale = false then
          handFresh n (s.modSlot n (Slot.configured (s16 b 1) (s16 b 3) (u8 b 5)))
         else s.modSlot n (Slot.configured (s16 b 1) (s16 b 3) (u8 b 5)))
        (if v = (s.slot n).value then .ok else .okClamped) (be8 n.val ++ beS16 v) := by
  have time : within 2 30 (u8 b 5) = true := within_iff.mpr ⟨low, high⟩
  simp only [setMeasConfig, index, index8_val, if_neg (not_lt.mpr ordered), time, hv, Bool.not_true, Bool.false_eq_true,
    if_false]

/-! ### The stale timer -/

/-- The turn of one set when a slot has gone stale (R100, R109). -/
def staleTurn (n : Fin 8) (s : State) (k : Fin 4) : State :=
  if (s.cutSet k).watches n then s.modSet k fun c => { c with timer := c.timer.froze } else s

theorem handStale_eq_handed (n : Fin 8) (s : State) : handStale n s = handed (staleTurn n) s 4 := rfl

theorem staleTurn_frame (n : Fin 8) (s : State) (k : Fin 4) :
    staleTurn n s k = { s with sets := (staleTurn n s k).sets } := by
  unfold staleTurn
  split <;> rfl

theorem staleTurn_actsOnOwnSet (n : Fin 8) : ActsOnOwnSet (staleTurn n) where
  slots s k := by rw [staleTurn_frame]
  other s k j other := by
    unfold staleTurn
    split
    · exact State.modSet_cutSet_other _ _ _ _ other
    · rfl
  own {s t k} _ same := by
    unfold staleTurn
    rw [same]
    split
    · rw [State.modSet_cutSet_self, State.modSet_cutSet_self, same]
    · exact same

/-- A slot that has gone stale reaches the sets alone. -/
theorem handStale_frame (n : Fin 8) (s : State) : handStale n s = { s with sets := (handStale n s).sets } := by
  have turns (l : List (Fin 4)) : l.foldl (staleTurn n) s = { s with sets := (l.foldl (staleTurn n) s).sets } := by
    induction l generalizing s with
    | nil => rfl
    | cons k l ih =>
      rw [List.foldl_cons, ih, staleTurn_frame]
  exact turns all4

theorem handStale_slot (n m : Fin 8) (s : State) : (handStale n s).slot m = s.slot m := by
  rw [handStale_frame]
  rfl

/-- A set after its slot has gone stale: a running delay timer frozen where it watches (R109). -/
theorem handStale_cutSet (n : Fin 8) (s : State) (k : Fin 4) :
    (handStale n s).cutSet k =
      { s.cutSet k with
        timer :=
          match (s.cutSet k).timer with
          | .running ms =>
            if (s.cutSet k).enable = true ∧ (s.cutSet k).slot = n then .frozen ms else .running ms
          | other => other } := by
  rw [handStale_eq_handed, (staleTurn_actsOnOwnSet n).handed_cutSet, staleTurn]
  split
  case isTrue watching =>
    rw [State.modSet_cutSet_self]
    congr 1
    cases (s.cutSet k).timer with
    | running ms => exact (if_pos ((CutSet.watches_iff _ n).mp watching)).symm
    | stopped | frozen => rfl
  case isFalse unwatching =>
    rw [CutSet.watches_iff] at unwatching
    cases timer : (s.cutSet k).timer with
    | running ms => simp only [if_neg unwatching, ← timer]
    | stopped | frozen => simp only [← timer]

theorem execStaleTimerExpiry_running {n : Fin 8} {s : State} (running : (s.slot n).timer ≠ none) :
    execStaleTimerExpiry n s =
      .next (handStale n (raiseAlarm (staleRaise n)
        (s.modSlot n fun x => { x with isStale := true, timer := none, alarm := true }))) :=
  if_pos (Option.isSome_iff_ne_none.mpr running)

/-- Settles O36: PUT_MEAS and SET_MEAS_CONFIG by their checks, then the stale timer as the raise followed by the turns
of the sets. -/
theorem slotsTakeAndLoseValues : Obligations.SlotsTakeAndLoseValues := by
  refine ⟨⟨fun r s n v h index hv => ?put, fun r s h foreign => ?badIndex,
    fun r s n lo hi v h index hlo hhi hv => ⟨fun outside => ?range, fun ordered low high => ?configured⟩⟩,
    fun s n running => ?stale⟩
  case put =>
    rw [execPutMeas_sent h, putMeas_of _ index, settleReply_take, openRequest_slot, hv]
  case badIndex => rw [execPutMeas_sent h, putMeas_badIndex _ foreign, settleReply_refuse]
  case range =>
    rw [hlo, hhi] at outside
    rw [execSetMeasConfig_sent h, setMeasConfig_range _ index outside, settleReply_refuse]
  case configured =>
    rw [hlo, hhi, ← openRequest_slot r s n] at hv
    rw [hlo, hhi] at ordered ⊢
    refine ⟨_, rfl, ?_⟩
    have written : (openRequest r s).modSlot n (Slot.configured (s16 r.body 1) (s16 r.body 3) (u8 r.body 5)) =
        (openRequest r s).modSlot n fun x =>
          { x with low := s16 r.body 1, high := s16 r.body 3, staleTime := u8 r.body 5, value := v } :=
      State.modSlot_congr (by rw [Slot.configured, hv])
    rw [execSetMeasConfig_sent h, setMeasConfig_taken index ordered low high hv, settleReply_take, written,
      openRequest_slot]
  case stale =>
    refine ⟨_, execStaleTimerExpiry_running running, ?slot, fun m other => ?others, handStale_frame n _,
      fun k => handStale_cutSet n _ k, ?frame⟩
    case slot => rw [handStale_slot, raiseAlarm_slot, State.modSlot_slot_self]
    case others => rw [handStale_slot, raiseAlarm_slot, State.modSlot_slot_other _ _ _ _ other]
    case frame =>
      rw [handStale_frame]
      exact ⟨rfl, rfl, rfl, rfl, rfl⟩

end Sys2Proof.Machine
end

section
/-! PROOFS. The cooler by itself: each change of it that the manual knows leaves it sound (R114 to R125). -/

namespace Sys2Proof.Machine

/-! ### Sections -/

theorem Section.drive_sound {x : Section} (h : SectionSound x) (v : Nat) : SectionSound (x.drive v) where
  stall := by
    have stall := h.stall
    unfold Section.drive
    cases stalled : x.stalled with
    | true => simpa [stalled] using stall
    | false =>
      by_cases zero : v = 0
      · simp [zero]
      · by_cases rest : x.output = 0 <;> simp_all

theorem Section.stroke_sound {x : Section} (h : SectionSound x) : SectionSound x.stroke where
  stall := by
    have stall := h.stall
    unfold Section.stroke
    by_cases rest : x.output = 0
    · cases stalled : x.stalled <;> simp_all
    · simp [rest]

theorem Section.tick_sound {x : Section} (h : SectionSound x) : SectionSound x.tick where
  stall := by simpa [Section.tick, tickTimer] using h.stall

theorem Cooler.anyStalled_iff (c : Cooler) : c.anyStalled = true ↔ ∃ n : Fin 4, c.sections[n].stalled = true := by
  rw [Cooler.anyStalled, List.any_eq_true]
  constructor
  · rintro ⟨x, mem, hx⟩
    obtain ⟨n, bound, rfl⟩ := List.getElem_of_mem mem
    exact ⟨⟨n, by simpa using bound⟩, hx⟩
  · rintro ⟨n, hn⟩
    exact ⟨_, Vector.mem_toList_iff.mpr (Vector.getElem_mem n.isLt), hn⟩

theorem Cooler.anyStalled_congr {c d : Cooler} (h : ∀ n : Fin 4, d.sections[n].stalled = c.sections[n].stalled) :
    d.anyStalled = c.anyStalled := by
  rw [Bool.eq_iff_iff, Cooler.anyStalled_iff, Cooler.anyStalled_iff]
  simp only [h]

theorem Cooler.modSection_self (n : Fin 4) (f : Section → Section) (c : Cooler) :
    (c.modSection n f).sections[n] = f c.sections[n] := by simp [Cooler.modSection]

theorem Cooler.modSection_other {n m : Fin 4} (f : Section → Section) (c : Cooler) (h : m ≠ n) :
    (c.modSection n f).sections[m] = c.sections[m] := by
  simp [Cooler.modSection, Fin.val_ne_of_ne h.symm]

/-! ### A sound cooler in parts -/

/-- What a sound cooler keeps whatever its outputs are: its sections by themselves, the stall cause from the stalled
flags, no contact twice in the stop contacts set, and no pressure cause in MANUAL. -/
structure CoolerBase (c : Cooler) : Prop where
  sections : ∀ n : Fin 4, SectionSound c.sections[n]
  stallCause : c.stallCause = c.anyStalled
  stops : c.stopContacts.Nodup
  pressure : c.mode = .manual → c.pressureCause = false

/-- A sound cooler but for holdback: its outputs are 0 under the stop cause and otherwise, in MANUAL, the manual rates. -/
structure CoolerSettled (c : Cooler) : Prop extends CoolerBase c where
  stopped : c.stopCause = true → ∀ n : Fin 4, c.sections[n].output = 0
  manual : c.mode = .manual → c.stopCause = false → ∀ n : Fin 4, c.sections[n].output = c.sections[n].manual

/-- The cooler with holdback brought up to date (R125). -/
def Cooler.refreshed (c : Cooler) : Cooler := { c with holdback := c.anyCause }

theorem refreshHoldback_refreshed (s : State) : (refreshHoldback s).cooler = s.cooler.refreshed :=
  refreshHoldback_cooler s

theorem CoolerSound.settled {c : Cooler} (h : CoolerSound c) : CoolerSettled c :=
  { h with pressure := fun manual => (h.manual manual).1, manual := fun manual => (h.manual manual).2 }

theorem CoolerSettled.sound {c : Cooler} (h : CoolerSettled c) (holdback : c.holdback = c.anyCause) : CoolerSound c :=
  { h with holdback := holdback, manual := fun manual => ⟨h.pressure manual, h.manual manual⟩ }

theorem CoolerSettled.refreshed {c : Cooler} (h : CoolerSettled c) : CoolerSound c.refreshed :=
  { h with holdback := rfl, manual := fun manual => ⟨h.pressure manual, h.manual manual⟩ }

/-! ### Every output driven -/

/-- Every section driven, each to a rate of its own. -/
def Cooler.driveAll (v : Fin 4 → Nat) (c : Cooler) : Cooler :=
  { c with sections := mapSections (fun n x => x.drive (v n)) c.sections }

theorem Cooler.driveAll_section (v : Fin 4 → Nat) (c : Cooler) (n : Fin 4) :
    (c.driveAll v).sections[n] = c.sections[n].drive (v n) := mapSections_getElem _ _ n

theorem Cooler.halt_eq (c : Cooler) : c.halt = c.driveAll fun _ => 0 := rfl

theorem Cooler.runManual_eq (c : Cooler) : c.runManual = c.driveAll fun n => c.sections[n].manual := rfl

theorem Cooler.stopCause_iff (c : Cooler) : c.stopCause = true ↔ c.stopContacts ≠ [] := by simp [Cooler.stopCause]

theorem Cooler.driveAll_congr {v w : Fin 4 → Nat} (c : Cooler) (h : ∀ n, v n = w n) : c.driveAll v = c.driveAll w := by
  rw [funext h]

theorem Cooler.driveAll_output (v : Fin 4 → Nat) (c : Cooler) (n : Fin 4) :
    (c.driveAll v).sections[n].output = v n := by
  rw [Cooler.driveAll_section]
  rfl

/-- Each section is driven to its output, and the stall timer follows (R121). -/
theorem Cooler.driveAll_drivenTo (v : Fin 4 → Nat) (c : Cooler) (n : Fin 4) :
    DrivenTo (c.driveAll v).sections[n].output c.sections[n] (c.driveAll v).sections[n] := by
  rw [Cooler.driveAll_output, Cooler.driveAll_section]
  exact Section.drive_drivenTo _ _

theorem CoolerBase.driveAll {c : Cooler} (h : CoolerBase c) (v : Fin 4 → Nat) : CoolerBase (c.driveAll v) :=
  { h with
    sections := fun n => by
      rw [Cooler.driveAll_section]
      exact Section.drive_sound (h.sections n) (v n)
    stallCause := h.stallCause.trans (Cooler.anyStalled_congr fun n => by rw [Cooler.driveAll_section]; rfl).symm }

/-- The outputs at 0 under the stop cause (R124). -/
theorem CoolerBase.halt {c : Cooler} (h : CoolerBase c) (stop : c.stopCause = true) : CoolerSettled c.halt :=
  { h.driveAll fun _ => 0 with
    stopped := fun _ n => by
      rw [Cooler.halt_eq, Cooler.driveAll_section]
      rfl
    manual := fun _ free => absurd (stop.symm.trans free) (by decide) }

/-- The outputs at the manual rates without it (R115, R124). -/
theorem CoolerBase.runManual {c : Cooler} (h : CoolerBase c) (free : c.stopCause = false) :
    CoolerSettled c.runManual :=
  { h.driveAll fun n => c.sections[n].manual with
    stopped := fun stop => absurd (stop.symm.trans free) (by decide)
    manual := fun _ _ n => by
      rw [Cooler.runManual_eq, Cooler.driveAll_section]
      rfl }

/-- In AUTO without the stop cause any outputs will do. -/
theorem CoolerBase.auto {c : Cooler} (h : CoolerBase c) (auto : c.mode = .auto) (free : c.stopCause = false) :
    CoolerSettled c :=
  { h with
    stopped := fun stop => absurd (stop.symm.trans free) (by decide)
    manual := fun manual => absurd (manual.symm.trans auto) (by decide) }

/-! ### Settings and modes -/

theorem Cooler.configured_section (b : List Byte) (slot : Fin 8) (c : Cooler) (n : Fin 4) :
    (c.configured b slot).sections[n] = c.sections[n].configured b n := mapSections_getElem _ _ n

theorem Cooler.toManual_section (b : List Byte) (c : Cooler) (n : Fin 4) :
    (c.toManual b).sections[n] =
      { c.sections[n] with manual := clampNat c.sections[n].smin c.sections[n].smax (carriedRate b n) } :=
  mapSections_getElem _ _ n

theorem CoolerBase.configured {c : Cooler} (h : CoolerBase c) (b : List Byte) (slot : Fin 8) :
    CoolerBase (c.configured b slot) :=
  { h with
    sections := fun n => ⟨by rw [Cooler.configured_section]; exact (h.sections n).stall⟩
    stallCause := h.stallCause.trans (Cooler.anyStalled_congr fun n => by rw [Cooler.configured_section]; rfl).symm }

theorem CoolerBase.toManual {c : Cooler} (h : CoolerBase c) (b : List Byte) : CoolerBase (c.toManual b) :=
  { h with
    sections := fun n => ⟨by rw [Cooler.toManual_section]; exact (h.sections n).stall⟩
    stallCause := h.stallCause.trans (Cooler.anyStalled_congr fun n => by rw [Cooler.toManual_section]).symm
    pressure := fun _ => rfl }

theorem CoolerBase.refreshed {c : Cooler} (h : CoolerBase c) : CoolerBase c.refreshed := { h with }

/-- The outputs after new settings, as rates driven (R114). -/
theorem Cooler.fitOutputs_eq (c : Cooler) :
    c.fitOutputs = c.driveAll fun n =>
      if c.stopContacts ≠ [] then 0
      else if c.mode = .manual then c.sections[n].manual
      else min c.sections[n].output c.sections[n].smax := by
  unfold Cooler.fitOutputs
  split
  case isTrue stop => exact c.halt_eq.trans (c.driveAll_congr fun n => (if_pos (c.stopCause_iff.mp stop)).symm)
  case isFalse free =>
    have free := c.stopCause_iff.not.mp free
    split
    case h_1 manual => exact c.runManual_eq.trans (c.driveAll_congr fun n => by rw [if_neg free, if_pos manual])
    case h_2 auto =>
      exact c.driveAll_congr (v := fun n => min c.sections[n].output c.sections[n].smax) fun n => by
        rw [if_neg free, if_neg (by simp [auto])]

/-- The outputs in MANUAL, as rates driven (R115). -/
theorem Cooler.manualOutputs_eq (c : Cooler) :
    c.manualOutputs = c.driveAll fun n => if c.stopContacts ≠ [] then 0 else c.sections[n].manual := by
  unfold Cooler.manualOutputs
  split
  case isTrue stop => exact c.halt_eq.trans (c.driveAll_congr fun n => (if_pos (c.stopCause_iff.mp stop)).symm)
  case isFalse free =>
    exact c.runManual_eq.trans (c.driveAll_congr fun n => (if_neg (c.stopCause_iff.not.mp free)).symm)

/-- The outputs after new settings (R114). -/
theorem CoolerBase.fitOutputs {c : Cooler} (h : CoolerBase c) : CoolerSettled c.fitOutputs := by
  unfold Cooler.fitOutputs
  split
  case isTrue stop => exact h.halt stop
  case isFalse free =>
    have free : c.stopCause = false := Bool.eq_false_iff.mpr free
    split
    case h_1 manual => exact h.runManual free
    case h_2 auto => exact (h.driveAll fun n => min c.sections[n].output c.sections[n].smax).auto auto free

theorem CoolerBase.manualOutputs {c : Cooler} (h : CoolerBase c) : CoolerSettled c.manualOutputs := by
  unfold Cooler.manualOutputs
  split
  case isTrue stop => exact h.halt stop
  case isFalse free => exact h.runManual (Bool.eq_false_iff.mpr free)

theorem Cooler.fitOutputs_causes (c : Cooler) :
    c.fitOutputs.holdback = c.holdback ∧ c.fitOutputs.anyCause = c.anyCause := by
  rw [Cooler.fitOutputs_eq]
  exact ⟨rfl, rfl⟩

theorem Cooler.manualOutputs_causes (c : Cooler) :
    c.manualOutputs.holdback = c.holdback ∧ c.manualOutputs.anyCause = c.anyCause := by
  rw [Cooler.manualOutputs_eq]
  exact ⟨rfl, rfl⟩

/-! ### The cooler period -/

/-- The rates of an AUTO period with the slot fresh and without the stop cause (R116, R117). -/
def Cooler.autoRates (raw : Int) (c : Cooler) (n : Fin 4) : Nat :=
  match n with
  | 0 => c.sections[0].aimed raw
  | 1 => c.sections[1].following (c.sections[0].aimed raw) c.ratios[0]
  | 2 => c.sections[2].following (c.sections[0].aimed raw) c.ratios[1]
  | 3 => c.sections[3].following (c.sections[0].aimed raw) c.ratios[2]

theorem Cooler.autoOutputs_eq (raw : Int) (c : Cooler) : c.autoOutputs raw = c.driveAll (c.autoRates raw) := rfl

theorem Cooler.freshPeriod_stopped {c : Cooler} (p : Int) (stop : c.stopCause = true) :
    c.freshPeriod p = ({ c with lastRaw := rawRate c.settings p } : Cooler).halt := if_pos stop

theorem Cooler.freshPeriod_free {c : Cooler} (p : Int) (free : c.stopCause = false) :
    c.freshPeriod p =
      ({ c with lastRaw := rawRate c.settings p } : Cooler).driveAll (c.autoRates (rawRate c.settings p)) :=
  if_neg (by simp [free])

/-- An AUTO period with the slot stale (R118, R124). -/
theorem Cooler.stalePeriod_eq (c : Cooler) :
    c.stalePeriod = c.driveAll fun n =>
      if c.stopContacts ≠ [] then 0 else clampNat c.sections[n].smin c.sections[n].smax c.sections[n].output := by
  unfold Cooler.stalePeriod
  split
  case isTrue stop => exact c.halt_eq.trans (c.driveAll_congr fun n => (if_pos (c.stopCause_iff.mp stop)).symm)
  case isFalse free =>
    exact c.driveAll_congr (v := fun n => clampNat c.sections[n].smin c.sections[n].smax c.sections[n].output) fun n =>
      (if_neg (c.stopCause_iff.not.mp free)).symm

/-- An AUTO period with the slot fresh (R116, R117, R124). -/
theorem Cooler.freshPeriod_eq (p : Int) (c : Cooler) :
    c.freshPeriod p =
      ({ c with lastRaw := rawRate c.settings p } : Cooler).driveAll fun n =>
        if c.stopContacts ≠ [] then 0 else c.autoRates (rawRate c.settings p) n := by
  cases stop : c.stopCause with
  | true =>
    rw [Cooler.freshPeriod_stopped p stop, Cooler.halt_eq]
    exact Cooler.driveAll_congr _ fun n => (if_pos (c.stopCause_iff.mp stop)).symm
  | false =>
    rw [Cooler.freshPeriod_free p stop]
    exact Cooler.driveAll_congr _ fun n => (if_neg (c.stopCause_iff.not.mp (Bool.eq_false_iff.mp stop))).symm

theorem CoolerBase.stalePeriod {c : Cooler} (h : CoolerBase c) (auto : c.mode = .auto) :
    CoolerSettled c.stalePeriod := by
  unfold Cooler.stalePeriod
  split
  case isTrue stop => exact h.halt stop
  case isFalse free =>
    exact (h.driveAll fun n => clampNat c.sections[n].smin c.sections[n].smax c.sections[n].output).auto auto
      (Bool.eq_false_iff.mpr free)

theorem CoolerBase.freshPeriod {c : Cooler} (h : CoolerBase c) (p : Int) (auto : c.mode = .auto) :
    CoolerSettled (c.freshPeriod p) := by
  have stored : CoolerBase { c with lastRaw := rawRate c.settings p } := { h with }
  cases stop : c.stopCause with
  | true =>
    rw [Cooler.freshPeriod_stopped p stop]
    exact stored.halt stop
  | false =>
    rw [Cooler.freshPeriod_free p stop]
    exact (stored.driveAll _).auto auto stop

theorem Cooler.stalePeriod_causes (c : Cooler) :
    c.stalePeriod.holdback = c.holdback ∧ c.stalePeriod.anyCause = c.anyCause := by
  rw [Cooler.stalePeriod_eq]
  exact ⟨rfl, rfl⟩

/-- The pressure test touches its count and its cause alone (R122). -/
theorem Cooler.pressureTest_frame (p : Int) (c : Cooler) :
    c.pressureTest p =
      { c with
        pressureCause := (c.pressureTest p).pressureCause, pressureCount := (c.pressureTest p).pressureCount } := by
  unfold Cooler.pressureTest Cooler.entryTest
  repeat' split
  all_goals rfl

theorem CoolerSettled.pressureTest {c : Cooler} (h : CoolerSettled c) (p : Int) (auto : c.mode = .auto) :
    CoolerSettled (c.pressureTest p) := by
  rw [Cooler.pressureTest_frame]
  exact { h with pressure := fun manual => absurd (manual.symm.trans auto) (by decide) }

theorem Cooler.freshPeriod_mode (p : Int) (c : Cooler) : (c.freshPeriod p).mode = c.mode := by
  rw [Cooler.freshPeriod_eq]
  rfl

/-! ### Strokes and stalls -/

/-- A section changed in its stall supervision alone, with the stall cause brought up to date (R121, R123). -/
theorem CoolerSettled.modSection {c : Cooler} {n : Fin 4} {f : Section → Section} (h : CoolerSettled c)
    (sound : SectionSound (f c.sections[n])) (output : (f c.sections[n]).output = c.sections[n].output)
    (manual : (f c.sections[n]).manual = c.sections[n].manual) :
    CoolerSettled (c.modSection n f).refreshStall := by
  have section_eq (m : Fin 4) : (c.modSection n f).refreshStall.sections[m] =
      if m = n then f c.sections[n] else c.sections[m] := by
    split
    case isTrue own => subst own; exact Cooler.modSection_self m f c
    case isFalse other => exact Cooler.modSection_other f c other
  have outputs (m : Fin 4) : (c.modSection n f).refreshStall.sections[m].output = c.sections[m].output := by
    rw [section_eq]
    split
    case isTrue own => rw [own, output]
    case isFalse => rfl
  have manuals (m : Fin 4) : (c.modSection n f).refreshStall.sections[m].manual = c.sections[m].manual := by
    rw [section_eq]
    split
    case isTrue own => rw [own, manual]
    case isFalse => rfl
  exact
    { h with
      sections := fun m => by
        rw [section_eq]
        split
        · exact sound
        · exact h.sections m
      stallCause := rfl
      stopped := fun stop m => (outputs m).trans (h.stopped stop m)
      manual := fun mode free m => by rw [outputs, manuals]; exact h.manual mode free m }

/-- A stroke of a section that is not stalled leaves the stall cause as it is. -/
theorem Cooler.refreshStall_stroke {c : Cooler} {n : Fin 4} (h : c.stallCause = c.anyStalled)
    (free : c.sections[n].stalled = false) :
    (c.modSection n Section.stroke).refreshStall = c.modSection n Section.stroke := by
  have same : (c.modSection n Section.stroke).anyStalled = c.anyStalled := Cooler.anyStalled_congr fun m => by
    by_cases own : m = n
    · subst own; rw [Cooler.modSection_self, free]; rfl
    · rw [Cooler.modSection_other _ _ own]
  rw [Cooler.refreshStall, same, ← h]
  rfl

/-! ### One change of the cooler -/

/-- A section whose stall timer ran out: the flag set, the timer stopped (R121). -/
def Section.stallNow (x : Section) : Section := { x with stalled := true, stall := none }

/-- One change of the cooler outside the stop contacts set, by what comes before it. -/
inductive CoolerMove : Cooler → Cooler → Prop
  | tick {c : Cooler} : CoolerMove c c.tick
  | restart {c : Cooler} : CoolerMove c { c with timer := 1000 }
  | configure {c : Cooler} (b : List Byte) (slot : Fin 8) : CoolerMove c (c.configured b slot).fitOutputs
  | toManual {c : Cooler} (b : List Byte) : CoolerMove c (c.toManual b).refreshed.manualOutputs
  | toAuto {c : Cooler} : CoolerMove c { c with mode := .auto, pressureCount := 0 }
  | stalePeriod {c : Cooler} (auto : c.mode = .auto) : CoolerMove c c.stalePeriod
  | freshPeriod {c : Cooler} (p : Int) (auto : c.mode = .auto) :
      CoolerMove c ((c.freshPeriod p).pressureTest p).refreshed
  | total {c : Cooler} : CoolerMove c c.totalStroke
  | stroke {c : Cooler} {n : Fin 4} (running : c.sections[n].stalled = false) :
      CoolerMove c (c.modSection n Section.stroke)
  | restroke {c : Cooler} (n : Fin 4) : CoolerMove c (c.modSection n Section.stroke).refreshStall.refreshed
  | stall {c : Cooler} (n : Fin 4) :
      CoolerMove c (c.modSection n Section.stallNow).refreshStall.refreshed

theorem Cooler.tick_section (c : Cooler) (n : Fin 4) : c.tick.sections[n] = c.sections[n].tick := by
  fin_cases n <;> rfl

theorem CoolerSound.tick {c : Cooler} (h : CoolerSound c) : CoolerSound c.tick :=
  { h with
    sections := fun n => by rw [Cooler.tick_section]; exact Section.tick_sound (h.sections n)
    stallCause := h.stallCause.trans (Cooler.anyStalled_congr fun n => by rw [Cooler.tick_section]; rfl).symm
    stopped := fun stop n => by rw [Cooler.tick_section]; exact h.stopped stop n
    manual := fun manual => ⟨(h.manual manual).1, fun free n => by
      rw [Cooler.tick_section]
      exact (h.manual manual).2 free n⟩ }

/-- Every change of the cooler keeps it sound. -/
theorem CoolerMove.sound {c d : Cooler} (m : CoolerMove c d) (h : CoolerSound c) : CoolerSound d := by
  have settled := h.settled
  cases m with
  | tick => exact h.tick
  | restart => exact { h with }
  | configure b slot =>
    obtain ⟨holdback, causes⟩ := (c.configured b slot).fitOutputs_causes
    exact (settled.configured b slot).fitOutputs.sound (holdback.trans (h.holdback.trans causes.symm))
  | toManual b =>
    obtain ⟨holdback, causes⟩ := (c.toManual b).refreshed.manualOutputs_causes
    exact (settled.toManual b).refreshed.manualOutputs.sound (holdback.trans causes.symm)
  | toAuto => exact { h with manual := nofun }
  | stalePeriod auto =>
    obtain ⟨holdback, causes⟩ := c.stalePeriod_causes
    exact (settled.stalePeriod auto).sound (holdback.trans (h.holdback.trans causes.symm))
  | freshPeriod p auto =>
    exact ((settled.freshPeriod p auto).pressureTest p ((c.freshPeriod_mode p).trans auto)).refreshed
  | total => exact { h with }
  | stroke running =>
    rw [← Cooler.refreshStall_stroke h.stallCause running]
    exact (settled.modSection (Section.stroke_sound (h.sections _)) rfl rfl).sound
      (by rw [Cooler.refreshStall_stroke h.stallCause running]; exact h.holdback)
  | restroke n => exact (settled.modSection (Section.stroke_sound (h.sections n)) rfl rfl).refreshed
  | stall n => exact (settled.modSection ⟨by simp [Section.stallNow]⟩ rfl rfl).refreshed

/-- None of them reaches the stop contacts set. -/
theorem CoolerMove.stopContacts {c d : Cooler} (m : CoolerMove c d) : d.stopContacts = c.stopContacts := by
  cases m with
  | configure b slot =>
    rw [Cooler.fitOutputs_eq]
    rfl
  | toManual b =>
    rw [Cooler.manualOutputs_eq]
    rfl
  | stalePeriod auto =>
    rw [Cooler.stalePeriod_eq]
    rfl
  | freshPeriod p auto =>
    rw [Cooler.pressureTest_frame, Cooler.freshPeriod_eq]
    rfl
  | _ => rfl

/-! ### The stop contacts set -/

/-- A contact that joins the stop contacts set leaves a sound cooler sound (R124). -/
theorem stopReported_sound (k : Fin 24) {s : State} (h : CoolerSound s.cooler) :
    CoolerSound (stopReported k s).cooler := by
  by_cases present : k ∈ s.cooler.stopContacts
  · rw [stopReported_present present]
    exact h
  have joined : CoolerBase { s.cooler with stopContacts := s.cooler.stopContacts ++ [k] } :=
    { h.settled with stops := List.nodup_append.mpr ⟨h.stops, List.nodup_singleton k, fun j mem i own same =>
      present (List.mem_singleton.mp own ▸ same ▸ mem)⟩ }
  have stands : ({ s.cooler with stopContacts := s.cooler.stopContacts ++ [k] } : Cooler).stopCause = true := by
    simp [Cooler.stopCause]
  rw [stopReported, if_neg present]
  split
  case isTrue stopped =>
    rw [refreshHoldback_refreshed]
    exact CoolerSettled.refreshed { joined with
      stopped := fun _ => h.stopped stopped, manual := fun _ free => absurd (stands.symm.trans free) (by decide) }
  case isFalse =>
    rw [refreshHoldback_refreshed]
    exact (joined.halt stands).refreshed

/-- And so does one that leaves it. -/
theorem stopReturned_sound (k : Fin 24) {s : State} (h : CoolerSound s.cooler) :
    CoolerSound (stopReturned k s).cooler := by
  unfold stopReturned
  split
  case isFalse => exact h
  case isTrue present =>
    have stopped : s.cooler.stopCause = true := by
      simpa [Cooler.stopCause] using List.ne_nil_of_mem present
    rw [refreshHoldback_refreshed, State.modCooler_cooler]
    refine CoolerSettled.refreshed ?_
    unfold Cooler.dropStop
    split
    case isTrue ends =>
      exact CoolerBase.runManual (c := { s.cooler with stopContacts := [] })
        { h.settled with stops := List.nodup_nil } rfl
    case isFalse stays =>
      exact { h.settled with
        stops := h.stops.filter _
        stopped := fun _ => h.stopped stopped
        manual := fun manual free => absurd ⟨by simpa [Cooler.stopCause] using free, manual⟩ stays }

end Sys2Proof.Machine
end

section
/-! PROOFS. What every command does to the plant, which is whether the streams burn, the cooler and the contacts: it is
made of a few moves, and only LIGHT sets a stream alight (R39, R112 to R136). -/

namespace Sys2Proof.Machine

/-! ### Streams that come to burn -/

/-- From `s` to `t` no stream comes to burn that did not. -/
def NoneLit (s t : State) : Prop :=
  ∀ i : Fin 8, (t.stream i).state.burning = true → (s.stream i).state.burning = true

namespace NoneLit

theorem of_eq {s t : State} (streams : t.streams = s.streams) : NoneLit s t := fun i burning => by
  rwa [State.stream_congr streams i] at burning

theorem refl (s : State) : NoneLit s s := fun _ => id

theorem trans {s t u : State} (h : NoneLit s t) (k : NoneLit t u) : NoneLit s u := fun i burning => h i (k i burning)

/-- A change of one stream that does not set it alight. -/
theorem of_stream {s t : State} (i : Fin 8) (others : ∀ j ≠ i, t.stream j = s.stream j)
    (own : (t.stream i).state.burning = true → (s.stream i).state.burning = true) : NoneLit s t := by
  intro j burning
  by_cases same : j = i
  · subst same; exact own burning
  · rwa [others j same] at burning

end NoneLit

theorem withdrawn_not_lit (c : TripCause) (x : Stream) (burning : (withdrawn c x).state.burning = true) :
    x.state.burning = true := by
  unfold withdrawn at burning
  split at burning
  · assumption
  split at burning
  · cases burning
  · exact burning

theorem withdraw_noneLit (c : TripCause) (i : Fin 8) (s : State) : NoneLit s (withdraw c i s) :=
  .of_stream i (fun j => withdraw_stream_other c i j s) fun burning => by
    rw [withdraw_stream_self] at burning
    exact withdrawn_not_lit c _ burning

theorem trip_noneLit (i : Fin 8) (c : TripCause) (s : State) : NoneLit s (trip i c s) :=
  .of_stream i (fun j => trip_stream_other i j c s) fun burning => by
    rw [trip_stream_self] at burning
    split at burning <;> cases burning

theorem withdrawAll_noneLit (c : TripCause) (s : State) : NoneLit s (withdrawAll c s) := fun i burning => by
  rw [withdrawAll_stream] at burning
  exact withdrawn_not_lit c _ burning

theorem reportInterlocks_noneLit (p : Fin 8 → Bool) (s : State) : NoneLit s (reportInterlocks p s) := fun i burning => by
  rw [reportInterlocks_stream] at burning
  split at burning
  · exact withdrawn_not_lit _ _ burning
  · exact burning

theorem periodCloses_noneLit (s : State) : NoneLit s (periodCloses s) := fun i burning => by
  rwa [periodCloses_stream, Stream.closed_frame] at burning

/-- The lowering of a computation takes a STOPPING stream to READY or leaves its firing state (R46). -/
theorem Stream.lowered_not_lit {x : Stream} (burning : x.lowered.state.burning = true) : x.state.burning = true := by
  by_cases stopping : x.state = .stopping
  · simp [stopping, FiringState.burning]
  · rwa [Stream.lowered_of_not_stopping stopping] at burning

theorem dose_noneLit (x : Site) (s : State) : NoneLit s (dose x s) := fun i burning => by
  by_cases member : (s.stream i).limits.site = x
  · rw [dose_stream_member member, Stream.dosed_state] at burning
    exact Stream.lowered_not_lit burning
  · rwa [dose_stream_other member] at burning

/-! ### The stop contacts set and the contacts acted on -/

theorem stopReported_streams (k : Fin 24) (s : State) : (stopReported k s).streams = s.streams := by
  by_cases present : k ∈ s.cooler.stopContacts
  · rw [stopReported_present present]
  · rw [stopReported_joins present, refreshHoldback_frame]

theorem stopReturned_streams (k : Fin 24) (s : State) : (stopReturned k s).streams = s.streams := by
  by_cases present : k ∈ s.cooler.stopContacts
  · rw [stopReturned_leaves present rfl, refreshHoldback_frame]
  · rw [stopReturned_absent present]

theorem goesAbnormal_noneLit (k : Fin 24) (s : State) : NoneLit s (goesAbnormal k s) := by
  have raised (r : Raise) : NoneLit s (raiseAlarm r (s.modContact k fun c => { c with cond := true })) := .of_eq rfl
  cases role : (s.contact k).role with
  | none => rw [goesAbnormal_none role]; exact .refl s
  | alarm => rw [goesAbnormal_alarm role]; exact raised _
  | streamInterlock => rw [goesAbnormal_interlock role]; exact (raised _).trans (reportInterlocks_noneLit _ _)
  | coolerStop => rw [goesAbnormal_coolerStop role]; exact (raised _).trans (.of_eq (stopReported_streams k _))

theorem returnsNormal_streams (k : Fin 24) (s : State) : (returnsNormal k s).streams = s.streams := by
  cases role : (s.contact k).role with
  | none => rw [returnsNormal_none role]
  | alarm => rw [returnsNormal_cleared (.inl role)]; rfl
  | streamInterlock => rw [returnsNormal_cleared (.inr role)]; rfl
  | coolerStop => rw [returnsNormal_coolerStop role, stopReturned_streams]; rfl

theorem sampleContact_noneLit (k : Fin 24) (level : Level) (s : State) : NoneLit s (sampleContact k level s) := by
  unfold sampleContact actOnReading
  repeat' split
  · exact goesAbnormal_noneLit k _
  · exact .of_eq (returnsNormal_streams k _)
  · exact .of_eq rfl

theorem settleCondition_streams (k : Fin 24) (before : Bool) (s : State) :
    (settleCondition k before s).streams = s.streams := by
  unfold settleCondition
  repeat' split
  all_goals rfl

theorem settleStop_streams (k : Fin 24) (old new : Contact) (s : State) :
    (settleStop k old new s).streams = s.streams := by
  unfold settleStop
  repeat' split
  · exact stopReturned_streams k s
  · exact stopReported_streams k s
  · rfl

theorem replaceContact_noneLit (k : Fin 24) (new : Contact) (s : State) : NoneLit s (replaceContact k new s) := by
  unfold replaceContact settleInterlocks
  refine NoneLit.trans (t := settleCondition k (s.contact k).cond (s.modContact k fun _ => new)) ?_ ?_
  · exact .of_eq (settleCondition_streams k _ _)
  · exact (reportInterlocks_noneLit _ _).trans (.of_eq (settleStop_streams k _ _ _))

theorem force_streams (k : Fin 24) (s : State) : (force k s).streams = s.streams := by
  unfold force
  dsimp only
  split
  · exact returnsNormal_streams k _
  · rfl

theorem liftForce_noneLit (k : Fin 24) (s : State) : NoneLit s (liftForce k s) := by
  unfold liftForce
  dsimp only
  split
  · exact goesAbnormal_noneLit k _
  · exact .of_eq rfl

/-! ### One move -/

/-- The streams, the cooler and the contacts. -/
def State.plant (s : State) : Vector Stream 8 × Cooler × Vector Contact 24 := (s.streams, s.cooler, s.contacts)

/-- A contact as SET_CONTACT writes it over another: the mask empty but under STREAM_INTERLOCK, the debounce count below
the debounce, the accepted state, the forced flag and the conditions kept (R133). -/
structure Contact.RewrittenFrom (old new : Contact) : Prop where
  mask : new.role ≠ .streamInterlock → new.mask = 0
  count : new.count < new.debounce
  forced : new.forced = old.forced
  cond : new.cond = old.cond
  forcedCond : new.forcedCond = old.forcedCond

/-- One move of the plant, by what comes before it: streams changed with none set alight, a LIGHT, a change of the cooler,
a contact sampled, rewritten, forced or no longer forced, a reset. -/
inductive PlantMove (s t : State) : Prop
  | streams (unlit : NoneLit s t) (cooler : t.cooler = s.cooler) (contacts : t.contacts = s.contacts)
  | light {i : Fin 8} (free : s.guardForced i = false) (others : ∀ j ≠ i, t.stream j = s.stream j)
      (cooler : t.cooler = s.cooler) (contacts : t.contacts = s.contacts)
  | cooler (move : CoolerMove s.cooler t.cooler) (streams : t.streams = s.streams) (contacts : t.contacts = s.contacts)
  | sample {k : Fin 24} {level : Level} (same : t = sampleContact k level s)
  | replace {k : Fin 24} {new : Contact} (rewritten : Contact.RewrittenFrom (s.contact k) new)
      (free : (s.contact k).forced = true → s.masksBurning new.mask = false) (same : t = replaceContact k new s)
  | force {k : Fin 24} (free : s.masksBurning (s.contact k).mask = false) (same : t = Machine.force k s)
  | lift {k : Fin 24} (forced : (s.contact k).forced = true) (same : t = liftForce k s)
  | reset (same : t.plant = State.reset.plant)

/-- From `s` to `t` the plant goes through moves. -/
def PlantMoved : State → State → Prop := Relation.ReflTransGen PlantMove

namespace PlantMoved

theorem refl (s : State) : PlantMoved s s := Relation.ReflTransGen.refl

theorem trans {s t u : State} (h : PlantMoved s t) (k : PlantMoved t u) : PlantMoved s u :=
  Relation.ReflTransGen.trans h k

theorem single {s t : State} (h : PlantMove s t) : PlantMoved s t := Relation.ReflTransGen.single h

theorem of_eq {s t : State} (h : t.plant = s.plant) : PlantMoved s t := by
  simp only [State.plant, Prod.mk.injEq] at h
  exact single (.streams (.of_eq h.1) h.2.1 h.2.2)

/-- Moves after a change of what is no part of the plant. -/
theorem after {s t u : State} (h : PlantMoved t u) (same : t.plant = s.plant) : PlantMoved s u := (of_eq same).trans h

/-- Moves before a change of what is no part of the plant. -/
theorem before {s t u : State} (h : PlantMoved s t) (same : u.plant = t.plant) : PlantMoved s u := h.trans (of_eq same)

theorem modCooler {s : State} {f : Cooler → Cooler} (move : CoolerMove s.cooler (f s.cooler)) :
    PlantMoved s (s.modCooler f) :=
  single (.cooler move rfl rfl)

/-- A change of the cooler with holdback brought up to date (R125). -/
theorem refreshHoldback {s : State} {c : Cooler} (move : CoolerMove s.cooler c.refreshed) {u : State}
    (cooler : u.cooler = c) (streams : u.streams = s.streams) (contacts : u.contacts = s.contacts) :
    PlantMoved s (Machine.refreshHoldback u) := by
  refine single (.cooler (by rwa [refreshHoldback_refreshed, cooler]) ?_ ?_) <;> rw [refreshHoldback_frame]
  · exact streams
  · exact contacts

theorem raiseAlarm {s t : State} (h : PlantMoved s t) (r : Raise) : PlantMoved s (Machine.raiseAlarm r t) := h.before rfl

theorem clearAlarm {s t : State} (h : PlantMoved s t) (c : AlarmCode) : PlantMoved s (Machine.clearAlarm c t) :=
  h.before rfl

theorem setFactors {s t : State} (h : PlantMoved s t) (f : Factors) : PlantMoved s (t.setFactors f) := h.before rfl

theorem modShift {s t : State} (h : PlantMoved s t) (f : OpenShift → OpenShift) : PlantMoved s (t.modShift f) :=
  h.before rfl

theorem of_sameBlocks {s t : State} (h : SameBlocks s t) (unlit : NoneLit s t) : PlantMoved s t :=
  single (.streams unlit h.cooler h.contacts)

/-- A change of one stream that does not set it alight. -/
theorem modStream {s : State} {i : Fin 8} {f : Stream → Stream}
    (own : (f (s.stream i)).state.burning = true → (s.stream i).state.burning = true) :
    PlantMoved s (s.modStream i f) :=
  single (.streams (.of_stream i (fun _ other => State.modStream_stream_other _ _ _ _ other)
    (by rwa [State.modStream_stream_self])) rfl rfl)

/-- A stream taken from one BURNING state to another. -/
theorem modStream_burning {s : State} {i : Fin 8} {f : Stream → Stream} (burning : (s.stream i).state.burning = true) :
    PlantMoved s (s.modStream i f) :=
  modStream fun _ => burning

theorem foldl {α : Type} {f : State → α → State} (h : ∀ s a, PlantMoved s (f s a)) (l : List α) (s : State) :
    PlantMoved s (l.foldl f s) := by
  induction l generalizing s with
  | nil => exact .refl s
  | cons a l ih => exact (h s a).trans (ih (f s a))

end PlantMoved

/-! ### Requests -/

theorem openRequest_plant (r : Request) (s : State) : (openRequest r s).plant = s.plant := by simp [State.plant]

/-- What a block makes of a command moves the plant, or refuses the command. -/
inductive Reply.PlantMoved (s : State) : Reply → Prop
  | refuse {c : ResultCode} : Reply.PlantMoved s (.refuse c)
  | take {t : State} {c : ResultCode} {b : List Byte} (moved : Machine.PlantMoved s t) :
      Reply.PlantMoved s (.take t c b)

theorem takeRequest_plant {row : CommandRow} {r : Request} {act : State → Reply} {s t : State}
    (h : takeRequest row r act s = .next t) (moved : ∀ s, (act s).PlantMoved s) : PlantMoved s t := by
  have opened : PlantMoved s (openRequest r s) := .of_eq (openRequest_plant r s)
  obtain ⟨-, rfl | ⟨-, ⟨-, rfl⟩ | ⟨-, -, rfl⟩ | ⟨-, -, rfl⟩⟩⟩ := takeRequest_next h
  · exact .of_eq rfl
  · exact opened.before rfl
  · exact opened.before rfl
  · cases reply : act (openRequest r s) with
    | refuse c => exact opened.before rfl
    | take u c b =>
      have taken := moved (openRequest r s)
      rw [reply] at taken
      cases taken with
      | take moved => exact (opened.trans moved).before rfl

theorem onStream_plant {act : Fin 8 → State → Reply} (h : ∀ i s, (act i s).PlantMoved s) (b : List Byte)
    (s : State) : (onStream b act s).PlantMoved s := by
  unfold onStream
  split
  · exact h _ s
  · exact .refuse

theorem onContact_plant {act : Fin 24 → State → Reply} (h : ∀ k s, (act k s).PlantMoved s) (b : List Byte)
    (s : State) : (onContact b act s).PlantMoved s := by
  unfold onContact
  split
  · exact h _ s
  · exact .refuse

theorem onCode_plant {act : AlarmCode → State → Reply} (h : ∀ c s, (act c s).PlantMoved s) (b : List Byte)
    (s : State) : (onCode b act s).PlantMoved s := by
  unfold onCode
  split
  · exact h _ s
  · exact .refuse

theorem onEntry_plant {c : AlarmCode} {s : State} {act : Entry → Reply} (h : ∀ e, (act e).PlantMoved s) :
    (onEntry c s act).PlantMoved s := by
  unfold onEntry
  split
  · exact h _
  · exact .refuse

theorem takeRequest_onStream_plant {row : CommandRow} {r : Request} {act : Fin 8 → State → Reply} {s t : State}
    (h : takeRequest row r (onStream r.body act) s = .next t) (moved : ∀ i s, (act i s).PlantMoved s) :
    PlantMoved s t :=
  takeRequest_plant h (onStream_plant moved _)

/-! ### Firing supervision -/

theorem light_plant (i : Fin 8) (s : State) : (light i s).PlantMoved s := by
  unfold light
  split; · exact .refuse
  split; · exact .refuse
  case isFalse free =>
    exact .take (.single (.light (Bool.eq_false_iff.mpr free) (fun j other => State.modStream_stream_other _ _ _ _ other)
      rfl rfl))

theorem flameProven_plant (i : Fin 8) (s : State) : (flameProven i s).PlantMoved s := by
  unfold flameProven
  split
  case isTrue lighting => exact .take (.modStream_burning (by rw [lighting]; rfl))
  case isFalse => split <;> exact .refuse

theorem flameLost_plant (i : Fin 8) (s : State) : (flameLost i s).PlantMoved s := by
  unfold flameLost
  split
  · exact .take (.of_sameBlocks (trip_sameBlocks i .flameLost s) (trip_noneLit i .flameLost s))
  · exact .take (.refl s)

theorem flame_plant (b : List Byte) (s : State) : (flame b s).PlantMoved s := by
  refine onStream_plant (fun i s => ?_) b s
  split
  · exact flameProven_plant i s
  · exact flameLost_plant i s
  · exact .refuse

theorem grant_plant (i : Fin 8) (s : State) : (grant i s).PlantMoved s := by
  unfold grant
  repeat' split
  all_goals constructor
  exact .modStream (f := fun x => { x with state := .ready }) nofun

theorem hold_plant (i : Fin 8) (s : State) : (hold i s).PlantMoved s := by
  unfold hold
  split
  case isTrue firing => exact .take (.modStream_burning (by rw [firing]; rfl))
  case isFalse => exact .refuse

theorem resume_plant (i : Fin 8) (s : State) : (resume i s).PlantMoved s := by
  unfold resume
  split
  case isTrue state => exact .take (.modStream_burning (by obtain state | state := state <;> (rw [state]; rfl)))
  case isFalse => exact .refuse

theorem stop_plant (i : Fin 8) (s : State) : (stop i s).PlantMoved s := by
  unfold stop
  split
  · exact .take (.modStream nofun)
  split
  case isTrue state => exact .take (.modStream_burning (by obtain state | state := state <;> (rw [state]; rfl)))
  case isFalse => exact .refuse

theorem release_plant (i : Fin 8) (s : State) : (release i s).PlantMoved s := by
  unfold release
  split
  · refine .take (PlantMoved.clearAlarm (.modStream ?_) _)
    exact nofun
  · exact .refuse

/-! ### Calibration -/

theorem calStart_plant (i : Fin 8) (s : State) : (calStart i s).PlantMoved s := by
  unfold calStart
  split
  case isTrue state => exact .take (.modStream_burning (by rw [state.1]; rfl))
  case isFalse => exact .refuse

theorem calStop_plant (i : Fin 8) (s : State) : (calStop i s).PlantMoved s := by
  unfold calStop
  split
  case isFalse => exact .refuse
  case isTrue calib =>
    have burning : (s.stream i).state.burning = true := by rw [calib]; rfl
    split
    · split
      · exact .take (PlantMoved.setFactors (.modStream_burning burning) _)
      · exact .take (.modStream_burning burning)
    · exact .take (.modStream_burning burning)

theorem calAccept_plant (b : List Byte) (i : Fin 8) (s : State) : (calAccept b i s).PlantMoved s := by
  unfold calAccept
  split; · exact .refuse
  split; · exact .refuse
  split; · exact .refuse
  exact .take (PlantMoved.modShift (.modStream id) _)

theorem calDiscard_plant (i : Fin 8) (s : State) : (calDiscard i s).PlantMoved s := by
  unfold calDiscard
  split; · exact .refuse
  split; · exact .refuse
  exact .take (.modStream id)

theorem execCalWindowTimeout_plant {i : Fin 8} {s t : State} (h : execCalWindowTimeout i s = .next t) :
    PlantMoved s t := by
  unfold execCalWindowTimeout at h
  repeat' split at h
  all_goals cases h
  · refine PlantMoved.setFactors (.modStream fun burning => ?_) _
    by_cases calib : (s.stream i).state = .calib
    · rw [calib]; rfl
    · simpa [calib] using burning
  · exact .refl s
  · exact .refl s

/-! ### The Stream Table -/

theorem setLimits_plant (b : List Byte) (i : Fin 8) (s : State) : (setLimits b i s).PlantMoved s := by
  have written (x : Limits) : PlantMoved s (s.modStream i (Stream.takeLimits x)) := .modStream id
  unfold setLimits
  split; · exact .refuse
  split; · exact .refuse
  split; · exact .refuse
  exact .take ((written _).before rfl)

theorem setPlan_plant (b : List Byte) (i : Fin 8) (s : State) : (setPlan b i s).PlantMoved s := by
  unfold setPlan
  split; · exact .refuse
  split; · exact .refuse
  exact .take (.modStream id)

theorem setPoll_plant (b : List Byte) (i : Fin 8) (s : State) : (setPoll b i s).PlantMoved s := by
  unfold setPoll
  split
  · exact .refuse
  · exact .take (.modStream id)

/-! ### Slots and cutback sets -/

theorem handFresh_plant (n : Fin 8) (s : State) : PlantMoved s (handFresh n s) := by
  refine .foldl (fun s k => ?_) all4 s
  unfold freshValue testIdle
  repeat' split
  all_goals exact .of_eq rfl

theorem testIdle_plant (k : Fin 4) (v : Int) (s : State) : (testIdle k v s).plant = s.plant := by
  unfold testIdle
  repeat' split
  all_goals rfl

theorem rewriteSet_plant (k : Fin 4) (c : CutSet) (s : State) : (rewriteSet k c s).plant = s.plant := by
  have written : (State.modSet k (fun _ => c)
      (if (s.cutSet k).state = .active then deactivate k s else s)).plant = s.plant := by
    split <;> rfl
  unfold rewriteSet
  dsimp only
  split
  · exact (testIdle_plant k _ _).trans written
  · exact written

theorem putMeas_plant (b : List Byte) (s : State) : (putMeas b s).PlantMoved s := by
  unfold putMeas
  split
  · exact .refuse
  · refine .take (PlantMoved.after (handFresh_plant _ _) ?_)
    split <;> rfl

theorem setMeasConfig_plant (b : List Byte) (s : State) : (setMeasConfig b s).PlantMoved s := by
  unfold setMeasConfig
  split; · exact .refuse
  split; · exact .refuse
  split; · exact .refuse
  refine .take ?_
  split
  · exact (handFresh_plant _ _).after rfl
  · exact .of_eq rfl

theorem setCutback_plant (b : List Byte) (s : State) : (setCutback b s).PlantMoved s := by
  unfold setCutback
  split; swap; · exact .refuse
  split
  · exact .refuse
  · exact .take (.of_eq (rewriteSet_plant _ _ s))

/-! ### The cooler -/

theorem takeCooler_plant (b : List Byte) (slot : Fin 8) (s : State) : PlantMoved s (takeCooler b slot s) := by
  unfold takeCooler
  split <;> exact .single (.cooler (.configure b slot) rfl rfl)

theorem takeManual_plant (b : List Byte) (s : State) : PlantMoved s (takeManual b s) := by
  refine .single (.cooler ?_ ?_ ?_)
  · rw [takeManual, State.modCooler_cooler, refreshHoldback_refreshed]
    exact .toManual b
  all_goals
    rw [takeManual, refreshHoldback_frame]
    rfl

theorem takeAuto_plant (s : State) : PlantMoved s (takeAuto s) := by
  unfold takeAuto
  split
  · exact .refl s
  · exact .modCooler .toAuto

theorem setCooler_plant (b : List Byte) (s : State) : (setCooler b s).PlantMoved s := by
  unfold setCooler
  split; · exact .refuse
  split; · exact .refuse
  split; · exact .refuse
  exact .take (takeCooler_plant b _ s)

theorem coolerMode_plant (b : List Byte) (s : State) : (coolerMode b s).PlantMoved s := by
  unfold coolerMode
  split
  · exact .take (takeManual_plant b s)
  · exact .take (takeAuto_plant s)
  · exact .refuse

theorem bookStroke_plant (n : Fin 4) (s : State) : PlantMoved s (bookStroke n s) := by
  unfold bookStroke
  split
  · exact (PlantMoved.modCooler .total).before rfl
  · exact .refl s

theorem strokeSupervision_plant (n : Fin 4) (s : State) : PlantMoved s (strokeSupervision n s) := by
  unfold strokeSupervision
  split
  case isTrue => exact .refreshHoldback (.restroke n) rfl rfl rfl
  case isFalse running => exact .modCooler (.stroke (Bool.eq_false_iff.mpr running))

theorem execStallTimerExpiry_plant {n : Fin 4} {s t : State} (h : execStallTimerExpiry n s = .next t) :
    PlantMoved s t := by
  unfold execStallTimerExpiry at h
  split at h <;> cases h
  · exact .refreshHoldback (.stall n) rfl rfl rfl
  · exact .refl s

theorem execCoolerPeriod_plant {s t : State} (h : execCoolerPeriod s = .next t) : PlantMoved s t := by
  have restarted : PlantMoved s (s.modCooler fun c => { c with timer := 1000 }) := .modCooler .restart
  unfold execCoolerPeriod at h
  split at h
  case h_1 => cases h; exact restarted
  case h_2 auto =>
    split at h <;> cases h
    · exact restarted.trans (.modCooler (s := s.modCooler fun c => { c with timer := 1000 }) (.stalePeriod auto))
    · refine restarted.trans ?_
      exact .refreshHoldback (.freshPeriod (c := { s.cooler with timer := 1000 }) _ auto) rfl rfl rfl

/-! ### Contacts -/

theorem rewritten_rewrittenFrom {b : List Byte} {old new : Contact} (h : old.rewritten b = some new) :
    Contact.RewrittenFrom old new := by
  unfold Contact.rewritten at h
  split at h
  case h_2 => cases h
  case h_1 role normal priority slow _ _ _ _ =>
    split at h <;> cases h
    case isTrue.refl debounce =>
      exact ⟨fun other => if_neg other, Nat.lt_of_lt_of_le Nat.two_pos (within_iff.mp debounce).1, rfl, rfl, rfl⟩

theorem setContact_plant (b : List Byte) (k : Fin 24) (s : State) : (setContact b k s).PlantMoved s := by
  unfold setContact
  split
  case h_1 => exact .refuse
  case h_2 new fields =>
    split
    case isTrue => exact .refuse
    case isFalse free =>
      exact .take (.single (.replace (rewritten_rewrittenFrom fields)
        (fun forced => Bool.eq_false_iff.mpr fun burning => free ⟨forced, burning⟩) rfl))

theorem forceContact_plant (k : Fin 24) (s : State) : (forceContact k s).PlantMoved s := by
  unfold forceContact
  split; · exact .refuse
  case isFalse free =>
    split
    · exact .take (.refl s)
    · exact .take (.single (.force (Bool.eq_false_iff.mpr free) rfl))

theorem unforce_plant (k : Fin 24) (s : State) : (unforce k s).PlantMoved s := by
  unfold unforce
  split
  case isTrue forced => exact .take (.single (.lift forced rfl))
  case isFalse => exact .refuse

theorem contactScan_plant (levels : BitVec 24) (s : State) :
    PlantMoved s (scanContacts levels
      { s with scanTimer := 20, scanCount := (s.scanCount + 1) % 4, contactInputs := levels }) := by
  refine PlantMoved.after (.foldl (fun s k => ?_) all24 _) rfl
  split
  · exact .single (.sample rfl)
  · exact .refl s

/-! ### Events -/

theorem resetAll_plant (cause : ResetCause) (p q d : Option Nat) (s : State) :
    PlantMoved s (resetAll cause p q d s) := by
  exact .single (.reset (by simp only [resetAll, State.plant]))

theorem dosingPeriod_plant (s : State) :
    PlantMoved s (dose .calc (dose .main (periodCloses { s with dosingTimer := s.period.ms }))) := by
  have restarted : PlantMoved s { s with dosingTimer := s.period.ms } := .of_eq rfl
  have dosed (x : Site) (s : State) : PlantMoved s (dose x s) :=
    .single (.streams (dose_noneLit x s) (dose_sameBlocks x s).cooler (dose_sameBlocks x s).contacts)
  exact restarted.trans <| (PlantMoved.of_sameBlocks (periodCloses_sameBlocks _) (periodCloses_noneLit _)).trans <|
    (dosed .main _).trans (dosed .calc _)

theorem execFrameErr_plant {l : Link} {bytes : List Byte} {s t : State} (h : execFrameErr l bytes s = .next t) :
    PlantMoved s t := by
  unfold execFrameErr at h
  repeat' split at h
  all_goals cases h
  all_goals exact .of_eq rfl

theorem execUnknownCmd_plant {code : Byte} {r : Request} {s t : State} (h : execUnknownCmd code r s = .next t) :
    PlantMoved s t := by
  unfold execUnknownCmd at h
  repeat' split at h
  all_goals cases h
  · exact .of_eq rfl
  · exact .of_eq (openRequest_plant r s)

theorem execNoFlowReport_plant {i : Fin 8} {s t : State} (h : execNoFlowReport i s = .next t) : PlantMoved s t := by
  have reported : PlantMoved s (s.modStream i fun x => { x with noFlowDue := false }) := .modStream id
  unfold execNoFlowReport at h
  split at h <;> cases h
  · exact reported.trans (.of_sameBlocks (trip_sameBlocks i .noFlow _) (trip_noneLit i .noFlow _))
  · exact reported

theorem execLightingTimerExpiry_plant {i : Fin 8} {s t : State} (h : execLightingTimerExpiry i s = .next t) :
    PlantMoved s t := by
  unfold execLightingTimerExpiry at h
  split at h <;> cases h
  · exact .of_sameBlocks (trip_sameBlocks i .lightFail s) (trip_noneLit i .lightFail s)
  · exact .refl s

theorem PlantMoved.unhealthy {s t : State} (h : PlantMoved s t) : PlantMoved s { t with safeHealthy := false } :=
  h.before rfl

theorem execSafeLinkTimerExpiry_plant {s t : State} (h : execSafeLinkTimerExpiry s = .next t) : PlantMoved s t := by
  unfold execSafeLinkTimerExpiry at h
  split at h
  · have stopped : PlantMoved s { s with safeTimer := none } := .of_eq rfl
    have withdrawn := stopped.trans (.of_sameBlocks (withdrawAll_sameBlocks .linkLoss _) (withdrawAll_noneLit .linkLoss _))
    exact Host.Outcome.next.inj h ▸ (withdrawn.raiseAlarm safeLinkRaise).unhealthy
  · exact Host.Outcome.next.inj h ▸ .refl s

theorem execStaleTimerExpiry_plant {n : Fin 8} {s t : State} (h : execStaleTimerExpiry n s = .next t) :
    PlantMoved s t := by
  unfold execStaleTimerExpiry at h
  split at h <;> cases h
  · rw [handStale_frame]
    exact .of_eq rfl
  · exact .refl s

/-! ### Every command and every step -/

/-- Everything a command can do to the plant. -/
theorem exec_plant {c : Instr} {s t : State} (h : exec c s = .next t) : PlantMoved s t := by
  cases c with
  | powerOnReset p q d => exact Host.Outcome.next.inj h ▸ resetAll_plant _ p q d s
  | fullReset r p d =>
    refine takeRequest_plant h fun s => ?_
    unfold fullReset
    split
    · exact .take (resetAll_plant _ _ _ _ s)
    · exact .refuse
  | nop | status | poll | readFirstout | attnMask | attnClear | linkReset | setCheck | ackAll | silence
  | firstoutClear => exact takeRequest_plant h fun s => .take (.of_eq rfl)
  | readStream | readCal => exact takeRequest_onStream_plant h fun _ s => .take (.of_eq rfl)
  | readContacts => exact takeRequest_plant h (onContact_plant (fun _ s => .take (.of_eq rfl)) _)
  | readSite | readShift | readMeas | readCooler | listRead | setPeriod | setLinkTimeout | firstoutMode | setClock
  | setShifts | closeShift | setDemand =>
    refine takeRequest_plant h fun s => ?_
    dsimp only [readSite, readShift, readMeas, readCooler, listRead, setPeriod, setLinkTimeout, firstoutMode, setClock,
      setShifts, closeShift, setDemand, Reply.done]
    repeat' split
    all_goals constructor
    all_goals exact .of_eq rfl
  | setLimits => exact takeRequest_onStream_plant h (setLimits_plant _)
  | setPlan => exact takeRequest_onStream_plant h (setPlan_plant _)
  | setPoll => exact takeRequest_onStream_plant h (setPoll_plant _)
  | grant => exact takeRequest_onStream_plant h grant_plant
  | hold => exact takeRequest_onStream_plant h hold_plant
  | resume => exact takeRequest_onStream_plant h resume_plant
  | stop => exact takeRequest_onStream_plant h stop_plant
  | release => exact takeRequest_onStream_plant h release_plant
  | calStart => exact takeRequest_onStream_plant h calStart_plant
  | calStop => exact takeRequest_onStream_plant h calStop_plant
  | calAccept => exact takeRequest_onStream_plant h (calAccept_plant _)
  | calDiscard => exact takeRequest_onStream_plant h calDiscard_plant
  | light => exact takeRequest_onStream_plant h light_plant
  | revoke =>
    exact takeRequest_onStream_plant h fun i s =>
      .take (.of_sameBlocks (withdraw_sameBlocks .revoke i s) (withdraw_noneLit .revoke i s))
  | flameProven | flameLost => exact takeRequest_plant h (flame_plant _)
  | masterTrip =>
    exact takeRequest_plant h fun s => .take (.of_sameBlocks (withdrawAll_sameBlocks .master s)
      (withdrawAll_noneLit .master s))
  | putMeas => exact takeRequest_plant h (putMeas_plant _)
  | setMeasConfig => exact takeRequest_plant h (setMeasConfig_plant _)
  | setCutback => exact takeRequest_plant h (setCutback_plant _)
  | setCooler => exact takeRequest_plant h (setCooler_plant _)
  | coolerModeManual | coolerModeAuto => exact takeRequest_plant h (coolerMode_plant _)
  | setContact => exact takeRequest_plant h (onContact_plant (setContact_plant _) _)
  | forceContact => exact takeRequest_plant h (onContact_plant forceContact_plant _)
  | unforce => exact takeRequest_plant h (onContact_plant unforce_plant _)
  | ack | unshelve =>
    refine takeRequest_plant h (onCode_plant (fun c s => onEntry_plant fun e => ?_) _)
    split
    all_goals constructor
    all_goals exact .of_eq rfl
  | shelve =>
    refine takeRequest_plant h (onCode_plant (fun c s => ?_) _)
    unfold shelve
    split
    · exact .refuse
    · refine onEntry_plant fun e => ?_
      split
      · exact .refuse
      · exact .take (.of_eq rfl)
  | massPulse i => cases h; exact .modStream id
  | strokePulse n => exact Host.Outcome.next.inj h ▸ (bookStroke_plant n s).trans (strokeSupervision_plant n _)
  | dosingPeriodExpiry => exact Host.Outcome.next.inj h ▸ dosingPeriod_plant s
  | contactScan levels => exact Host.Outcome.next.inj h ▸ contactScan_plant levels s
  | frameErr => exact execFrameErr_plant h
  | unknownCmd => exact execUnknownCmd_plant h
  | noFlowReport => exact execNoFlowReport_plant h
  | lightingTimerExpiry => exact execLightingTimerExpiry_plant h
  | safeLinkTimerExpiry => exact execSafeLinkTimerExpiry_plant h
  | calWindowTimeout => exact execCalWindowTimeout_plant h
  | staleTimerExpiry => exact execStaleTimerExpiry_plant h
  | coolerPeriod => exact execCoolerPeriod_plant h
  | stallTimerExpiry => exact execStallTimerExpiry_plant h
  | abandonedTransfer | delayTimerExpiry | shelfExpiry | hornBIntervalExpiry | clockAdvance =>
    dsimp only [exec, execAbandonedTransfer, execDelayTimerExpiry, execShelfExpiry, execHornBIntervalExpiry,
      execClockAdvance] at h
    repeat' split at h
    all_goals cases h
    all_goals exact .of_eq rfl

/-- One millisecond counts the cooler's timers down and sets no stream alight. -/
theorem tick_plant (s : State) : PlantMoved s s.tick := by
  have counted (i : Fin 8) : ({ s with streams := s.tick.streams } : State).stream i = (s.stream i).tick :=
    s.tick_stream i
  have ticked : PlantMoved s { s with streams := s.tick.streams } :=
    .single (.streams (fun i burning => by rwa [counted] at burning) rfl rfl)
  exact ticked.trans (.single (.cooler .tick rfl rfl))

theorem idle_plant (s : State) : PlantMoved s (idle s) := by
  unfold idle
  split
  · exact tick_plant s
  · exact .of_eq rfl

/-- A step moves the plant, as the device clock or as the command at the front of the queue. -/
theorem step_plant {s t : State} (h : step s = .next t) : PlantMoved s t := by
  unfold step at h
  split at h
  · exact Host.Outcome.next.inj h ▸ idle_plant s
  · exact (exec_plant h).after rfl

end Sys2Proof.Machine
end

section
/-! PROOFS. Every step keeps the cooler sound (O59): the contacts reach it through the stop contacts set alone, and every
other change of it is a `CoolerMove` (R114 to R125). -/

namespace Sys2Proof.Machine

/-! ### Contacts and the cooler -/

theorem goesAbnormal_cooler (k : Fin 24) (s : State) (h : CoolerSound s.cooler) :
    CoolerSound (goesAbnormal k s).cooler := by
  cases role : (s.contact k).role with
  | none => rw [goesAbnormal_none role]; exact h
  | alarm => rw [goesAbnormal_alarm role]; exact h
  | streamInterlock =>
    rw [goesAbnormal_interlock role, (reportInterlocks_sameBlocks _ _).cooler]
    exact h
  | coolerStop => rw [goesAbnormal_coolerStop role]; exact stopReported_sound k h

theorem returnsNormal_cooler (k : Fin 24) (s : State) (h : CoolerSound s.cooler) :
    CoolerSound (returnsNormal k s).cooler := by
  cases role : (s.contact k).role with
  | none => rw [returnsNormal_none role]; exact h
  | alarm => rw [returnsNormal_cleared (.inl role)]; exact h
  | streamInterlock => rw [returnsNormal_cleared (.inr role)]; exact h
  | coolerStop => rw [returnsNormal_coolerStop role]; exact stopReturned_sound k h

theorem sampleContact_cooler (k : Fin 24) (level : Level) (s : State) (h : CoolerSound s.cooler) :
    CoolerSound (sampleContact k level s).cooler := by
  unfold sampleContact actOnReading
  repeat' split
  · exact goesAbnormal_cooler k _ h
  · exact returnsNormal_cooler k _ h
  · exact h

theorem settleCondition_cooler (k : Fin 24) (before : Bool) (s : State) :
    (settleCondition k before s).cooler = s.cooler := by
  unfold settleCondition
  repeat' split
  all_goals rfl

theorem replaceContact_cooler (k : Fin 24) (new : Contact) (s : State) (h : CoolerSound s.cooler) :
    CoolerSound (replaceContact k new s).cooler := by
  have settled : CoolerSound (settleInterlocks (s.contact k) new
      (settleCondition k (s.contact k).cond (s.modContact k fun _ => new))).cooler := by
    rw [settleInterlocks, (reportInterlocks_sameBlocks _ _).cooler, settleCondition_cooler]
    exact h
  unfold replaceContact settleStop
  repeat' split
  · exact stopReturned_sound k settled
  · exact stopReported_sound k settled
  · exact settled

theorem force_cooler (k : Fin 24) (s : State) (h : CoolerSound s.cooler) : CoolerSound (force k s).cooler := by
  unfold force
  dsimp only
  split
  · exact returnsNormal_cooler k _ h
  · exact h

theorem liftForce_cooler (k : Fin 24) (s : State) (h : CoolerSound s.cooler) : CoolerSound (liftForce k s).cooler := by
  unfold liftForce
  dsimp only
  split
  · exact goesAbnormal_cooler k _ h
  · exact h

/-! ### Every step -/

theorem State.plant_cooler {s t : State} (h : t.plant = s.plant) : t.cooler = s.cooler :=
  congrArg (fun p => p.2.1) h

theorem PlantMove.coolerSound {s t : State} (m : PlantMove s t) (h : CoolerSound s.cooler) : CoolerSound t.cooler := by
  cases m with
  | streams unlit cooler contacts => exact cooler ▸ h
  | light free others cooler contacts => exact cooler ▸ h
  | cooler move streams contacts => exact move.sound h
  | sample same => exact same ▸ sampleContact_cooler _ _ s h
  | replace rewritten free same => exact same ▸ replaceContact_cooler _ _ s h
  | force free same => exact same ▸ force_cooler _ s h
  | lift forced same => exact same ▸ liftForce_cooler _ s h
  | reset same => exact State.plant_cooler same ▸ resetIsSound.cooler

/-- What every move of the plant keeps, a whole run of moves does. -/
theorem PlantMoved.preserves {P : State → Prop} (move : ∀ s t, PlantMove s t → P s → P t) {s t : State}
    (h : PlantMoved s t) (hs : P s) : P t :=
  Relation.ReflTransGen.head_induction_on (motive := fun s _ => P s → P t) h id
    (fun m _ ih hs => ih (move _ _ m hs)) hs

/-- Settles O59, by the moves that a step makes. -/
theorem stepKeepsCoolerSound : Obligations.StepKeepsCoolerSound := fun _ _ hs h =>
  (step_plant h).preserves (P := fun s => CoolerSound s.cooler) (fun _ _ m => m.coolerSound) hs

end Sys2Proof.Machine
end

section
/-! PROOFS. Every step keeps the contacts sound, and no burning stream comes to have a forced contact in its mask (O60):
each move of a contact reaches that contact and its own place in the stop contacts set alone (R124, R130 to R136). -/

namespace Sys2Proof.Machine

/-! ### Readings -/

/-- A forced contact reads its normal state (08, 8.1). -/
theorem Contact.abnormal_of_forced {c : Contact} (forced : c.forced = true) : c.abnormal = false := by
  simp [Contact.abnormal, Contact.reading, forced]

theorem Contact.due_iff (c : Contact) : c.due = true ↔ c.role ≠ .none ∧ c.abnormal = true := by
  cases forced : c.forced with
  | true => simp [Contact.due, forced, Contact.abnormal_of_forced forced]
  | false => simp [Contact.due, forced]

theorem Contact.stops_iff (c : Contact) : c.stops = true ↔ c.role = .coolerStop ∧ c.abnormal = true := by
  simp [Contact.stops]

theorem Contact.stops_withCond (b : Bool) (c : Contact) : (c.withCond b).stops = c.stops := rfl

/-- The condition that follows the reading is the one that is due (R131, R133). -/
theorem ContactSound.withCond {c : Contact} {b : Bool} (h : ContactSound { c with cond := c.due })
    (roleless : c.role = .none → c.cond = false) (reading : c.abnormal = b) : ContactSound (c.withCond b) :=
  { h with
    cond := by
      have due : (c.withCond b).due = c.due := rfl
      rw [due, Bool.eq_iff_iff, Contact.due_iff, reading]
      by_cases role : c.role = .none
      · simp [Contact.withCond, role, roleless role]
      · simp [Contact.withCond, role] }

theorem ContactSound.cond_roleless {c : Contact} (h : ContactSound c) (role : c.role = .none) : c.cond = false := by
  rw [h.cond, Bool.eq_false_iff, Ne, Contact.due_iff]
  exact fun due => due.1 role

/-! ### The stop contacts set -/

theorem mem_stopReported (k j : Fin 24) (s : State) :
    j ∈ (stopReported k s).cooler.stopContacts ↔ j = k ∨ j ∈ s.cooler.stopContacts := by
  by_cases present : k ∈ s.cooler.stopContacts
  · rw [stopReported_present present]
    exact ⟨.inr, fun h => h.elim (fun same => same ▸ present) id⟩
  · rw [stopReported_joins present, refreshHoldback_cooler]
    simp [or_comm]

theorem mem_stopReturned (k j : Fin 24) (s : State) :
    j ∈ (stopReturned k s).cooler.stopContacts ↔ j ≠ k ∧ j ∈ s.cooler.stopContacts := by
  by_cases present : k ∈ s.cooler.stopContacts
  · rw [stopReturned_leaves present rfl, refreshHoldback_cooler]
    simp [and_comm]
  · rw [stopReturned_absent present]
    exact ⟨fun mem => ⟨fun same => present (same ▸ mem), mem⟩, And.right⟩

theorem mem_goesAbnormal (k j : Fin 24) (s : State) :
    j ∈ (goesAbnormal k s).cooler.stopContacts ↔
      (j = k ∧ (s.contact k).role = .coolerStop) ∨ j ∈ s.cooler.stopContacts := by
  cases role : (s.contact k).role with
  | none => simp [goesAbnormal_none role]
  | alarm => simp [goesAbnormal_alarm role]
  | streamInterlock => simp [goesAbnormal_interlock role, (reportInterlocks_sameBlocks _ _).cooler]
  | coolerStop => simp [goesAbnormal_coolerStop role, mem_stopReported]

theorem mem_returnsNormal (k j : Fin 24) (s : State) :
    j ∈ (returnsNormal k s).cooler.stopContacts ↔
      ¬(j = k ∧ (s.contact k).role = .coolerStop) ∧ j ∈ s.cooler.stopContacts := by
  cases role : (s.contact k).role with
  | none => simp [returnsNormal_none role]
  | alarm => simp [returnsNormal_cleared (.inl role)]
  | streamInterlock => simp [returnsNormal_cleared (.inr role)]
  | coolerStop => simp [returnsNormal_coolerStop role, mem_stopReturned]

/-! ### The turn of one contact -/

/-- The contacts of a state are those of its table. -/
theorem State.contact_congr {s t : State} (h : t.contacts = s.contacts) (k : Fin 24) : t.contact k = s.contact k := by
  rw [State.contact, h]
  rfl

/-- From `s` to `t` no other contact is reached, nor its place in the stop contacts set. -/
structure ContactTurn (k : Fin 24) (s t : State) : Prop where
  contacts : ∀ j ≠ k, t.contact j = s.contact j
  members : ∀ j ≠ k, (j ∈ t.cooler.stopContacts ↔ j ∈ s.cooler.stopContacts)

theorem ContactTurn.of_eq {k : Fin 24} {s t : State} (contacts : t.contacts = s.contacts)
    (members : ∀ j ≠ k, (j ∈ t.cooler.stopContacts ↔ j ∈ s.cooler.stopContacts)) : ContactTurn k s t :=
  ⟨fun j _ => State.contact_congr contacts j, members⟩

theorem ContactTurn.trans {k : Fin 24} {s t u : State} (h : ContactTurn k s t) (g : ContactTurn k t u) :
    ContactTurn k s u :=
  ⟨fun j other => (g.contacts j other).trans (h.contacts j other),
    fun j other => (g.members j other).trans (h.members j other)⟩

theorem ContactTurn.raiseAlarm {k : Fin 24} {s t : State} (h : ContactTurn k s t) (r : Raise) :
    ContactTurn k s (Machine.raiseAlarm r t) :=
  h.trans (.of_eq rfl fun _ _ => Iff.rfl)

theorem ContactTurn.clearAlarm {k : Fin 24} {s t : State} (h : ContactTurn k s t) (c : AlarmCode) :
    ContactTurn k s (Machine.clearAlarm c t) :=
  h.trans (.of_eq rfl fun _ _ => Iff.rfl)

theorem modContact_turn (k : Fin 24) (f : Contact → Contact) (s : State) : ContactTurn k s (s.modContact k f) :=
  ⟨fun _ other => State.modContact_contact_other _ _ _ _ other, fun _ _ => Iff.rfl⟩

theorem goesAbnormal_contact (k : Fin 24) (s : State) :
    (goesAbnormal k s).contact k = (s.contact k).withCond true := by
  rw [State.contact_congr (goesAbnormal_scanKept k s).2, State.modContact_contact_self]

theorem returnsNormal_contact (k : Fin 24) (s : State) :
    (returnsNormal k s).contact k = (s.contact k).withCond false := by
  rw [State.contact_congr (returnsNormal_scanKept k s).2, State.modContact_contact_self]

theorem goesAbnormal_turn (k : Fin 24) (s : State) : ContactTurn k s (goesAbnormal k s) where
  contacts j other := by
    rw [State.contact_congr (goesAbnormal_scanKept k s).2, State.modContact_contact_other _ _ _ _ other]
  members j other := by simp [mem_goesAbnormal, other]

theorem returnsNormal_turn (k : Fin 24) (s : State) : ContactTurn k s (returnsNormal k s) where
  contacts j other := by
    rw [State.contact_congr (returnsNormal_scanKept k s).2, State.modContact_contact_other _ _ _ _ other]
  members j other := by simp [mem_returnsNormal, other]

/-- Sound contacts stay sound through the turn of one of them that leaves it sound, and in the stop contacts set exactly
where it stops the cooler. -/
theorem ContactsSound.turn {s t : State} {k : Fin 24} (h : ContactsSound s) (turn : ContactTurn k s t)
    (own : ContactSound (t.contact k)) (member : k ∈ t.cooler.stopContacts ↔ (t.contact k).stops = true) :
    ContactsSound t where
  contacts j := by
    by_cases same : j = k
    · exact same ▸ own
    · exact turn.contacts j same ▸ h.contacts j
  stops j := by
    by_cases same : j = k
    · exact same ▸ member
    · rw [turn.members j same, turn.contacts j same]
      exact h.stops j

theorem ContactsSound.modContact {s : State} {k : Fin 24} {f : Contact → Contact} (h : ContactsSound s)
    (own : ContactSound (f (s.contact k))) (stops : (f (s.contact k)).stops = (s.contact k).stops) :
    ContactsSound (s.modContact k f) := by
  refine h.turn (modContact_turn k f s) ?_ ?_ <;> rw [State.modContact_contact_self]
  · exact own
  · rw [stops]
    exact h.stops k

/-- A contact that has come to read abnormal, acted on (R131). -/
theorem ContactsSound.goesAbnormal {s u : State} {k : Fin 24} (h : ContactsSound s) (turn : ContactTurn k s u)
    (same : u.cooler = s.cooler) (role : (u.contact k).role = (s.contact k).role)
    (cond : (u.contact k).cond = (s.contact k).cond)
    (own : ContactSound { u.contact k with cond := (u.contact k).due }) (abnormal : (u.contact k).abnormal = true) :
    ContactsSound (goesAbnormal k u) := by
  refine h.turn (turn.trans (goesAbnormal_turn k u)) ?_ ?_
  · rw [goesAbnormal_contact]
    exact own.withCond (fun none => cond.trans ((h.contacts k).cond_roleless (role ▸ none))) abnormal
  · have before : k ∈ u.cooler.stopContacts → (u.contact k).role = .coolerStop := by
      rw [same, h.stops, Contact.stops_iff, role]
      exact And.left
    rw [mem_goesAbnormal, goesAbnormal_contact, Contact.stops_withCond, Contact.stops_iff]
    simpa [abnormal] using before

/-- A contact that has come to read normal, acted on (R131). -/
theorem ContactsSound.returnsNormal {s u : State} {k : Fin 24} (h : ContactsSound s) (turn : ContactTurn k s u)
    (same : u.cooler = s.cooler) (role : (u.contact k).role = (s.contact k).role)
    (cond : (u.contact k).cond = (s.contact k).cond)
    (own : ContactSound { u.contact k with cond := (u.contact k).due }) (normal : (u.contact k).abnormal = false) :
    ContactsSound (returnsNormal k u) := by
  refine h.turn (turn.trans (returnsNormal_turn k u)) ?_ ?_
  · rw [returnsNormal_contact]
    exact own.withCond (fun none => cond.trans ((h.contacts k).cond_roleless (role ▸ none))) normal
  · have before : k ∈ u.cooler.stopContacts → (u.contact k).role = .coolerStop := by
      rw [same, h.stops, Contact.stops_iff, role]
      exact And.left
    rw [mem_returnsNormal, returnsNormal_contact, Contact.stops_withCond, Contact.stops_iff]
    simpa [normal, not_imp_not] using before

/-! ### Samples -/

theorem sampleContact_contacts (k : Fin 24) (level : Level) {s : State} (h : ContactsSound s) :
    ContactsSound (sampleContact k level s) := by
  have own := h.contacts k
  have accepted : ContactSound { (s.contact k).accept level with cond := ((s.contact k).accept level).due } :=
    { own with cond := rfl, count := Nat.zero_lt_of_lt own.count }
  by_cases same : level = (s.contact k).accepted
  · rw [sampleContact_agrees same]
    have reading : (s.contact k).accept level = { s.contact k with count := 0 } := by rw [Contact.accept, same]
    refine h.modContact ?_ ?_ <;> rw [reading]
    · exact { own with count := Nat.zero_lt_of_lt own.count }
    · rfl
  by_cases few : (s.contact k).count + 1 < (s.contact k).debounce
  · rw [sampleContact_counts same few]
    exact h.modContact { own with count := few } rfl
  cases forced : (s.contact k).forced with
  | true =>
    rw [sampleContact_forced same (not_lt.mp few) forced]
    have reading (c : Contact) (hc : c.forced = true) : c.stops = false := by
      rw [Contact.stops, Contact.abnormal_of_forced hc, Bool.and_false]
    have due : (s.contact k).due = ((s.contact k).accept level).due := by simp [Contact.due, Contact.accept, forced]
    exact h.modContact { accepted with cond := own.cond.trans due }
      ((reading ((s.contact k).accept level) forced).trans (reading _ forced).symm)
  | false =>
    have reads : ((s.contact k).accept level).abnormal = (level != (s.contact k).normal) := by
      simp [Contact.abnormal, Contact.reading, Contact.accept, forced]
    by_cases normal : level = (s.contact k).normal
    · rw [sampleContact_normal same (not_lt.mp few) forced normal]
      refine h.returnsNormal (modContact_turn k _ s) rfl ?_ ?_ ?_ ?_ <;> rw [State.modContact_contact_self]
      · rfl
      · rfl
      · exact accepted
      · simpa [normal] using reads
    · rw [sampleContact_abnormal same (not_lt.mp few) forced normal]
      refine h.goesAbnormal (modContact_turn k _ s) rfl ?_ ?_ ?_ ?_ <;> rw [State.modContact_contact_self]
      · rfl
      · rfl
      · exact accepted
      · exact reads.trans (bne_iff_ne.mpr normal)

/-! ### SET_CONTACT -/

/-- Step 1 of R133: the contact's condition comes to be the one that is due. -/
theorem settleCondition_contact {k : Fin 24} {before : Bool} {s : State} (cond : (s.contact k).cond = before) :
    (settleCondition k before s).contact k = { s.contact k with cond := (s.contact k).due } := by
  unfold settleCondition
  split
  case isTrue goesOff =>
    obtain ⟨-, due⟩ := Bool.and_eq_true_iff.mp goesOff
    simp only [clearContact, clearAlarm_contact, State.modContact_contact_self]
    rw [Bool.not_eq_true' _ |>.mp due]
  split
  case isTrue comesOn =>
    obtain ⟨-, due⟩ := Bool.and_eq_true_iff.mp comesOn
    simp only [raiseContact, raiseAlarm_contact, State.modContact_contact_self]
    rw [due]
  case isFalse goesOff comesOn =>
    have same : (s.contact k).due = (s.contact k).cond := by
      rw [cond]
      cases before <;> cases due : (s.contact k).due <;> simp_all
    rw [same]

theorem settleCondition_turn (k : Fin 24) (before : Bool) (s : State) :
    ContactTurn k s (settleCondition k before s) := by
  unfold settleCondition
  repeat' split
  · exact (modContact_turn k _ s).clearAlarm _
  · exact (modContact_turn k _ s).raiseAlarm _
  · exact .of_eq rfl fun _ _ => Iff.rfl

theorem settleStop_contacts (k : Fin 24) (old new : Contact) (s : State) :
    (settleStop k old new s).contacts = s.contacts := by
  unfold settleStop
  repeat' split
  · exact (stopReturned_scanKept k s).2
  · exact (stopReported_scanKept k s).2
  · rfl

theorem settleStop_turn (k : Fin 24) (old new : Contact) (s : State) : ContactTurn k s (settleStop k old new s) := by
  refine .of_eq (settleStop_contacts k old new s) fun j other => ?_
  unfold settleStop
  repeat' split
  · simp [mem_stopReturned, other]
  · simp [mem_stopReported, other]
  · rfl

/-- Step 3 of R133: the contact comes to be in the stop contacts set exactly where it stops the cooler. -/
theorem mem_settleStop {k : Fin 24} {old : Contact} (new : Contact) {s : State}
    (before : k ∈ s.cooler.stopContacts ↔ old.stops = true) :
    k ∈ (settleStop k old new s).cooler.stopContacts ↔ new.stops = true := by
  unfold settleStop
  split
  case isTrue leaves =>
    obtain ⟨-, free⟩ := Bool.and_eq_true_iff.mp leaves
    simp [mem_stopReturned, Bool.not_eq_true' _ |>.mp free]
  split
  case isTrue joins =>
    obtain ⟨stops, -⟩ := Bool.and_eq_true_iff.mp joins
    simp [mem_stopReported, stops]
  case isFalse leaves joins =>
    rw [before]
    cases was : old.stops <;> cases is : new.stops <;> simp_all

theorem settleInterlocks_turn (k : Fin 24) (old new : Contact) (s : State) :
    ContactTurn k s (settleInterlocks old new s) :=
  have same := reportInterlocks_sameBlocks (fun i => new.covers i && !old.covers i) s
  .of_eq same.contacts fun j _ => by rw [settleInterlocks, same.cooler]

/-- The contact written, under its condition as it is due (R133). -/
theorem replaceContact_contact {k : Fin 24} {new : Contact} {s : State} (cond : new.cond = (s.contact k).cond) :
    (replaceContact k new s).contact k = { new with cond := new.due } := by
  have written : (s.modContact k fun _ => new).contact k = new := State.modContact_contact_self _ _ _
  unfold replaceContact
  rw [State.contact_congr (settleStop_contacts k _ new _), settleInterlocks,
    State.contact_congr (reportInterlocks_sameBlocks _ _).contacts, settleCondition_contact (by rw [written, cond]), written]

theorem replaceContact_turn (k : Fin 24) (new : Contact) (s : State) : ContactTurn k s (replaceContact k new s) :=
  (modContact_turn k _ s).trans <| (settleCondition_turn k _ _).trans <| (settleInterlocks_turn k _ new _).trans <|
    settleStop_turn k _ new _

theorem replaceContact_contacts {k : Fin 24} {new : Contact} {s : State} (h : ContactsSound s)
    (rewritten : Contact.RewrittenFrom (s.contact k) new) : ContactsSound (replaceContact k new s) := by
  refine h.turn (replaceContact_turn k new s) ?_ ?_ <;> rw [replaceContact_contact rewritten.cond]
  · exact ⟨rewritten.mask, rfl, rewritten.forcedCond.trans ((h.contacts k).forced.trans rewritten.forced.symm),
      rewritten.count⟩
  · refine mem_settleStop new ?_
    rw [settleInterlocks, (reportInterlocks_sameBlocks _ _).cooler, settleCondition_cooler]
    exact h.stops k

/-! ### FORCE_CONTACT and UNFORCE -/

theorem force_turn (k : Fin 24) (s : State) : ContactTurn k s (force k s) := by
  have forced := modContact_turn k (fun c => { c with forced := true }) s
  have flagged (t : State) : ContactTurn k t (raiseAlarm (forcedRaise k)
      (t.modContact k fun c => { c with forcedCond := true })) := (modContact_turn k _ t).raiseAlarm _
  unfold force
  dsimp only
  split
  · exact (forced.trans (returnsNormal_turn k _)).trans (flagged _)
  · exact forced.trans (flagged _)

/-- A forced contact, its CONTACT condition off where it read abnormal before (R134). -/
theorem force_contact (k : Fin 24) (s : State) :
    (force k s).contact k =
      { s.contact k with
        forced := true
        forcedCond := true
        cond := if (s.contact k).role ≠ .none ∧ (s.contact k).abnormal = true then false else (s.contact k).cond } := by
  unfold force
  dsimp only
  rw [raiseAlarm_contact, State.modContact_contact_self]
  split
  case isTrue abnormal =>
    rw [returnsNormal_contact, State.modContact_contact_self]
    by_cases role : (s.contact k).role = .none <;> simp [Contact.withCond, role, abnormal]
  case isFalse normal => rw [State.modContact_contact_self, if_neg fun both => normal both.2]

theorem mem_force (k : Fin 24) {s : State} (h : ContactsSound s) : k ∉ (force k s).cooler.stopContacts := by
  have before := (h.stops k).trans (Contact.stops_iff _)
  unfold force
  dsimp only
  rw [raiseAlarm_cooler, State.modContact_cooler]
  split
  case isTrue =>
    rw [mem_returnsNormal, State.modContact_contact_self]
    exact fun both => both.1 ⟨rfl, (before.mp both.2).1⟩
  case isFalse normal => exact fun mem => normal (before.mp mem).2

theorem force_contacts (k : Fin 24) {s : State} (h : ContactsSound s) : ContactsSound (force k s) := by
  have own := h.contacts k
  refine h.turn (force_turn k s) ?_ (iff_of_false (mem_force k h) ?_) <;> rw [force_contact]
  · refine { own with cond := ?_, forced := rfl }
    have due : Contact.due { s.contact k with
        forced := true
        forcedCond := true
        cond := if (s.contact k).role ≠ .none ∧ (s.contact k).abnormal = true then false else (s.contact k).cond } =
          false := by simp [Contact.due]
    rw [due]
    split
    case isTrue => rfl
    case isFalse free => rwa [own.cond, Bool.eq_false_iff, Ne, Contact.due_iff]
  · simp [Contact.stops, Contact.abnormal, Contact.reading]

/-- A contact no longer forced goes abnormal where its accepted state is away from the normal one (R135). -/
theorem liftForce_eq (k : Fin 24) (s : State) :
    ∃ u, ContactTurn k s u ∧ u.cooler = s.cooler ∧
      u.contact k = { s.contact k with forced := false, forcedCond := false } ∧
      liftForce k s = if (u.contact k).abnormal = true then goesAbnormal k u else u :=
  ⟨clearAlarm (.contactForced k) (s.modContact k fun c => { c with forced := false, forcedCond := false }),
    (modContact_turn k _ s).clearAlarm _, rfl, (clearAlarm_contact _ _ _).trans (State.modContact_contact_self _ _ _), rfl⟩

theorem liftForce_turn (k : Fin 24) (s : State) : ContactTurn k s (liftForce k s) := by
  obtain ⟨u, turn, -, -, lifted⟩ := liftForce_eq k s
  rw [lifted]
  split
  · exact turn.trans (goesAbnormal_turn k u)
  · exact turn

theorem liftForce_contacts {k : Fin 24} {s : State} (h : ContactsSound s) (forced : (s.contact k).forced = true) :
    ContactsSound (liftForce k s) := by
  obtain ⟨u, turn, cooler, contact, lifted⟩ := liftForce_eq k s
  have own : ContactSound { u.contact k with cond := (u.contact k).due } := by
    rw [contact]
    exact { h.contacts k with cond := rfl, forced := rfl }
  have still (c : Contact) (hc : c.abnormal = false) : c.due = false ∧ c.stops = false := by
    simp [Contact.due, Contact.stops, hc]
  have before := still _ (Contact.abnormal_of_forced forced)
  have cond : (u.contact k).cond = (s.contact k).cond := by rw [contact]
  rw [lifted]
  split
  case isTrue abnormal => exact h.goesAbnormal turn cooler (by rw [contact]) cond own abnormal
  case isFalse normal =>
    have after := still _ (Bool.eq_false_iff.mpr normal)
    refine h.turn turn { own with cond := ?_ } ?_
    · rw [cond, (h.contacts k).cond, before.1, after.1]
    · rw [cooler, h.stops, before.2, after.2]

/-! ### Every step keeps the contacts sound -/

/-- A state with the contacts and the stop contacts set of a sound one. -/
theorem ContactsSound.of_eq {s t : State} (h : ContactsSound s) (contacts : t.contacts = s.contacts)
    (stops : t.cooler.stopContacts = s.cooler.stopContacts) : ContactsSound t where
  contacts k := by rw [State.contact_congr contacts]; exact h.contacts k
  stops k := by rw [State.contact_congr contacts, stops]; exact h.stops k

theorem State.plant_contacts {s t : State} (h : t.plant = s.plant) : t.contacts = s.contacts :=
  congrArg (fun p => p.2.2) h

theorem State.plant_streams {s t : State} (h : t.plant = s.plant) : t.streams = s.streams := congrArg Prod.fst h

theorem PlantMove.contactsSound {s t : State} (m : PlantMove s t) (h : ContactsSound s) : ContactsSound t := by
  cases m with
  | streams unlit cooler contacts => exact h.of_eq contacts (by rw [cooler])
  | light free others cooler contacts => exact h.of_eq contacts (by rw [cooler])
  | cooler move streams contacts => exact h.of_eq contacts move.stopContacts
  | sample same => exact same ▸ sampleContact_contacts _ _ h
  | replace rewritten free same => exact same ▸ replaceContact_contacts h rewritten
  | force free same => exact same ▸ force_contacts _ h
  | lift forced same => exact same ▸ liftForce_contacts h forced
  | reset same =>
    exact resetIsSound.contacts.of_eq (State.plant_contacts same) (by rw [State.plant_cooler same])

/-! ### Every step keeps forced guards away from burning streams -/

theorem State.masksBurning_eq_false {s : State} {mask : BitVec 8} (h : s.masksBurning mask = false) (i : Fin 8)
    (named : mask.getLsbD i.val = true) : (s.stream i).state.burning = false := by
  refine Bool.eq_false_iff.mpr fun burning => Bool.eq_false_iff.mp h ?_
  exact List.any_eq_true.mpr ⟨i, mem_all8 i, by rw [named, burning]; rfl⟩

/-- No stream set alight, and one contact written: with a mask only under STREAM_INTERLOCK, and where it is forced with no
stream in its mask that burned. -/
theorem ForcesSound.turn {s t : State} {k : Fin 24} (h : ForcesSound s) (turn : ContactTurn k s t) (unlit : NoneLit s t)
    (mask : (t.contact k).role ≠ .streamInterlock → (t.contact k).mask = 0)
    (guards : ∀ i : Fin 8, (t.contact k).forced = true → (t.contact k).mask.getLsbD i.val = true →
      (s.stream i).state.burning = false) : ForcesSound t where
  mask j := by
    by_cases same : j = k
    · exact same ▸ mask
    · rw [turn.contacts j same]
      exact h.mask j
  guards j i forced named := by
    refine Bool.eq_false_iff.mpr fun burning => Bool.eq_false_iff.mp ?_ (unlit i burning)
    by_cases same : j = k
    · subst same; exact guards i forced named
    · rw [turn.contacts j same] at forced named
      exact h.guards j i forced named

/-- The turn of a contact that leaves its role, its mask and its forced flag. -/
theorem ForcesSound.keptTurn {s t : State} {k : Fin 24} (h : ForcesSound s) (turn : ContactTurn k s t)
    (unlit : NoneLit s t) (role : (t.contact k).role = (s.contact k).role)
    (mask : (t.contact k).mask = (s.contact k).mask) (forced : (t.contact k).forced = (s.contact k).forced) :
    ForcesSound t :=
  h.turn turn unlit (by rw [role, mask]; exact h.mask k) fun i => by rw [forced, mask]; exact h.guards k i

theorem ForcesSound.of_contacts {s t : State} (h : ForcesSound s) (contacts : t.contacts = s.contacts)
    (unlit : NoneLit s t) : ForcesSound t where
  mask k := by rw [State.contact_congr contacts]; exact h.mask k
  guards k i forced named := by
    rw [State.contact_congr contacts] at forced named
    exact Bool.eq_false_iff.mpr fun burning => Bool.eq_false_iff.mp (h.guards k i forced named) (unlit i burning)

/-- LIGHT is refused where a contact that guards the stream is forced (R39). -/
theorem ForcesSound.light {s t : State} {i : Fin 8} (h : ForcesSound s) (free : s.guardForced i = false)
    (others : ∀ j ≠ i, t.stream j = s.stream j) (contacts : t.contacts = s.contacts) : ForcesSound t where
  mask k := by rw [State.contact_congr contacts]; exact h.mask k
  guards k j forced named := by
    rw [State.contact_congr contacts] at forced named
    by_cases own : j = i
    · subst own
      have role : (s.contact k).role = .streamInterlock := by
        by_contra other
        simp [h.mask k other] at named
      exact absurd ((State.guardForced_iff s j).mpr ⟨k, role, named, forced⟩) (Bool.eq_false_iff.mp free)
    · rw [others j own]
      exact h.guards k j forced named

theorem sampleContact_turn (k : Fin 24) (level : Level) (s : State) : ContactTurn k s (sampleContact k level s) := by
  unfold sampleContact actOnReading
  repeat' split
  · exact (modContact_turn k _ s).trans (goesAbnormal_turn k _)
  · exact (modContact_turn k _ s).trans (returnsNormal_turn k _)
  · exact modContact_turn k _ s

theorem Contact.sampled_setup (level : Level) (c : Contact) :
    (c.sampled level).role = c.role ∧ (c.sampled level).mask = c.mask ∧ (c.sampled level).forced = c.forced := by
  unfold Contact.sampled
  repeat' split
  all_goals exact ⟨rfl, rfl, rfl⟩

/-- A sample leaves the role, the mask and the forced flag (R130). -/
theorem sampleContact_setup (k : Fin 24) (level : Level) (s : State) :
    ((sampleContact k level s).contact k).role = (s.contact k).role ∧
      ((sampleContact k level s).contact k).mask = (s.contact k).mask ∧
      ((sampleContact k level s).contact k).forced = (s.contact k).forced := by
  have sampled := (s.contact k).sampled_setup level
  unfold sampleContact actOnReading
  repeat' split
  · rw [goesAbnormal_contact, State.modContact_contact_self]; exact sampled
  · rw [returnsNormal_contact, State.modContact_contact_self]; exact sampled
  · rw [State.modContact_contact_self]; exact sampled

theorem liftForce_forced (k : Fin 24) (s : State) :
    ((liftForce k s).contact k).role = (s.contact k).role ∧ ((liftForce k s).contact k).mask = (s.contact k).mask ∧
      ((liftForce k s).contact k).forced = false := by
  obtain ⟨u, -, -, contact, lifted⟩ := liftForce_eq k s
  rw [lifted]
  split
  · rw [goesAbnormal_contact, contact]; exact ⟨rfl, rfl, rfl⟩
  · rw [contact]; exact ⟨rfl, rfl, rfl⟩

theorem PlantMove.forcesSound {s t : State} (m : PlantMove s t) (h : ForcesSound s) : ForcesSound t := by
  cases m with
  | streams unlit cooler contacts => exact h.of_contacts contacts unlit
  | light free others cooler contacts => exact h.light free others contacts
  | cooler move streams contacts => exact h.of_contacts contacts (.of_eq streams)
  | @sample k level same =>
    obtain ⟨role, mask, forced⟩ := sampleContact_setup k level s
    subst same
    exact h.keptTurn (sampleContact_turn k level s) (sampleContact_noneLit k level s) role mask forced
  | @replace k new rewritten free same =>
    subst same
    refine h.turn (replaceContact_turn k new s) (replaceContact_noneLit k new s) ?_ fun i => ?_ <;>
      rw [replaceContact_contact rewritten.cond]
    · exact rewritten.mask
    · exact fun forced => State.masksBurning_eq_false (free (rewritten.forced ▸ forced)) i
  | @force k free same =>
    subst same
    refine h.turn (force_turn k s) (.of_eq (force_streams k s)) ?_ fun i _ => ?_ <;> rw [force_contact]
    · exact h.mask k
    · exact State.masksBurning_eq_false free i
  | @lift k forced same =>
    obtain ⟨role, mask, free⟩ := liftForce_forced k s
    subst same
    refine h.turn (liftForce_turn k s) (liftForce_noneLit k s) (by rw [role, mask]; exact h.mask k) fun i forced => ?_
    exact absurd (free.symm.trans forced) Bool.false_ne_true
  | reset same =>
    exact resetIsSound.forces.of_contacts (State.plant_contacts same) (.of_eq (State.plant_streams same))

/-- Settles O60, by the moves that a step makes. -/
theorem stepKeepsContactsSound : Obligations.StepKeepsContactsSound :=
  ⟨fun _ _ hs h => (step_plant h).preserves (fun _ _ m => m.contactsSound) hs,
    fun _ _ hs h => (step_plant h).preserves (fun _ _ m => m.forcesSound) hs⟩

end Sys2Proof.Machine
end

section
/-! PROOFS. SET_COOLER and COOLER_MODE in every state: what a body carries, when it is refused, and the outputs, the stall
timers and the holdback offer when it is taken (R113 to R115, R121, R125). -/

namespace Sys2Proof.Machine

/-! ### What a SET_COOLER body carries -/

theorem all4_all_iff (p : Fin 4 → Bool) : all4.all p = true ↔ ∀ k, p k = true := by
  simp [List.all_eq_true, mem_all4]

theorem sectionAt_smax (k : Fin 4) : sectionAt k + 2 = 15 + 5 * k.val := by
  unfold sectionAt
  omega

theorem sectionAt_step (k : Fin 4) : sectionAt k + 4 = 17 + 5 * k.val := by
  unfold sectionAt
  omega

theorem sectionInRange_iff (b : List Byte) (k : Fin 4) :
    sectionInRange b k = true ↔
      u16 b (13 + 5 * k.val) ≤ 300 ∧ u16 b (15 + 5 * k.val) ≤ 300 ∧ 1 ≤ u8 b (17 + 5 * k.val) ∧
        u8 b (17 + 5 * k.val) ≤ 20 := by
  simp only [sectionInRange, Bool.and_eq_true, decide_eq_true_eq, within_iff, and_assoc, sectionAt_smax,
    sectionAt_step]
  rfl

/-- The ratios stand at positions 33 to 35. -/
theorem ratiosInRange_iff (b : List Byte) :
    (∀ k, 33 ≤ k → k ≤ 35 → 50 ≤ u8 b k ∧ u8 b k ≤ 200) ↔
      (50 ≤ u8 b 33 ∧ u8 b 33 ≤ 200) ∧ (50 ≤ u8 b 34 ∧ u8 b 34 ≤ 200) ∧ 50 ≤ u8 b 35 ∧ u8 b 35 ≤ 200 := by
  refine ⟨fun h => ⟨h 33 (by omega) (by omega), h 34 (by omega) (by omega), h 35 (by omega) (by omega)⟩, ?_⟩
  rintro ⟨first, second, third⟩ k low high
  obtain rfl | rfl | rfl : k = 33 ∨ k = 34 ∨ k = 35 := by omega
  · exact first
  · exact second
  · exact third

theorem coolerInRange_iff (b : List Byte) (n : Fin 8) :
    coolerInRange b n = true ↔
      u16 b 0 ≤ 32767 ∧ u16 b 2 ≤ 300 ∧ u8 b 4 ≤ 50 ∧ u16 b 5 ≤ 32767 ∧ 10 ≤ u16 b 7 ∧ u16 b 7 ≤ 300 ∧
      u8 b 9 ≤ 30 ∧ 1 ≤ u16 b 10 ∧ u16 b 10 ≤ 2000 ∧
      (∀ k : Fin 4, u16 b (13 + 5 * k.val) ≤ 300 ∧ u16 b (15 + 5 * k.val) ≤ 300 ∧ 1 ≤ u8 b (17 + 5 * k.val) ∧
        u8 b (17 + 5 * k.val) ≤ 20) ∧
      ∀ k, 33 ≤ k → k ≤ 35 → 50 ≤ u8 b k ∧ u8 b k ≤ 200 := by
  rw [ratiosInRange_iff]
  simp only [coolerInRange, CoolerSettings.inRange, Bool.and_eq_true, decide_eq_true_eq, within_iff, all4_all_iff,
    sectionInRange_iff, and_assoc]
  rfl

theorem coolerOrdered_iff (b : List Byte) :
    coolerOrdered b = true ↔ ∀ k : Fin 4, u16 b (13 + 5 * k.val) ≤ u16 b (15 + 5 * k.val) := by
  simp only [coolerOrdered, all4_all_iff, decide_eq_true_eq, sectionAt_smax]
  rfl

/-! ### SET_COOLER -/

theorem execSetCooler_sent {r : Request} {s : State} (h : Sent [.proc] 36 r s) :
    exec (.setCooler r) s =
      .next (settleReply .proc 0x2E#8 (openRequest r s) (setCooler r.body (openRequest r s))) := by
  have taken : exec (.setCooler r) s = _ := takeRequest_of_sent (row := Cmd.setCooler) h (by decide) (by decide)
  rw [taken, List.mem_singleton.mp h.link]
  rfl

theorem setCooler_badIndex {b : List Byte} (s : State) (h : 7 < u8 b 12) : setCooler b s = .refuse .badIndex := by
  rw [setCooler, index8_none h]

theorem setCooler_range {b : List Byte} {n : Fin 8} (s : State) (slot : u8 b 12 = n.val)
    (h : coolerInRange b n = false ∨ coolerOrdered b = false) : setCooler b s = .refuse .range := by
  simp only [setCooler, slot, index8_val]
  obtain outside | unordered := h
  · rw [outside]; rfl
  · rw [unordered]; exact ite_self _

theorem setCooler_taken {b : List Byte} {n : Fin 8} (s : State) (slot : u8 b 12 = n.val)
    (range : coolerInRange b n = true) (ordered : coolerOrdered b = true) :
    setCooler b s = .done (takeCooler b n s) (coolerBytes (takeCooler b n s).cooler) := by
  simp only [setCooler, slot, index8_val, range, ordered]
  rfl

theorem takeCooler_cooler (b : List Byte) (n : Fin 8) (s : State) :
    (takeCooler b n s).cooler = (s.cooler.configured b n).fitOutputs := by
  unfold takeCooler
  split <;> rfl

theorem takeCooler_frame (b : List Byte) (n : Fin 8) (s : State) :
    takeCooler b n s =
      { s with
        cooler := (takeCooler b n s).cooler, mainSite := (takeCooler b n s).mainSite
        calcSite := (takeCooler b n s).calcSite } := by
  unfold takeCooler
  split <;> rfl

/-- A standing holdback offer is replaced at both sites (R114). -/
theorem takeCooler_siteRec (b : List Byte) (n : Fin 8) (s : State) (x : Site) :
    (takeCooler b n s).siteRec x =
      if s.cooler.holdback = true then SiteRec.recompute { s.siteRec x with holdbackOffer := some (u8 b 9) }
      else s.siteRec x := by
  unfold takeCooler
  split <;> cases x <;> rfl

/-- A section under SET_COOLER: the carried fields, and the manual rate clamped between them (R114). -/
theorem Section.configured_eq (b : List Byte) (k : Fin 4) (x : Section) :
    x.configured b k =
      { x with
        smin := u16 b (13 + 5 * k.val)
        smax := u16 b (15 + 5 * k.val)
        step := u8 b (17 + 5 * k.val)
        manual := clampNat (u16 b (13 + 5 * k.val)) (u16 b (15 + 5 * k.val)) x.manual } := by
  rw [Section.configured, sectionAt_smax, sectionAt_step]
  rfl

/-- Settles O40: the body by its positions, then the checks in their order; the cooler taken is driven section by
section. -/
theorem setCoolerReplacesSettings : Obligations.SetCoolerReplacesSettings := by
  refine ⟨fun b n => ⟨rfl, coolerInRange_iff b n, coolerOrdered_iff b⟩, fun r s h =>
    ⟨fun foreign => ?badIndex, fun n slot => ⟨fun unfit => ?range, fun range ordered => ?taken⟩⟩⟩
  case badIndex => rw [execSetCooler_sent h, setCooler_badIndex _ foreign, settleReply_refuse]
  case range => rw [execSetCooler_sent h, setCooler_range _ slot unfit, settleReply_refuse]
  case taken =>
    have configured (k : Fin 4) : (s.cooler.configured r.body n).sections[k] = _ :=
      (Cooler.configured_section r.body n s.cooler k).trans (Section.configured_eq _ _ _)
    have driven := takeCooler_cooler r.body n (openRequest r s)
    rw [openRequest_cooler, Cooler.fitOutputs_eq] at driven
    refine ⟨takeCooler r.body n (openRequest r s), ?_, takeCooler_frame _ _ _, ?_, fun x => ?_, fun k => ⟨?_, ?_, ?_⟩⟩
    · rw [execSetCooler_sent h, setCooler_taken _ slot range ordered, settleReply_done]
    · rw [driven]
      rfl
    · rw [takeCooler_siteRec, openRequest_cooler, openRequest_siteRec]
    · rw [driven, Cooler.driveAll_section, configured]
      rfl
    · rw [driven, Cooler.driveAll_output, Cooler.driveAll_section, configured]
      rfl
    · have follows := Cooler.driveAll_drivenTo (fun k : Fin 4 =>
        if (s.cooler.configured r.body n).stopContacts ≠ [] then 0
        else if (s.cooler.configured r.body n).mode = .manual then (s.cooler.configured r.body n).sections[k].manual
        else min (s.cooler.configured r.body n).sections[k].output (s.cooler.configured r.body n).sections[k].smax)
        (s.cooler.configured r.body n) k
      rw [configured] at follows
      rw [driven]
      exact follows

/-! ### COOLER_MODE -/

theorem execCoolerModeManual_sent {n : Nat} {r : Request} {s : State} (h : Sent [.proc] n r s) (length : n = 1 ∨ n = 9) :
    exec (.coolerModeManual r) s =
      .next (settleReply .proc 0x2F#8 (openRequest r s) (coolerMode r.body (openRequest r s))) := by
  have taken : exec (.coolerModeManual r) s = _ :=
    takeRequest_of_sent (row := Cmd.coolerMode) h (by simpa [Cmd.coolerMode] using length) (by omega)
  rw [taken, List.mem_singleton.mp h.link]
  rfl

/-- Either row of COOLER_MODE takes the body by its bytes (log entry 9). -/
theorem execCoolerModeAuto_eq (r : Request) (s : State) : exec (.coolerModeAuto r) s = exec (.coolerModeManual r) s := rfl

theorem coolerMode_manual {b : List Byte} (s : State) (length : b.length = 9) (mode : u8 b 0 = 0x00) :
    coolerMode b s =
      .take (takeManual b s) (if ratesClamped b s.cooler then .okClamped else .ok)
        (coolerBytes (takeManual b s).cooler) := by
  simp only [coolerMode, mode, length]

theorem coolerMode_auto {b : List Byte} (s : State) (length : b.length = 1) (mode : u8 b 0 = 0x01) :
    coolerMode b s = .done (takeAuto s) (coolerBytes (takeAuto s).cooler) := by
  simp only [coolerMode, mode, length]

theorem coolerMode_range {b : List Byte} (s : State) (manual : ¬(u8 b 0 = 0x00 ∧ b.length = 9))
    (auto : ¬(u8 b 0 = 0x01 ∧ b.length = 1)) : coolerMode b s = .refuse .range := by
  unfold coolerMode
  split
  case h_1 mode length => exact absurd ⟨mode, length⟩ manual
  case h_2 mode length => exact absurd ⟨mode, length⟩ auto
  case h_3 => rfl

theorem ratesClamped_iff (b : List Byte) (c : Cooler) :
    ratesClamped b c = true ↔
      ¬∀ k : Fin 4, clampNat c.sections[k].smin c.sections[k].smax (u16 b (1 + 2 * k.val)) = u16 b (1 + 2 * k.val) := by
  simp [ratesClamped, carriedRate, List.any_eq_true, mem_all4]

/-- Driving the outputs touches the sections alone (R115). -/
theorem Cooler.manualOutputs_frame (c : Cooler) :
    c.manualOutputs = { c with sections := c.manualOutputs.sections } := by
  rw [Cooler.manualOutputs_eq]
  rfl

/-- The cooler under COOLER_MODE naming MANUAL, its outputs driven (R115, R125). -/
theorem takeManual_cooler (b : List Byte) (s : State) :
    (takeManual b s).cooler =
      (s.cooler.toManual b).refreshed.driveAll fun k =>
        if s.cooler.stopContacts ≠ [] then 0 else (s.cooler.toManual b).sections[k].manual := by
  rw [takeManual, State.modCooler_cooler, refreshHoldback_refreshed, Cooler.manualOutputs_eq]
  rfl

theorem takeManual_frame (b : List Byte) (s : State) :
    takeManual b s =
      { refreshHoldback (s.modCooler (Cooler.toManual b)) with
        cooler :=
          { (refreshHoldback (s.modCooler (Cooler.toManual b))).cooler with
            sections := (takeManual b s).cooler.sections } } := by
  rw [takeManual, State.modCooler_cooler, ← Cooler.manualOutputs_frame]
  rfl

theorem takeAuto_eq (s : State) :
    takeAuto s =
      { s with
        cooler := if s.cooler.mode = .auto then s.cooler else { s.cooler with mode := .auto, pressureCount := 0 } } := by
  unfold takeAuto
  split <;> rfl

theorem coolerBytes_takeAuto (s : State) : coolerBytes (takeAuto s).cooler = coolerBytes { s.cooler with mode := .auto } := by
  unfold takeAuto
  split
  case isTrue auto => rw [coolerBytes, auto]; rfl
  case isFalse => rfl

/-- Settles O41: MANUAL as the cooler refreshed and then driven section by section, AUTO as one update, the refusals by
length and mode byte. -/
theorem coolerModeTaken : Obligations.CoolerModeTaken := by
  refine ⟨fun r s h mode => ?manual, fun r s h mode => ?auto, fun r s h mode => ?one, fun r s h mode => ?nine,
    fun r s h mode => ?autoNine⟩
  case manual =>
    have manual (k : Fin 4) : (s.cooler.toManual r.body).sections[k] = _ := Cooler.toManual_section r.body s.cooler k
    have driven := takeManual_cooler r.body (openRequest r s)
    rw [openRequest_cooler] at driven
    have drivenTo (k : Fin 4) : DrivenTo (takeManual r.body (openRequest r s)).cooler.sections[k].output
        (s.cooler.toManual r.body).sections[k] (takeManual r.body (openRequest r s)).cooler.sections[k] := by
      rw [driven]
      exact Cooler.driveAll_drivenTo _ _ k
    refine ⟨takeManual r.body (openRequest r s), refreshHoldback _, (s.cooler.toManual r.body).sections, ?_, rfl, manual,
      ?_, fun k => ?_, drivenTo, fun k running => ?_, ?_, ?_, ?_, ?_, ?_, fun k => ⟨?_, ?_⟩⟩
    · rw [execCoolerModeManual_sent h (.inr rfl), coolerMode_manual _ h.length mode, settleReply_take,
        openRequest_cooler]
      by_cases inside : ratesClamped r.body s.cooler = true
      · rw [if_pos inside, if_neg ((ratesClamped_iff _ _).mp inside)]
      · rw [if_neg inside, if_pos (not_not.mp ((ratesClamped_iff _ _).not.mp inside))]
    · have frame := takeManual_frame r.body (openRequest r s)
      rw [State.modCooler, openRequest_cooler] at frame
      exact frame
    · rw [drivenTo k]
    · rw [drivenTo k, manual]
      exact if_neg (Bool.eq_false_iff.mp running)
    all_goals rw [driven]
    · rfl
    · rfl
    · rfl
    · rfl
    · exact congrArg (· || _) (Bool.false_or _)
    · rw [Cooler.driveAll_section]
      exact congrArg Section.manual (manual k)
    · rw [Cooler.driveAll_output, Cooler.driveAll_section]
      rfl
  case auto =>
    rw [execCoolerModeAuto_eq, execCoolerModeManual_sent h (.inl rfl), coolerMode_auto _ h.length mode, settleReply_done,
      coolerBytes_takeAuto, takeAuto_eq, openRequest_cooler]
  case one =>
    rw [execCoolerModeManual_sent h (.inl rfl), coolerMode_range _ (by simp [h.length]) (by simp [mode]),
      settleReply_refuse]
  case nine =>
    rw [execCoolerModeManual_sent h (.inr rfl), coolerMode_range _ (by simp [mode]) (by simp [h.length]),
      settleReply_refuse]
  case autoNine =>
    rw [execCoolerModeAuto_eq, execCoolerModeManual_sent h (.inr rfl),
      coolerMode_range _ (by simp [mode]) (by simp [h.length]), settleReply_refuse]

end Sys2Proof.Machine
end

section
/-! PROOFS. The cooler period in every state: MANUAL, AUTO with the slot stale and AUTO with the slot fresh, and the
pressure test of the last (R112, R116 to R118, R121, R122, R124, R125). -/

namespace Sys2Proof.Machine

/-! ### The aim of section 1 -/

/-- The aim of section 1 is no negative number (R116). -/
theorem clampInt_toNat (lo hi : Nat) (x : Int) : ((clampInt lo hi x).toNat : Int) = clampInt lo hi x := by
  refine Int.toNat_of_nonneg ?_
  unfold clampInt
  repeat' split
  all_goals omega

/-! ### The pressure test -/

theorem Cooler.entryHolds_iff (p : Int) (c : Cooler) :
    c.entryHolds p = true ↔ c.sections[0].output = c.sections[0].smax ∧ (c.settings.holdbackPressure : Int) ≤ p := by
  simp [Cooler.entryHolds]

/-- At its target and above a standing pressure cause holds (R122). -/
theorem Cooler.pressureTest_stands {p : Int} {c : Cooler} (cause : c.pressureCause = true)
    (high : (c.settings.target : Int) ≤ p) : c.pressureTest p = c := by
  rw [Cooler.pressureTest, if_pos cause, if_neg (not_lt.mpr high)]

/-- Otherwise entry is tested: from the count of an absent cause, and from 0 below the target (R122). -/
theorem Cooler.pressureTest_entry {p : Int} {n : Nat} {c : Cooler}
    (h : c.pressureCause = false ∧ n = c.pressureCount ∨
      c.pressureCause = true ∧ p < c.settings.target ∧ n = 0) : c.pressureTest p = c.entryTest p n := by
  unfold Cooler.pressureTest
  obtain ⟨absent, rfl⟩ | ⟨cause, low, rfl⟩ := h
  · rw [if_neg (Bool.eq_false_iff.mp absent)]
  · rw [if_pos cause, if_pos low]

theorem Cooler.entryTest_reached {p : Int} {n : Nat} {c : Cooler} (holds : c.entryHolds p = true)
    (enough : c.settings.holdbackTime ≤ min 300 (n + 1)) :
    c.entryTest p n = { c with pressureCause := true, pressureCount := 0 } := by
  rw [Cooler.entryTest, if_pos holds, if_pos (by exact enough)]

theorem Cooler.entryTest_counts {p : Int} {n : Nat} {c : Cooler} (holds : c.entryHolds p = true)
    (few : min 300 (n + 1) < c.settings.holdbackTime) :
    c.entryTest p n = { c with pressureCause := false, pressureCount := min 300 (n + 1) } := by
  rw [Cooler.entryTest, if_pos holds, if_neg (by exact not_le.mpr few)]
  rfl

theorem Cooler.entryTest_fails {p : Int} {n : Nat} {c : Cooler} (fails : c.entryHolds p = false) :
    c.entryTest p n = { c with pressureCause := false, pressureCount := 0 } :=
  if_neg (Bool.eq_false_iff.mp fails)

/-! ### COOLER_PERIOD -/

/-- The cooler once a period with the slot fresh has formed its outputs, before the pressure test. -/
def Cooler.formed (p : Int) (c : Cooler) : Cooler := ({ c with timer := 1000 } : Cooler).freshPeriod p

theorem Cooler.formed_eq (p : Int) (c : Cooler) :
    c.formed p =
      ({ c with timer := 1000, lastRaw := rawRate c.settings p } : Cooler).driveAll fun n =>
        if c.stopContacts ≠ [] then 0 else c.autoRates (rawRate c.settings p) n := Cooler.freshPeriod_eq p _

theorem execCoolerPeriod_manual {s : State} (mode : s.cooler.mode = .manual) :
    exec .coolerPeriod s = .next (s.modCooler fun c => { c with timer := 1000 }) := by
  simp only [exec, execCoolerPeriod, mode]

theorem execCoolerPeriod_stale {s : State} (mode : s.cooler.mode = .auto)
    (stale : (s.slot s.cooler.settings.slot).isStale = true) :
    exec .coolerPeriod s = .next (s.modCooler fun c => ({ c with timer := 1000 } : Cooler).stalePeriod) := by
  simp only [exec, execCoolerPeriod, mode, stale, if_true]

theorem execCoolerPeriod_fresh {s : State} (mode : s.cooler.mode = .auto)
    (fresh : (s.slot s.cooler.settings.slot).isStale = false) :
    exec .coolerPeriod s =
      .next (refreshHoldback (s.modCooler fun c =>
        (c.formed (s.slot s.cooler.settings.slot).value).pressureTest (s.slot s.cooler.settings.slot).value)) := by
  simp only [exec, execCoolerPeriod, mode, fresh, Bool.false_eq_true, if_false]
  rfl

/-- The sections of an AUTO period driven, each to 0 under the stop cause and else to a rate of its own. -/
structure PeriodDriven (s t : State) (rates : Fin 4 → Nat) : Prop where
  sections : ∀ k : Fin 4,
    t.cooler.sections[k] = s.cooler.sections[k].drive (if s.cooler.stopContacts ≠ [] then 0 else rates k)

theorem PeriodDriven.output {s t : State} {rates : Fin 4 → Nat} (h : PeriodDriven s t rates)
    (free : s.cooler.stopContacts = []) (k : Fin 4) : t.cooler.sections[k].output = rates k := by
  rw [h.sections k]
  exact if_neg (not_not.mpr free)

theorem PeriodDriven.stopped {s t : State} {rates : Fin 4 → Nat} (h : PeriodDriven s t rates)
    (stop : s.cooler.stopContacts ≠ []) (k : Fin 4) : t.cooler.sections[k].output = 0 := by
  rw [h.sections k]
  exact if_pos stop

theorem PeriodDriven.drivenTo {s t : State} {rates : Fin 4 → Nat} (h : PeriodDriven s t rates) (k : Fin 4) :
    DrivenTo t.cooler.sections[k].output s.cooler.sections[k] t.cooler.sections[k] := by
  rw [h.sections k]
  exact Section.drive_drivenTo _ _

/-- A period with the slot stale, as an update of the state. -/
theorem stalePeriod_taken (s : State) :
    ∃ t, (s.modCooler fun c => ({ c with timer := 1000 } : Cooler).stalePeriod) = t ∧
      t = { s with cooler := { s.cooler with timer := 1000, sections := t.cooler.sections } } ∧
      PeriodDriven s t fun k =>
        clampNat s.cooler.sections[k].smin s.cooler.sections[k].smax s.cooler.sections[k].output := by
  refine ⟨_, rfl, ?_, ⟨fun k => ?_⟩⟩
  · rw [State.modCooler, Cooler.stalePeriod_eq]
    rfl
  · rw [State.modCooler_cooler, Cooler.stalePeriod_eq, Cooler.driveAll_section]

/-- A period with the slot fresh, as an update of the state with holdback brought up to date. -/
theorem freshPeriod_taken (p : Int) (s : State) :
    ∃ t, refreshHoldback (s.modCooler fun c => (c.formed p).pressureTest p) = t ∧
      t = refreshHoldback { s with
        cooler :=
          { s.cooler with
            timer := 1000
            sections := t.cooler.sections
            lastRaw := rawRate s.cooler.settings p
            pressureCount := t.cooler.pressureCount
            pressureCause := t.cooler.pressureCause } } ∧
      t.cooler = ((s.cooler.formed p).pressureTest p).refreshed ∧
      PeriodDriven s t (s.cooler.autoRates (rawRate s.cooler.settings p)) := by
  have cooler := refreshHoldback_refreshed (s.modCooler fun c => (c.formed p).pressureTest p)
  refine ⟨_, rfl, ?_, cooler, ⟨fun k => ?_⟩⟩
  · rw [cooler, State.modCooler_cooler]
    conv_lhs => rw [State.modCooler, Cooler.pressureTest_frame, Cooler.formed_eq]
    conv_rhs => rw [Cooler.pressureTest_frame, Cooler.formed_eq]
    rfl
  · rw [cooler, State.modCooler_cooler, Cooler.pressureTest_frame, Cooler.formed_eq]
    exact Cooler.driveAll_section _ _ k

/-- The pressure test of a period reads the sections as the period leaves them (R122). -/
theorem formed_entryHolds {p : Int} {s t : State}
    (cooler : t.cooler = ((s.cooler.formed p).pressureTest p).refreshed) :
    (s.cooler.formed p).entryHolds p = true ↔
      t.cooler.sections[0].output = s.cooler.sections[0].smax ∧ (s.cooler.settings.holdbackPressure : Int) ≤ p := by
  have sections : t.cooler.sections = (s.cooler.formed p).sections := by
    rw [cooler, Cooler.pressureTest_frame]
    rfl
  rw [Cooler.entryHolds_iff, sections, Cooler.formed_eq]
  rfl

/-- The pressure test of a period with the slot fresh, in the words of the claim (R122). -/
theorem pressureTest_taken {p : Int} {s t : State}
    (cooler : t.cooler = ((s.cooler.formed p).pressureTest p).refreshed) :
    (s.cooler.pressureCause = true → (s.cooler.settings.target : Int) ≤ p →
      t.cooler.pressureCause = true ∧ t.cooler.pressureCount = s.cooler.pressureCount) ∧
    ∀ n : Nat, (s.cooler.pressureCause = false ∧ n = s.cooler.pressureCount ∨
        s.cooler.pressureCause = true ∧ p < s.cooler.settings.target ∧ n = 0) →
      (t.cooler.sections[0].output = s.cooler.sections[0].smax ∧ (s.cooler.settings.holdbackPressure : Int) ≤ p →
        (s.cooler.settings.holdbackTime ≤ min 300 (n + 1) →
          t.cooler.pressureCause = true ∧ t.cooler.pressureCount = 0) ∧
        (min 300 (n + 1) < s.cooler.settings.holdbackTime →
          t.cooler.pressureCause = false ∧ t.cooler.pressureCount = min 300 (n + 1))) ∧
      (t.cooler.sections[0].output ≠ s.cooler.sections[0].smax ∨ p < s.cooler.settings.holdbackPressure →
        t.cooler.pressureCause = false ∧ t.cooler.pressureCount = 0) := by
  have formed : (s.cooler.formed p).pressureCause = s.cooler.pressureCause ∧
      (s.cooler.formed p).pressureCount = s.cooler.pressureCount ∧ (s.cooler.formed p).settings = s.cooler.settings := by
    rw [Cooler.formed_eq]
    exact ⟨rfl, rfl, rfl⟩
  obtain ⟨causeKept, countKept, settings⟩ := formed
  have holds := formed_entryHolds cooler
  have tested {d : Cooler} (h : (s.cooler.formed p).pressureTest p = d) :
      t.cooler.pressureCause = d.pressureCause ∧ t.cooler.pressureCount = d.pressureCount := by
    rw [cooler, h]
    exact ⟨rfl, rfl⟩
  refine ⟨fun cause high => ?_, fun n entry => ⟨fun reached => ⟨fun enough => ?_, fun few => ?_⟩, fun missed => ?_⟩⟩
  · have stands := tested (Cooler.pressureTest_stands (causeKept.trans cause) (by rwa [settings]))
    rwa [causeKept, countKept, cause] at stands
  all_goals
    rw [← causeKept, ← countKept, ← settings] at entry
    have test := Cooler.pressureTest_entry entry
  · exact tested (test.trans (Cooler.entryTest_reached (holds.mpr reached) (by rwa [settings])))
  · exact tested (test.trans (Cooler.entryTest_counts (holds.mpr reached) (by rwa [settings])))
  · refine tested (test.trans (Cooler.entryTest_fails (Bool.eq_false_iff.mpr fun both => ?_)))
    obtain ⟨full, pressed⟩ := holds.mp both
    obtain short | low := missed
    · exact short full
    · exact absurd low (not_lt.mpr pressed)

/-- Settles O42: MANUAL as one update; AUTO by its sections driven, and with the slot fresh by the pressure test. -/
theorem coolerPeriodTaken : Obligations.CoolerPeriodTaken := by
  refine ⟨fun s => ?period, fun s t p h mode hp => ⟨fun stale => ?held, fun fresh => ?tested⟩⟩
  case period =>
    cases mode : s.cooler.mode with
    | manual =>
      exact ⟨_, execCoolerPeriod_manual mode, rfl, mode, rfl, rfl, rfl, rfl, fun _ => rfl, nofun, nofun, nofun, nofun⟩
    | auto =>
      cases age : (s.slot s.cooler.settings.slot).isStale with
      | true =>
        obtain ⟨t, taken, frame, driven⟩ := stalePeriod_taken s
        refine ⟨t, (execCoolerPeriod_stale mode age).trans (by rw [taken]), ?_, ?_, ?_, ?_, ?_, ?_, nofun,
          fun _ free => ⟨fun _ => driven.output free, nofun⟩, fun _ => driven.stopped, fun k _ => driven.drivenTo k,
          fun _ => ⟨fun _ => frame, nofun⟩⟩
        all_goals rw [frame]
        exact mode
      | false =>
        obtain ⟨t, taken, frame, cooler, driven⟩ := freshPeriod_taken (s.slot s.cooler.settings.slot).value s
        have kept : t.streams = s.streams ∧ t.contacts = s.contacts ∧ t.slots = s.slots := by
          rw [frame, refreshHoldback_frame]
          exact ⟨rfl, rfl, rfl⟩
        have settings : t.cooler.timer = 1000 ∧ t.cooler.mode = s.cooler.mode ∧
            t.cooler.settings = s.cooler.settings ∧
            t.cooler.lastRaw = rawRate s.cooler.settings (s.slot s.cooler.settings.slot).value := by
          rw [cooler, Cooler.pressureTest_frame, Cooler.formed_eq]
          exact ⟨rfl, rfl, rfl, rfl⟩
        obtain ⟨timer, sameMode, sameSettings, lastRaw⟩ := settings
        refine ⟨t, (execCoolerPeriod_fresh mode age).trans (by rw [taken]), timer, sameMode.trans mode, sameSettings,
          kept.1, kept.2.1, kept.2.2, nofun, fun _ free => ⟨nofun, fun _ => ?_⟩, fun _ => driven.stopped,
          fun k _ => driven.drivenTo k, fun _ => ⟨nofun, fun _ => frame⟩⟩
        have first : t.cooler.sections[0].output =
            s.cooler.autoRates (rawRate s.cooler.settings (s.slot s.cooler.settings.slot).value) 0 :=
          driven.output free 0
        refine ⟨_, _, rfl, lastRaw, clampInt_toNat _ _ _, first, ?_, ?_, ?_⟩
        all_goals rw [first, ← roundHalfUp_percent]
        · exact driven.output free 1
        · exact driven.output free 2
        · exact driven.output free 3
  case held =>
    obtain ⟨u, taken, frame, -⟩ := stalePeriod_taken s
    obtain rfl := Host.Outcome.next.inj (h.symm.trans ((execCoolerPeriod_stale mode stale).trans (by rw [taken])))
    rw [frame]
    exact ⟨rfl, rfl⟩
  case tested =>
    obtain ⟨u, taken, -, cooler, -⟩ := freshPeriod_taken (s.slot s.cooler.settings.slot).value s
    obtain rfl := Host.Outcome.next.inj (h.symm.trans ((execCoolerPeriod_fresh mode fresh).trans (by rw [taken])))
    rw [← hp] at cooler
    exact pressureTest_taken cooler

end Sys2Proof.Machine
end

section
/-! PROOFS. Strokes of the cooler's sections, their stall timers, and holdback brought up to date in each of its three
cases (R120, R121, R123, R125). -/

namespace Sys2Proof.Machine

/-! ### Holdback -/

theorem Cooler.anyCause_eq (c : Cooler) :
    c.anyCause = (c.pressureCause || c.stallCause || !c.stopContacts.isEmpty) := rfl

/-- Holdback that follows its causes already is left as it is (R125). -/
theorem refreshHoldback_idle {s : State} (same : s.cooler.anyCause = s.cooler.holdback) : refreshHoldback s = s := by
  unfold refreshHoldback
  rw [same]
  cases s.cooler.holdback <;> rfl

/-- Holdback becoming active (R125). -/
theorem refreshHoldback_rises {s : State} (cause : s.cooler.anyCause = true) (inactive : s.cooler.holdback = false) :
    refreshHoldback s =
      offerCut .both .holdback (some s.cooler.settings.holdbackCut)
        (raiseAlarm holdbackRaise (s.modCooler fun c => { c with holdback := true })) := by
  rw [refreshHoldback, cause, inactive]
  rfl

/-- Holdback becoming inactive (R125). -/
theorem refreshHoldback_falls {s : State} (none : s.cooler.anyCause = false) (active : s.cooler.holdback = true) :
    refreshHoldback s =
      clearAlarm .coolerHoldback (offerCut .both .holdback .none (s.modCooler fun c => { c with holdback := false })) := by
  rw [refreshHoldback, none, active]
  rfl

theorem refreshHoldback_holdback (s : State) : (refreshHoldback s).cooler.holdback = s.cooler.anyCause := by
  rw [refreshHoldback_cooler]

/-- Holdback books no stroke. -/
theorem refreshHoldback_strokes (s : State) :
    (refreshHoldback s).su.shift.strokes = s.su.shift.strokes ∧
      (refreshHoldback s).su.shift.clinker = s.su.shift.clinker := by
  unfold refreshHoldback
  cases s.cooler.anyCause <;> cases s.cooler.holdback <;> exact ⟨rfl, rfl⟩

/-! ### Strokes -/

theorem bookStroke_other {n : Fin 4} (s : State) (other : n ≠ 0) : bookStroke n s = s := if_neg other

/-- A stroke in the totals, in the open shift and on its section, before stall cause and holdback (R120, R121). -/
def booked (n : Fin 4) (s : State) : State := (bookStroke n s).modCooler (Cooler.modSection n Section.stroke)

theorem booked_eq (n : Fin 4) (s : State) :
    booked n s = { s with
      cooler :=
        { s.cooler with
          sections := (s.cooler.modSection n Section.stroke).sections
          strokes := (bookStroke n s).cooler.strokes
          clinker := (bookStroke n s).cooler.clinker }
      su :=
        { s.su with
          shift :=
            { s.su.shift with
              strokes := (bookStroke n s).su.shift.strokes, clinker := (bookStroke n s).su.shift.clinker } } } := by
  unfold booked bookStroke
  split <;> rfl

theorem bookStroke_sections (n : Fin 4) (s : State) : (bookStroke n s).cooler.sections = s.cooler.sections := by
  unfold bookStroke
  split <;> rfl

theorem execStrokePulse_running {n : Fin 4} {s : State} (running : s.cooler.sections[n].stalled = false) :
    exec (.strokePulse n) s = .next (booked n s) := by
  have kept : (bookStroke n s).cooler.sections[n].stalled = false := by rwa [bookStroke_sections]
  exact congrArg Host.Outcome.next (if_neg (Bool.eq_false_iff.mp kept))

theorem execStrokePulse_stalled {n : Fin 4} {s : State} (stalled : s.cooler.sections[n].stalled = true) :
    exec (.strokePulse n) s =
      .next (refreshHoldback ((clearAlarm (.sectionStalled n) (booked n s)).modCooler Cooler.refreshStall)) := by
  have kept : (bookStroke n s).cooler.sections[n].stalled = true := by rwa [bookStroke_sections]
  exact congrArg Host.Outcome.next (if_pos kept)

/-- What a stroke leaves in the cooler's sections and in the books, on a stalled section and on one that is not. -/
structure Stroked (n : Fin 4) (s t : State) : Prop where
  sections : t.cooler.sections = (s.cooler.modSection n Section.stroke).sections
  strokes : t.cooler.strokes = (bookStroke n s).cooler.strokes
  clinker : t.cooler.clinker = (bookStroke n s).cooler.clinker
  shiftStrokes : t.su.shift.strokes = (bookStroke n s).su.shift.strokes
  shiftClinker : t.su.shift.clinker = (bookStroke n s).su.shift.clinker

theorem booked_stroked (n : Fin 4) (s : State) : Stroked n s (booked n s) := by
  rw [booked_eq]
  exact ⟨rfl, rfl, rfl, rfl, rfl⟩

/-- The stall cause, holdback and an alarm cleared change nothing of it. -/
theorem Stroked.supervised {n : Fin 4} {s t : State} (h : Stroked n s t) (c : AlarmCode) :
    Stroked n s (refreshHoldback ((clearAlarm c t).modCooler Cooler.refreshStall)) := by
  obtain ⟨strokes, clinker⟩ := refreshHoldback_strokes ((clearAlarm c t).modCooler Cooler.refreshStall)
  have cooler := refreshHoldback_refreshed ((clearAlarm c t).modCooler Cooler.refreshStall)
  exact
    { sections := (congrArg Cooler.sections cooler).trans h.sections
      strokes := (congrArg Cooler.strokes cooler).trans h.strokes
      clinker := (congrArg Cooler.clinker cooler).trans h.clinker
      shiftStrokes := strokes.trans h.shiftStrokes
      shiftClinker := clinker.trans h.shiftClinker }

theorem Stroked.self {n : Fin 4} {s t : State} (h : Stroked n s t) :
    t.cooler.sections[n] = s.cooler.sections[n].stroke := by
  rw [h.sections]
  exact Cooler.modSection_self n _ _

theorem Stroked.other {n m : Fin 4} {s t : State} (h : Stroked n s t) (other : m ≠ n) :
    t.cooler.sections[m] = s.cooler.sections[m] := by
  rw [h.sections]
  exact Cooler.modSection_other _ _ other

/-- A stroke that ends no stall, from what it leaves. -/
theorem Stroked.booked_eq {n : Fin 4} {s t : State} (h : Stroked n s t) :
    { s with
      cooler :=
        { s.cooler with sections := t.cooler.sections, strokes := t.cooler.strokes, clinker := t.cooler.clinker }
      su :=
        { s.su with
          shift := { s.su.shift with strokes := t.su.shift.strokes, clinker := t.su.shift.clinker } } } =
      booked n s := by
  rw [h.sections, h.strokes, h.clinker, h.shiftStrokes, h.shiftClinker, Machine.booked_eq]

/-- After the stroke of a stalled section the stall cause stands for another stalled section alone (R123). -/
theorem stroke_anyStalled (n : Fin 4) (c : Cooler) :
    (c.modSection n Section.stroke).anyStalled = true ↔ ∃ m : Fin 4, m ≠ n ∧ c.sections[m].stalled = true := by
  rw [Cooler.anyStalled_iff]
  refine exists_congr fun m => ?_
  by_cases own : m = n
  · subst own
    rw [Cooler.modSection_self]
    exact ⟨nofun, fun h => absurd rfl h.1⟩
  · rw [Cooler.modSection_other _ _ own]
    exact (and_iff_right own).symm

theorem Section.stroke_eq (x : Section) : x.stroke = { x with stalled := false, stall := x.stroke.stall } := rfl

theorem Section.stroke_driven {x : Section} (driven : x.output ≠ 0) : x.stroke.stall = some 30000 := if_neg driven

theorem Section.stroke_idle {x : Section} (still : x.output = 0) (running : x.stalled = false) :
    x.stroke.stall = x.stall := by
  rw [Section.stroke, if_pos still, running]
  rfl

theorem stroke_stallCause (n : Fin 4) (s : State) :
    (refreshHoldback ((clearAlarm (.sectionStalled n) (booked n s)).modCooler Cooler.refreshStall)).cooler.stallCause =
      (s.cooler.modSection n Section.stroke).anyStalled := by
  rw [refreshHoldback_cooler, State.modCooler_cooler, clearAlarm_cooler, booked_eq]
  rfl

/-- STROKE_PULSE in every state (R120, R121, R123). -/
theorem strokePulse_taken (n : Fin 4) (s : State) :
    ∃ t, exec (.strokePulse n) s = .next t ∧ Stroked n s t ∧
      (s.cooler.sections[n].stalled = false → t = booked n s) ∧
      (s.cooler.sections[n].stalled = true →
        (t.cooler.stallCause = true ↔ ∃ m : Fin 4, m ≠ n ∧ s.cooler.sections[m].stalled = true) ∧
        ∃ v, v = clearAlarm (.sectionStalled n) (booked n s) ∧
          t = refreshHoldback { v with cooler := { v.cooler with stallCause := t.cooler.stallCause } }) := by
  cases stalled : s.cooler.sections[n].stalled with
  | false => exact ⟨_, execStrokePulse_running stalled, booked_stroked n s, fun _ => rfl, nofun⟩
  | true =>
    refine ⟨_, execStrokePulse_stalled stalled, (booked_stroked n s).supervised _, nofun, fun _ => ⟨?_, _, rfl, ?_⟩⟩
    · rw [stroke_stallCause]
      exact stroke_anyStalled n s.cooler
    · rw [refreshHoldback_cooler]
      rfl

/-! ### Stall timers -/

theorem stallNow_anyStalled (n : Fin 4) (c : Cooler) : (c.modSection n Section.stallNow).anyStalled = true :=
  (Cooler.anyStalled_iff _).mpr ⟨n, by rw [Cooler.modSection_self]; rfl⟩

theorem stallTimerExpiry_stopped {n : Fin 4} {s : State} (stopped : s.cooler.sections[n].stall = none) :
    exec (.stallTimerExpiry n) s = .next s := by
  simp only [exec, execStallTimerExpiry, stopped, Option.isSome_none, Bool.false_eq_true, if_false]

theorem stallTimerExpiry_running {n : Fin 4} {s : State} (running : s.cooler.sections[n].stall ≠ none) :
    exec (.stallTimerExpiry n) s =
      .next (refreshHoldback { raiseAlarm ⟨.sectionStalled n, .p1, none⟩ s with
        cooler :=
          { s.cooler with
            sections := (s.cooler.modSection n Section.stallNow).sections
            stallCause := true } }) := by
  rw [← stallNow_anyStalled n s.cooler]
  simp only [exec, execStallTimerExpiry, Option.isSome_iff_ne_none.mpr running, if_true]
  rfl

/-- Settles O43: a stroke by what it leaves, on a running and on a stalled section; a stall timer stopped and running;
holdback by its causes before and after. -/
theorem coolerCausesStand : Obligations.CoolerCausesStand := by
  refine ⟨⟨fun s n => ?stroke, fun s n => ⟨stallTimerExpiry_stopped, fun running => ?stall⟩⟩, fun s => ?holdback⟩
  case stroke =>
    obtain ⟨t, taken, left, running, stalled⟩ := strokePulse_taken n s
    refine ⟨t, taken, fun first => ?_, fun other => ?_, ?_, ?_, fun driven => ?_, fun m => left.other,
      fun h => (stalled h).1, ?_, fun still free => ?_, _, rfl, ?_, ?_⟩
    · subst first
      exact ⟨left.strokes, left.clinker, left.shiftStrokes, left.shiftClinker⟩
    · have nothing := bookStroke_other s other
      exact ⟨left.strokes.trans (by rw [nothing]), left.clinker.trans (by rw [nothing]),
        left.shiftStrokes.trans (by rw [nothing]), left.shiftClinker.trans (by rw [nothing])⟩
    · rw [left.self]; rfl
    · rw [left.self]; rfl
    · rw [left.self, Section.stroke_driven driven]
    · rw [left.self]; rfl
    · rw [left.self, Section.stroke_idle still free]
    · rw [left.booked_eq]; exact running
    · rw [left.booked_eq]; exact fun h => (stalled h).2
  case stall =>
    refine ⟨_, _, stallTimerExpiry_running running, rfl, ?_, ?_, fun m other => ?_, ?_, ?_⟩
    all_goals rw [refreshHoldback_cooler]
    · exact Cooler.modSection_self n Section.stallNow s.cooler
    · exact Cooler.modSection_other Section.stallNow s.cooler other
    · simp [Cooler.anyCause_eq]
  case holdback =>
    refine ⟨refreshHoldback_cooler s, fun same => ?_, fun inactive rises => ?_, fun active falls => ?_⟩
    all_goals rw [refreshHoldback_holdback] at *
    · exact refreshHoldback_idle same
    · rw [refreshHoldback_rises rises inactive]
      exact ⟨rfl, fun x => by rw [offerCut_siteRec]; cases x <;> rfl⟩
    · rw [refreshHoldback_falls falls active]
      exact ⟨rfl, fun x => by rw [clearAlarm_siteRec, offerCut_siteRec]; cases x <;> rfl⟩

end Sys2Proof.Machine
end

section
/-! PROOFS. SET_CONTACT in every state: when it is refused, and the contact, its condition, the streams newly covered and
the cooler stop when it is taken (R53, R124, R131 to R133). -/

namespace Sys2Proof.Machine

/-! ### Contacts in the words of the claims -/

theorem Contact.abnormal_iff (c : Contact) : c.abnormal = true ↔ c.reading ≠ c.normal := bne_iff_ne

/-- A contact that is not forced reads its accepted state (08, 8.1). -/
theorem Contact.reading_of_free {c : Contact} (free : c.forced = false) : c.reading = c.accepted := by
  rw [Contact.reading, free]
  rfl

theorem Contact.abnormal_of_free {c : Contact} (free : c.forced = false) :
    c.abnormal = true ↔ c.accepted ≠ c.normal := by
  rw [Contact.abnormal_iff, Contact.reading_of_free free]

theorem Contact.due_iff_reading (c : Contact) :
    c.due = true ↔ c.role ≠ .none ∧ c.forced = false ∧ c.reading ≠ c.normal := by
  simp [Contact.due, Contact.abnormal, and_assoc]

theorem Contact.stops_iff_reading (c : Contact) : c.stops = true ↔ c.role = .coolerStop ∧ c.reading ≠ c.normal := by
  rw [Contact.stops_iff, Contact.abnormal_iff]

theorem Contact.covers_iff (c : Contact) (i : Fin 8) :
    c.covers i = true ↔ c.role = .streamInterlock ∧ c.reading ≠ c.normal ∧ c.mask.getLsbD i.val = true := by
  simp only [Contact.covers, Contact.guards, Bool.and_eq_true, beq_iff_eq, Contact.abnormal_iff]
  tauto

theorem State.masksBurning_iff (s : State) (mask : BitVec 8) : s.masksBurning mask = true ↔ MasksBurning s mask := by
  simp [State.masksBurning, MasksBurning, List.any_eq_true, mem_all8]

theorem masksBurning_openRequest (r : Request) (s : State) (mask : BitVec 8) :
    (openRequest r s).masksBurning mask = true ↔ MasksBurning s mask := by
  rw [State.masksBurning_iff]
  simp only [MasksBurning, openRequest_stream]

/-- A role at all raises CONTACT at its priority under ALARM and at P1 otherwise (R131). -/
theorem contactRaise_of_role {k : Fin 24} {c : Contact} (role : c.role ≠ .none) :
    contactRaise k c = ⟨.contact k, if c.role = .alarm then c.priority else .p1, none⟩ := by
  cases acts : c.role with
  | none => exact absurd acts role
  | alarm => exact contactRaise_alarm acts
  | streamInterlock => exact contactRaise_p1 (.inl acts)
  | coolerStop => exact contactRaise_p1 (.inr acts)

/-! ### Streams that an interlock reaches -/

/-- A stream after an interlock that reaches it where `p` holds, by its firing state (R53). -/
theorem withdrawn_where {s u : State} {i : Fin 8} {p : Prop} [Decidable p]
    (h : u.stream i = if p then withdrawn .interlock (s.stream i) else s.stream i) :
    (p → (s.stream i).state.burning = true → u.stream i = (trip i .interlock s).stream i) ∧
      (p → (s.stream i).state = .ready → u.stream i = { s.stream i with state := .off }) ∧
      (¬p ∨ (s.stream i).state = .off ∨ (s.stream i).state = .tripped → u.stream i = s.stream i) := by
  refine ⟨fun reached burning => ?_, fun reached ready => ?_, fun rest => ?_⟩
  · rw [h, if_pos reached, withdrawn_burning _ burning]
  · rw [h, if_pos reached, withdrawn_ready _ ready]
  · obtain missed | parked := rest
    · rw [h, if_neg missed]
    · rw [h, withdrawn_of_parked _ parked, ite_self]

/-- A permit withdrawn leaves the stream in OFF or TRIPPED (R52, R53). -/
theorem withdrawn_isParked (c : TripCause) (x : Stream) : (withdrawn c x).Parked := by
  unfold withdrawn
  split
  case isTrue =>
    by_cases held : x.limits.holdoff.holds c = true
    · exact .inr (if_pos held)
    · exact .inl (if_neg held)
  split
  case isTrue => exact .inl rfl
  case isFalse rests unready => cases state : x.state <;> simp_all [FiringState.burning, Stream.Parked]

/-! ### SET_CONTACT: the body and the checks -/

theorem onOffOf_of_le {v : Nat} (h : v ≤ 1) : onOffOf v = some (v == 1) := by
  obtain rfl | rfl : v = 0 ∨ v = 1 := by omega
  · rfl
  · rfl

theorem onOffOf_of_lt {v : Nat} (h : 1 < v) : onOffOf v = none := by
  rw [Option.eq_none_iff_forall_ne_some]
  intro b same
  have := Bool.toNat_le b
  rw [onOffOf_eq_some] at same
  omega

/-- A body with an encoding that names no value, or a debounce outside 2 to 8, rewrites no contact (R132, check 2). -/
theorem Contact.rewritten_none {b : List Byte} (c : Contact)
    (h : roleOf (u8 b 1) = none ∨ levelOf (u8 b 2) = none ∨ priorityOf (u8 b 3) = none ∨ 1 < u8 b 6 ∨
      u8 b 5 < 2 ∨ 8 < u8 b 5) : c.rewritten b = none := by
  unfold Contact.rewritten
  split
  case h_1 role normal priority slow hrole hnormal hpriority hslow =>
    refine if_neg fun debounce => ?_
    obtain ⟨low, high⟩ := within_iff.mp debounce
    have flag : u8 b 6 ≤ 1 := by
      by_contra above
      simp [onOffOf_of_lt (not_le.mp above)] at hslow
    simp only [hrole, hnormal, hpriority, reduceCtorEq, false_or] at h
    omega
  case h_2 => rfl

/-- A contact under the six configured fields, its debounce count 0 (R133). -/
def Contact.configured (role : ContactRole) (normal : Level) (priority : Priority) (mask : BitVec 8) (debounce : Nat)
    (slow : Bool) (c : Contact) : Contact :=
  ⟨role, normal, priority, mask, debounce, slow, c.accepted, 0, c.forced, c.cond, c.forcedCond⟩

theorem Contact.rewritten_eq {b : List Byte} {role : ContactRole} {normal : Level} {priority : Priority} (c : Contact)
    (hrole : roleOf (u8 b 1) = some role) (hnormal : levelOf (u8 b 2) = some normal)
    (hpriority : priorityOf (u8 b 3) = some priority) (slow : u8 b 6 ≤ 1) (low : 2 ≤ u8 b 5) (high : u8 b 5 ≤ 8) :
    c.rewritten b =
      some (c.configured role normal priority (if role = .streamInterlock then b.getD 4 0 else 0x00#8) (u8 b 5)
        (u8 b 6 == 1)) := by
  simp only [Contact.rewritten, hrole, hnormal, hpriority, onOffOf_of_le slow, within_iff.mpr ⟨low, high⟩]
  rfl

theorem execSetContact_sent {r : Request} {s : State} (h : Sent [.safe] 7 r s) :
    exec (.setContact r) s =
      .next (settleReply .safe 0x47#8 (openRequest r s)
        (onContact r.body (setContact r.body) (openRequest r s))) := by
  have taken : exec (.setContact r) s = _ := takeRequest_of_sent (row := Cmd.setContact) h (by decide) (by decide)
  rw [taken, List.mem_singleton.mp h.link]
  rfl

theorem setContact_range {b : List Byte} {k : Fin 24} {s : State} (fields : (s.contact k).rewritten b = none) :
    setContact b k s = .refuse .range := by
  simp only [setContact, fields]

theorem setContact_wrongState {b : List Byte} {k : Fin 24} {s : State} {new : Contact}
    (fields : (s.contact k).rewritten b = some new) (forced : (s.contact k).forced = true)
    (burning : s.masksBurning new.mask = true) : setContact b k s = .refuse .wrongState := by
  simp only [setContact, fields]
  exact if_pos ⟨forced, burning⟩

theorem setContact_taken {b : List Byte} {k : Fin 24} {s : State} {new : Contact}
    (fields : (s.contact k).rewritten b = some new)
    (free : ¬((s.contact k).forced = true ∧ s.masksBurning new.mask = true)) :
    setContact b k s = .done (replaceContact k new s) (contactBytes k (replaceContact k new s)) := by
  simp only [setContact, fields]
  exact if_neg free

/-! ### SET_CONTACT: the three steps of a replacement (R133) -/

/-- A contact replaced, after step 1 of R133. -/
def conditionSettled (k : Fin 24) (new : Contact) (s : State) : State :=
  settleCondition k (s.contact k).cond (s.modContact k fun _ => new)

/-- A contact replaced, after steps 1 and 2 of R133. -/
def interlocksSettled (k : Fin 24) (new : Contact) (s : State) : State :=
  settleInterlocks (s.contact k) new (conditionSettled k new s)

theorem replaceContact_eq (k : Fin 24) (new : Contact) (s : State) :
    replaceContact k new s = settleStop k (s.contact k) new (interlocksSettled k new s) := rfl

/-- Step 1: the CONTACT condition comes to stand exactly where it is due. -/
theorem conditionSettled_cases {k : Fin 24} {new : Contact} {s : State} {due : Prop} (hdue : due ↔ new.due = true) :
    (due → (s.contact k).cond = false →
      conditionSettled k new s =
        raiseAlarm ⟨.contact k, if new.role = .alarm then new.priority else .p1, none⟩
          ((s.modContact k fun _ => new).modContact k fun c => { c with cond := true })) ∧
    (¬due → (s.contact k).cond = true →
      conditionSettled k new s =
        clearAlarm (.contact k) ((s.modContact k fun _ => new).modContact k fun c => { c with cond := false })) ∧
    ((due ↔ (s.contact k).cond = true) → conditionSettled k new s = s.modContact k fun _ => new) := by
  simp only [conditionSettled, settleCondition, State.modContact_contact_self]
  rw [hdue]
  refine ⟨fun isDue off => ?_, fun notDue on => ?_, fun same => ?_⟩
  · rw [isDue, off, ← contactRaise_of_role (new.due_iff_reading.mp isDue).1]
    simp [raiseContact]
  · rw [on, Bool.eq_false_iff.mpr notDue]
    rfl
  · rw [Bool.eq_iff_iff.mpr same]
    simp

theorem conditionSettled_stream (k : Fin 24) (new : Contact) (s : State) (i : Fin 8) :
    (conditionSettled k new s).stream i = s.stream i :=
  State.stream_congr (settleCondition_streams k _ _) i

theorem interlocksSettled_sameBlocks (k : Fin 24) (new : Contact) (s : State) :
    SameBlocks (conditionSettled k new s) (interlocksSettled k new s) := by
  rw [interlocksSettled, settleInterlocks]
  exact reportInterlocks_sameBlocks _ _

/-- Steps 1 and 2 leave the cooler alone. -/
theorem interlocksSettled_cooler (k : Fin 24) (new : Contact) (s : State) :
    (interlocksSettled k new s).cooler = s.cooler :=
  (interlocksSettled_sameBlocks k new s).cooler.trans (settleCondition_cooler k _ _)

/-- The streams newly covered are reached in stream order. -/
theorem interlocksSettled_inOrder (k : Fin 24) (new : Contact) (s : State) :
    WithdrawnInOrder .interlock (fun i => new.covers i = true ∧ ¬(s.contact k).covers i = true)
      (conditionSettled k new s) (interlocksSettled k new s) :=
  (reportInterlocks_inOrder (fun i => new.covers i && !(s.contact k).covers i) _).congr fun i => by simp

theorem interlocksSettled_stream (k : Fin 24) (new : Contact) (s : State) (i : Fin 8) :
    (interlocksSettled k new s).stream i =
      if new.covers i = true ∧ ¬(s.contact k).covers i = true then withdrawn .interlock (s.stream i)
      else s.stream i := by
  rw [interlocksSettled, settleInterlocks, reportInterlocks_stream, conditionSettled_stream]
  simp

/-- Step 2 does nothing where it leaves every stream as it was. -/
theorem interlocksSettled_idle {k : Fin 24} {new : Contact} {s : State}
    (still : ∀ i, (interlocksSettled k new s).stream i = s.stream i) :
    interlocksSettled k new s = conditionSettled k new s := by
  rw [interlocksSettled, settleInterlocks]
  refine reportInterlocks_of_parked fun i reached => ?_
  have reached : new.covers i = true ∧ ¬(s.contact k).covers i = true := by simpa using reached
  have same := still i
  rw [interlocksSettled_stream, if_pos reached] at same
  rw [conditionSettled_stream, ← same]
  exact withdrawn_isParked _ _

/-- Step 3: the cooler is told of a stop begun or ended. -/
theorem replaceContact_stop {k : Fin 24} {new : Contact} {s : State} {before now : Prop}
    (hbefore : before ↔ (s.contact k).stops = true) (hnow : now ↔ new.stops = true) :
    (now → ¬before → replaceContact k new s = stopReported k (interlocksSettled k new s)) ∧
    (before → ¬now → replaceContact k new s = stopReturned k (interlocksSettled k new s)) ∧
    ((before ↔ now) → replaceContact k new s = interlocksSettled k new s) := by
  rw [replaceContact_eq, settleStop, hbefore, hnow]
  refine ⟨fun stops free => ?_, fun stopped free => ?_, fun same => ?_⟩
  · rw [stops, Bool.eq_false_iff.mpr free]
    rfl
  · rw [stopped, Bool.eq_false_iff.mpr free]
    rfl
  · rw [Bool.eq_iff_iff.mpr same]
    simp

/-- What a replacement does to the cooler is what step 3 does to it. -/
theorem replaceContact_stop_cooler {k : Fin 24} {new : Contact} {s : State} {before now : Prop}
    (hbefore : before ↔ (s.contact k).stops = true) (hnow : now ↔ new.stops = true) :
    (now → ¬before → k ∈ (replaceContact k new s).cooler.stopContacts) ∧
    (before → ¬now → k ∉ (replaceContact k new s).cooler.stopContacts) ∧
    ((before ↔ now) → (replaceContact k new s).cooler = s.cooler) := by
  obtain ⟨joins, leaves, stays⟩ := replaceContact_stop hbefore hnow
  refine ⟨fun stops free => ?_, fun stopped free => ?_, fun same => ?_⟩
  · rw [joins stops free, mem_stopReported]
    exact .inl rfl
  · rw [leaves stopped free, mem_stopReturned]
    exact fun mem => mem.1 rfl
  · rw [stays same, interlocksSettled_cooler]

theorem replaceContact_streams (k : Fin 24) (new : Contact) (s : State) :
    (replaceContact k new s).streams = (interlocksSettled k new s).streams :=
  settleStop_streams k _ new _

/-- Settles O46: the checks in their order; the state taken is `replaceContact`, by its three steps. -/
theorem setContactComparesOldAndNew : Obligations.SetContactComparesOldAndNew := by
  refine fun r s h => ⟨fun high => ?badIndex, fun k old index hold => ⟨fun unfit => ?range,
    fun role normal priority mask reading hrole hnormal hpriority slow low high hmask hreading =>
      ⟨fun forced burning => ?wrongState, fun free => ?taken⟩⟩⟩
  case badIndex => rw [execSetContact_sent h, onContact_badIndex _ _ high, settleReply_refuse]
  case range =>
    rw [execSetContact_sent h, onContact_of index, setContact_range (Contact.rewritten_none _ unfit),
      settleReply_refuse]
  all_goals
    have same : (openRequest r s).contact k = old := by rw [openRequest_contact, hold]
    have fields := ((openRequest r s).contact k).rewritten_eq hrole hnormal hpriority slow low high
    rw [← hmask] at fields
  case wrongState =>
    rw [execSetContact_sent h, onContact_of index, setContact_wrongState fields (by rw [same, forced])
      ((masksBurning_openRequest r s mask).mpr burning), settleReply_refuse]
  case taken =>
    generalize hnew : old.configured role normal priority mask (u8 r.body 5) (u8 r.body 6 == 1) = new
    rw [same, hnew] at fields
    have due : new.due = true ↔ role ≠ .none ∧ old.forced = false ∧ reading ≠ normal := by
      rw [Contact.due_iff_reading, ← hnew, hreading]
      rfl
    have stops : new.stops = true ↔ role = .coolerStop ∧ reading ≠ normal := by
      rw [Contact.stops_iff_reading, ← hnew, hreading]
      rfl
    have covers (i : Fin 8) : (new.covers i = true ∧ ¬old.covers i = true) ↔
        role = .streamInterlock ∧ reading ≠ normal ∧ mask.getLsbD i.val = true ∧
          ¬(old.role = .streamInterlock ∧ old.reading ≠ old.normal ∧ old.mask.getLsbD i.val = true) := by
      rw [Contact.covers_iff, Contact.covers_iff, ← hnew, hreading]
      exact and_assoc.trans (and_congr_right fun _ => and_assoc)
    have written : (openRequest r s).modContact k (fun _ => new) = (openRequest r s).modContact k fun _ =>
        ⟨role, normal, priority, mask, u8 r.body 5, u8 r.body 6 == 1, old.accepted, 0, old.forced, old.cond,
          old.forcedCond⟩ := by rw [← hnew]; rfl
    have before : old.role = .coolerStop ∧ old.reading ≠ old.normal ↔ ((openRequest r s).contact k).stops = true := by
      rw [same, Contact.stops_iff_reading]
    refine ⟨replaceContact k new (openRequest r s), ?answer, ?contact, fun j other => ?others,
      fun i covered hcovered => ?streams, fun _ _ hbefore hnow => ?cooler,
      _, conditionSettled k new (openRequest r s), interlocksSettled k new (openRequest r s), written,
      fun _ hdue => ?condition, ?inOrder, interlocksSettled_sameBlocks k new _, (replaceContact_streams k new _).symm,
      fun still => interlocksSettled_idle fun i => ?idle,
      fun _ _ hbefore hnow => replaceContact_stop (hbefore.trans before) (hnow.trans stops.symm)⟩
    case answer =>
      have allowed : ¬(((openRequest r s).contact k).forced = true ∧
          (openRequest r s).masksBurning new.mask = true) := by
        rw [same, masksBurning_openRequest, ← hnew, not_and_or, Bool.not_eq_true]
        exact free
      rw [execSetContact_sent h, onContact_of index, setContact_taken (by rw [same, fields]) allowed,
        settleReply_done, contactBytes]
    case contact =>
      have isDue : new.due = decide (role ≠ .none ∧ old.forced = false ∧ reading ≠ normal) := by
        rw [Bool.eq_iff_iff, due, decide_eq_true_iff]
      rw [replaceContact_contact (by rw [← hnew, same]; rfl), isDue, ← hnew]
      rfl
    case others => rw [(replaceContact_turn k new _).contacts j other, openRequest_contact]
    case streams =>
      rw [hcovered.trans (covers i).symm]
      refine withdrawn_where ?_
      rw [State.stream_congr (replaceContact_streams k new _), interlocksSettled_stream, same, openRequest_stream]
    case cooler =>
      rw [← openRequest_cooler r s]
      exact replaceContact_stop_cooler (hbefore.trans before) (hnow.trans stops.symm)
    case condition =>
      have settled := conditionSettled_cases (k := k) (s := openRequest r s) (hdue.trans due.symm)
      rw [same, ← hnew] at settled
      rw [← hnew]
      exact settled
    case inOrder =>
      refine (interlocksSettled_inOrder k new _).congr fun i => ?_
      rw [same]
      exact covers i
    case idle =>
      rw [← State.stream_congr (replaceContact_streams k new _), still, openRequest_stream]

end Sys2Proof.Machine
end

section
/-! PROOFS. FORCE_CONTACT and UNFORCE in every state: when each is refused, and the contact, the streams and the cooler
stop when it is taken (R53, R124, R131, R134, R135). -/

namespace Sys2Proof.Machine

/-! ### What a contact acted on reaches by its role -/

theorem goesAbnormal_stream (k : Fin 24) (s : State) (i : Fin 8) :
    (goesAbnormal k s).stream i =
      if (s.contact k).role = .streamInterlock ∧ (s.contact k).mask.getLsbD i.val = true then
        withdrawn .interlock (s.stream i)
      else s.stream i := by
  cases role : (s.contact k).role with
  | none => simp [goesAbnormal_none role]
  | alarm => simp [goesAbnormal_alarm role]
  | streamInterlock => simp [goesAbnormal_interlock_stream role]
  | coolerStop => simp [goesAbnormal_coolerStop role, State.stream_congr (stopReported_streams _ _)]

theorem goesAbnormal_cooler_kept {k : Fin 24} {s : State} (role : (s.contact k).role ≠ .coolerStop) :
    (goesAbnormal k s).cooler = s.cooler := by
  cases acts : (s.contact k).role with
  | none => rw [goesAbnormal_none acts]
  | alarm => rw [goesAbnormal_alarm acts]; rfl
  | streamInterlock => rw [goesAbnormal_interlock acts, (reportInterlocks_sameBlocks _ _).cooler]; rfl
  | coolerStop => exact absurd acts role

theorem returnsNormal_cooler_kept {k : Fin 24} {s : State} (role : (s.contact k).role ≠ .coolerStop) :
    (returnsNormal k s).cooler = s.cooler := by
  cases acts : (s.contact k).role with
  | none => rw [returnsNormal_none acts]
  | alarm => rw [returnsNormal_cleared (.inl acts)]; rfl
  | streamInterlock => rw [returnsNormal_cleared (.inr acts)]; rfl
  | coolerStop => exact absurd acts role

/-! ### FORCE_CONTACT -/

theorem execForceContact_sent {r : Request} {s : State} (h : Sent [.desk] 1 r s) :
    exec (.forceContact r) s =
      .next (settleReply .desk 0x66#8 (openRequest r s) (onContact r.body forceContact (openRequest r s))) := by
  have taken : exec (.forceContact r) s = _ :=
    takeRequest_of_sent (row := Cmd.forceContact) h (by decide) (by decide)
  rw [taken, List.mem_singleton.mp h.link]
  rfl

theorem forceContact_wrongState {k : Fin 24} {s : State} (burning : s.masksBurning (s.contact k).mask = true) :
    forceContact k s = .refuse .wrongState := if_pos burning

theorem forceContact_held {k : Fin 24} {s : State} (rests : ¬s.masksBurning (s.contact k).mask = true)
    (forced : (s.contact k).forced = true) : forceContact k s = .done s (contactBytes k s) := by
  rw [forceContact, if_neg rests, if_pos forced]

theorem forceContact_taken {k : Fin 24} {s : State} (rests : ¬s.masksBurning (s.contact k).mask = true)
    (free : (s.contact k).forced = false) : forceContact k s = .done (force k s) (contactBytes k (force k s)) := by
  rw [forceContact, if_neg rests, if_neg (Bool.eq_false_iff.mp free)]

/-- A force taken, after its return to normal and before CONTACT_FORCED (R134). -/
def forceReturned (k : Fin 24) (s : State) : State :=
  if (s.contact k).abnormal then returnsNormal k (s.modContact k fun c => { c with forced := true })
  else s.modContact k fun c => { c with forced := true }

theorem force_eq (k : Fin 24) (s : State) :
    force k s =
      raiseAlarm ⟨.contactForced k, .p3, none⟩ ((forceReturned k s).modContact k fun c => { c with forcedCond := true }) :=
  rfl

theorem forceReturned_normal {k : Fin 24} {s : State} (free : (s.contact k).forced = false)
    (normal : (s.contact k).accepted = (s.contact k).normal) :
    forceReturned k s = s.modContact k fun c => { c with forced := true } :=
  if_neg fun abnormal => (Contact.abnormal_of_free free).mp abnormal normal

theorem forceReturned_abnormal {k : Fin 24} {s : State} (free : (s.contact k).forced = false)
    (abnormal : (s.contact k).accepted ≠ (s.contact k).normal) :
    forceReturned k s = returnsNormal k (s.modContact k fun c => { c with forced := true }) :=
  if_pos ((Contact.abnormal_of_free free).mpr abnormal)

/-- A force leaves the cooler to the return to normal. -/
theorem force_cooler_eq (k : Fin 24) (s : State) : (force k s).cooler = (forceReturned k s).cooler := rfl

theorem force_leaves_stop {k : Fin 24} {s : State} (free : (s.contact k).forced = false)
    (role : (s.contact k).role = .coolerStop) (abnormal : (s.contact k).accepted ≠ (s.contact k).normal) :
    k ∉ (force k s).cooler.stopContacts := by
  rw [force_cooler_eq, forceReturned_abnormal free abnormal, mem_returnsNormal, State.modContact_contact_self]
  exact fun mem => mem.1 ⟨rfl, role⟩

theorem force_cooler_kept {k : Fin 24} {s : State} (free : (s.contact k).forced = false)
    (h : (s.contact k).role ≠ .coolerStop ∨ (s.contact k).accepted = (s.contact k).normal) :
    (force k s).cooler = s.cooler := by
  rw [force_cooler_eq]
  by_cases normal : (s.contact k).accepted = (s.contact k).normal
  · rw [forceReturned_normal free normal]
    rfl
  · have role : (s.contact k).role ≠ .coolerStop := h.resolve_right normal
    rw [forceReturned_abnormal free normal, returnsNormal_cooler_kept (by rwa [State.modContact_contact_self])]
    rfl

/-! ### UNFORCE -/

theorem execUnforce_sent {r : Request} {s : State} (h : Sent [.desk] 1 r s) :
    exec (.unforce r) s =
      .next (settleReply .desk 0x67#8 (openRequest r s) (onContact r.body unforce (openRequest r s))) := by
  have taken : exec (.unforce r) s = _ := takeRequest_of_sent (row := Cmd.unforce) h (by decide) (by decide)
  rw [taken, List.mem_singleton.mp h.link]
  rfl

theorem unforce_wrongState {k : Fin 24} {s : State} (free : (s.contact k).forced = false) :
    unforce k s = .refuse .wrongState := if_neg (Bool.eq_false_iff.mp free)

theorem unforce_taken {k : Fin 24} {s : State} (forced : (s.contact k).forced = true) :
    unforce k s = .done (liftForce k s) (contactBytes k (liftForce k s)) := if_pos forced

/-- A force lifted, before the contact is acted on (R135). -/
def forceCleared (k : Fin 24) (s : State) : State :=
  clearAlarm (.contactForced k) (s.modContact k fun c => { c with forced := false, forcedCond := false })

theorem forceCleared_contact (k : Fin 24) (s : State) :
    (forceCleared k s).contact k = { s.contact k with forced := false, forcedCond := false } :=
  (clearAlarm_contact _ _ _).trans (State.modContact_contact_self _ _ _)

theorem forceCleared_abnormal (k : Fin 24) (s : State) :
    ((forceCleared k s).contact k).abnormal = true ↔ (s.contact k).accepted ≠ (s.contact k).normal := by
  rw [forceCleared_contact, Contact.abnormal_of_free rfl]

theorem liftForce_normal {k : Fin 24} {s : State} (normal : (s.contact k).accepted = (s.contact k).normal) :
    liftForce k s = forceCleared k s :=
  if_neg fun abnormal => (forceCleared_abnormal k s).mp abnormal normal

theorem liftForce_abnormal {k : Fin 24} {s : State} (abnormal : (s.contact k).accepted ≠ (s.contact k).normal) :
    liftForce k s = goesAbnormal k (forceCleared k s) := if_pos ((forceCleared_abnormal k s).mpr abnormal)

theorem liftForce_contact (k : Fin 24) (s : State) :
    (liftForce k s).contact k =
      { s.contact k with
        forced := false
        forcedCond := false
        cond :=
          if (s.contact k).role ≠ .none ∧ (s.contact k).accepted ≠ (s.contact k).normal then true
          else (s.contact k).cond } := by
  by_cases normal : (s.contact k).accepted = (s.contact k).normal
  · rw [liftForce_normal normal, forceCleared_contact, if_neg fun both => both.2 normal]
  · rw [liftForce_abnormal normal, goesAbnormal_contact, forceCleared_contact]
    by_cases role : (s.contact k).role = .none <;> simp [Contact.withCond, role, normal]

theorem liftForce_stream (k : Fin 24) (s : State) (i : Fin 8) :
    (liftForce k s).stream i =
      if (s.contact k).role = .streamInterlock ∧ (s.contact k).accepted ≠ (s.contact k).normal ∧
          (s.contact k).mask.getLsbD i.val = true then withdrawn .interlock (s.stream i)
      else s.stream i := by
  by_cases normal : (s.contact k).accepted = (s.contact k).normal
  · rw [liftForce_normal normal, if_neg fun guarded => guarded.2.1 normal]
    rfl
  · rw [liftForce_abnormal normal, goesAbnormal_stream, forceCleared_contact]
    simp [normal, forceCleared]

theorem liftForce_stops {k : Fin 24} {s : State} (role : (s.contact k).role = .coolerStop)
    (abnormal : (s.contact k).accepted ≠ (s.contact k).normal) : k ∈ (liftForce k s).cooler.stopContacts := by
  rw [liftForce_abnormal abnormal, mem_goesAbnormal, forceCleared_contact]
  exact .inl ⟨rfl, role⟩

theorem liftForce_cooler_kept {k : Fin 24} {s : State}
    (h : (s.contact k).role ≠ .coolerStop ∨ (s.contact k).accepted = (s.contact k).normal) :
    (liftForce k s).cooler = s.cooler := by
  by_cases normal : (s.contact k).accepted = (s.contact k).normal
  · rw [liftForce_normal normal]
    rfl
  · have role : (s.contact k).role ≠ .coolerStop := h.resolve_right normal
    rw [liftForce_abnormal normal, goesAbnormal_cooler_kept (by rwa [forceCleared_contact])]
    rfl

/-- Settles O47: the refusals, the force on a forced contact, then `force` by its return and `liftForce` by the contact
that it may leave abnormal. -/
theorem forceHeldAndLifted : Obligations.ForceHeldAndLifted := by
  refine fun r s h => ⟨fun high => ⟨?forceIndex, ?unforceIndex⟩, fun k c index hc => ?_⟩
  case forceIndex => rw [execForceContact_sent h, onContact_badIndex _ _ high, settleReply_refuse]
  case unforceIndex => rw [execUnforce_sent h, onContact_badIndex _ _ high, settleReply_refuse]
  have same : (openRequest r s).contact k = c := by rw [openRequest_contact, hc]
  have masks : (openRequest r s).masksBurning ((openRequest r s).contact k).mask = true ↔ MasksBurning s c.mask := by
    rw [same, masksBurning_openRequest]
  rw [execForceContact_sent h, execUnforce_sent h, onContact_of index, onContact_of index]
  subst same
  refine ⟨fun burning => ?burning, fun rests forced => ?held, fun rests free => ?force, fun free => ?notForced,
    fun forced => ?lift⟩
  case burning => rw [forceContact_wrongState (masks.mpr burning), settleReply_refuse]
  case held => rw [forceContact_held (masks.not.mpr rests) forced, settleReply_done, contactBytes]
  case force =>
    refine ⟨force k (openRequest r s), ?_, ?_, fun j other => ?_, ?_, force_leaves_stop free, fun kept => ?_, _,
      forceReturned k (openRequest r s), rfl, forceReturned_normal free, forceReturned_abnormal free, force_eq k _⟩
    · rw [forceContact_taken (masks.not.mpr rests) free, settleReply_done, contactBytes]
    · simp only [force_contact, Contact.abnormal_of_free free]
    · rw [(force_turn k _).contacts j other, openRequest_contact]
    · rw [force_streams, openRequest_streams]
    · rw [force_cooler_kept free kept, openRequest_cooler]
  case notForced => rw [unforce_wrongState free, settleReply_refuse]
  case lift =>
    refine ⟨liftForce k (openRequest r s), ?_, liftForce_contact k _, fun j other => ?_, fun i guarded hguarded => ?_,
      liftForce_stops, fun kept => ?_, forceCleared k (openRequest r s), rfl, liftForce_normal, liftForce_abnormal⟩
    · rw [unforce_taken forced, settleReply_done, contactBytes]
    · rw [(liftForce_turn k _).contacts j other, openRequest_contact]
    · rw [hguarded]
      refine withdrawn_where ?_
      rw [liftForce_stream, openRequest_stream]
    · rw [liftForce_cooler_kept kept, openRequest_cooler]

end Sys2Proof.Machine
end

section
/-! PROOFS. The alarm list and the horns under the operations of the Alarm Unit: each of them keeps a sound unit sound
(R140 to R153). -/

namespace Sys2Proof.Machine

/-! ### Sound lists -/

/-- The conditions of `AlarmSound` on the list alone: at most 64 entries, no code twice, each sound (R140, R141). -/
structure ListSound (l : List Entry) : Prop where
  length : l.length ≤ 64
  codes : (l.map Entry.code).Nodup
  entries : ∀ e ∈ l, EntrySound e

theorem AlarmSound.listSound {a : AlarmUnit} (h : AlarmSound a) : ListSound a.list := ⟨h.length, h.codes, h.entries⟩

theorem ListSound.filter {l : List Entry} (h : ListSound l) (p : Entry → Bool) : ListSound (l.filter p) where
  length := (List.length_filter_le p l).trans h.length
  codes := h.codes.sublist (List.filter_sublist.map _)
  entries e mem := h.entries e (List.mem_of_mem_filter mem)

theorem ListSound.removed {a : AlarmUnit} (h : ListSound a.list) (c : AlarmCode) : ListSound (a.removed c) := h.filter _

/-- Entries changed in their places, their codes kept. -/
theorem ListSound.map {l : List Entry} (h : ListSound l) {f : Entry → Entry} (code : ∀ e, (f e).code = e.code)
    (sound : ∀ e ∈ l, EntrySound (f e)) : ListSound (l.map f) where
  length := by rw [List.length_map]; exact h.length
  codes := by
    rw [List.map_map, show Entry.code ∘ f = Entry.code from funext code]
    exact h.codes
  entries := by simpa using sound

/-- An entry appended under a code that the list does not hold. -/
theorem ListSound.append {l : List Entry} (h : ListSound l) {e : Entry} (sound : EntrySound e) (room : l.length < 64)
    (fresh : ∀ x ∈ l, x.code ≠ e.code) : ListSound (l ++ [e]) where
  length := by rw [List.length_append, List.length_singleton]; omega
  codes := by
    rw [List.map_append, List.nodup_append]
    refine ⟨h.codes, by simp, ?_⟩
    simpa using fresh
  entries x mem := by
    obtain mem | mem := List.mem_append.mp mem
    · exact h.entries x mem
    · rwa [List.mem_singleton.mp mem]

/-- With no code twice, two entries of one code are one entry. -/
theorem ListSound.eq_of_code {l : List Entry} (h : ListSound l) {x e : Entry} (hx : x ∈ l) (he : e ∈ l)
    (code : x.code = e.code) : x = e :=
  List.inj_on_of_nodup_map h.codes hx he code

/-- The entry holding a code changed in its place, its code kept. -/
theorem ListSound.replaced {a : AlarmUnit} (h : ListSound a.list) {c : AlarmCode} {f : Entry → Entry} {e : Entry}
    (found : a.find c = some e) (code : ∀ x, (f x).code = x.code) (sound : EntrySound e → EntrySound (f e)) :
    ListSound (a.replaced c f) := by
  obtain ⟨mem, holds⟩ := AlarmUnit.find_mem found
  refine h.map (fun x => by split <;> simp [code]) fun x hx => ?_
  split
  case isTrue same => rw [h.eq_of_code hx mem (same.trans holds.symm)]; exact sound (h.entries e mem)
  case isFalse => exact h.entries x hx

/-- With no code twice, removing a code removes one entry. -/
theorem ListSound.length_removed {a : AlarmUnit} (h : ListSound a.list) {e : Entry} (mem : e ∈ a.list) :
    (a.removed e.code).length + 1 = a.list.length := by
  have codes : (a.removed e.code).map Entry.code = (a.list.map Entry.code).erase e.code := by
    rw [h.codes.erase_eq_filter, List.filter_map]
    rfl
  have shorter := List.length_erase_add_one (List.mem_map_of_mem (f := Entry.code) mem)
  rwa [← codes, List.length_map, List.length_map] at shorter

/-! ### Sound entries -/

theorem Raise.entry_sound (r : Raise) (now : ClockTime) : EntrySound (r.entry now) where
  active _ := rfl
  cleared := nofun
  shelf := ⟨nofun, nofun⟩
  shelved := nofun
  count := ⟨le_rfl, Nat.le_add_left 1 254⟩

theorem satAdd_one_mem {v : Nat} : 1 ≤ satAdd 255 v 1 ∧ satAdd 255 v 1 ≤ 255 := by
  unfold satAdd
  omega

/-- The entry raised again is SHELVED only where it was so before and the raise is not at P1 (R141). -/
theorem Raise.again_sound (r : Raise) (now : ClockTime) {e : Entry} (h : EntrySound e) :
    EntrySound (r.again now e) := by
  by_cases keeps : r.keepsShelf e = true
  · have kept := keeps
    simp only [Raise.keepsShelf, Bool.and_eq_true, beq_iff_eq, bne_iff_ne] at kept
    exact ⟨fun _ => rfl, by simp [Raise.again, keeps], by simp [Raise.again, keeps, h.shelf, kept.1],
      fun _ => kept.2, satAdd_one_mem⟩
  · exact ⟨fun _ => rfl, by simp [Raise.again, keeps], by simp [Raise.again, keeps], by simp [Raise.again, keeps],
      satAdd_one_mem⟩

theorem EntrySound.toClearedUnack {e : Entry} (h : EntrySound e) (state : e.state = .activeUnack) :
    EntrySound { e with state := .clearedUnack, active := false } :=
  ⟨by simp, fun _ => rfl, by simp [h.shelf, state], by simp, h.count⟩

theorem EntrySound.toActiveAck {e : Entry} (h : EntrySound e) (state : e.state = .activeUnack) :
    EntrySound { e with state := .activeAck } :=
  ⟨fun _ => h.active (.inl state), by simp, by simp [h.shelf, state], by simp, h.count⟩

theorem EntrySound.toClear {e : Entry} (h : EntrySound e) (state : e.state = .shelved) :
    EntrySound { e with active := false } :=
  ⟨by simp [state], fun _ => rfl, h.shelf, h.shelved, h.count⟩

theorem EntrySound.shelvedFor {e : Entry} (h : EntrySound e) (ms : Nat) (low : e.priority ≠ .p1) :
    EntrySound (e.shelvedFor ms) :=
  ⟨by simp [Entry.shelvedFor], by simp [Entry.shelvedFor], by simp [Entry.shelvedFor], fun _ => low, h.count⟩

theorem EntrySound.returned {e : Entry} (h : EntrySound e) (active : e.active = true) : EntrySound e.returned :=
  ⟨fun _ => active, by simp [Entry.returned], by simp [Entry.returned], by simp [Entry.returned], h.count⟩

theorem EntrySound.acked {e : Entry} (h : EntrySound e) : EntrySound e.acked := by
  unfold Entry.acked
  split
  case isTrue state => exact h.toActiveAck state
  case isFalse => exact h

theorem EntrySound.tick {e : Entry} (h : EntrySound e) : EntrySound e.tick :=
  { h with shelf := by simp [Entry.tick, tickTimer, h.shelf] }

/-! ### The operations of the Alarm Unit -/

/-- A unit whose list or flags changed, its horns brought to the change (R151, R152). -/
theorem AlarmSound.settled {a b : AlarmUnit} (h : AlarmSound a) (hornB : b.hornB = a.hornB)
    (timer : b.hornBTimer = a.hornBTimer) (list : ListSound b.list)
    (overflow : b.overflow = true → 48 < b.list.length) : AlarmSound b.settleHorns where
  length := list.length
  codes := list.codes
  entries := list.entries
  overflow := overflow
  hornA := rfl
  hornB := b.settleHorns_hornB
  timer := by rw [b.settleHorns_timer (by rw [hornB, timer, h.timer]), b.settleHorns_hornB]

theorem AlarmSound.withList {a : AlarmUnit} (h : AlarmSound a) {l : List Entry} (list : ListSound l)
    (length : a.list.length ≤ l.length) : AlarmSound (a.withList l) :=
  h.settled rfl rfl list fun flag => (h.overflow flag).trans_le length

/-- After a removal the overflow flag stands only over more than 48 entries (R145). -/
theorem AlarmSound.afterRemoval {a : AlarmUnit} (h : AlarmSound a) {l : List Entry} (list : ListSound l) :
    AlarmSound (a.afterRemoval l) :=
  h.settled rfl rfl list fun flag => of_decide_eq_true (Bool.and_eq_true_iff.mp flag).2

/-- The entry holding a code changed in its place. -/
theorem AlarmSound.withReplaced {a : AlarmUnit} (h : AlarmSound a) {c : AlarmCode} {f : Entry → Entry} {e : Entry}
    (found : a.find c = some e) (code : ∀ x, (f x).code = x.code) (sound : EntrySound e → EntrySound (f e)) :
    AlarmSound (a.withList (a.replaced c f)) :=
  h.withList (h.listSound.replaced found code sound) (List.length_map _).ge

/-- Nothing that soundness asks of the unit lies in the first-out record. -/
theorem AlarmSound.withFirstOut {a : AlarmUnit} (h : AlarmSound a) (f : FirstOut) :
    AlarmSound { a with firstOut := f } :=
  ⟨h.length, h.codes, h.entries, h.overflow, h.hornA, h.hornB, h.timer⟩

/-- The list after a raise: sound, and over 48 entries where the overflow flag is to stand (R141, R144, R145). -/
theorem AlarmSound.listAfter {a : AlarmUnit} (h : AlarmSound a) (r : Raise) (now : ClockTime) :
    ListSound (a.listAfter r now) ∧ a.list.length ≤ (a.listAfter r now).length ∧
      ((a.fate r).overflows = true → 64 ≤ a.list.length) := by
  have list := h.listSound
  unfold AlarmUnit.listAfter
  obtain ⟨e, found, fate⟩ | ⟨absent, room, fate⟩ | ⟨absent, full, v, evicted, fate⟩ | ⟨-, full, -, fate⟩ :=
    a.fate_cases r <;> rw [fate]
  · obtain ⟨mem, code⟩ := AlarmUnit.find_mem found
    have shorter := list.length_removed mem
    rw [code] at shorter
    refine ⟨(list.removed _).append (r.again_sound now (h.entries e mem)) (by have := h.length; omega) fun x hx => ?_,
      by rw [List.length_append, List.length_singleton]; omega, nofun⟩
    rw [show (r.again now e).code = e.code from rfl, code]
    exact (AlarmUnit.mem_removed.mp hx).2
  · exact ⟨list.append (r.entry_sound now) room (AlarmUnit.find_none absent), by simp, nofun⟩
  · have shorter := list.length_removed (victim_mem evicted).1
    refine ⟨(list.removed _).append (r.entry_sound now) (by have := h.length; omega) fun x hx => ?_,
      by rw [List.length_append, List.length_singleton]; omega, fun _ => full⟩
    exact AlarmUnit.find_none absent x (AlarmUnit.mem_removed.mp hx).1
  · exact ⟨list, le_rfl, fun _ => full⟩

theorem AlarmSound.raise {a : AlarmUnit} (h : AlarmSound a) (r : Raise) (now : ClockTime) :
    AlarmSound (a.raise r now) := by
  obtain ⟨list, length, full⟩ := h.listAfter r now
  refine h.settled rfl rfl list fun flag => ?_
  obtain flag | flag := Bool.or_eq_true_iff.mp flag
  · exact (h.overflow flag).trans_le length
  · exact Nat.lt_of_lt_of_le (by decide) ((full flag).trans length)

/-- A clear, by the state of the entry that holds the code (R142). -/
theorem AlarmSound.clear {a : AlarmUnit} (h : AlarmSound a) (c : AlarmCode) : AlarmSound (a.clear c) := by
  unfold AlarmUnit.clear
  split
  case h_1 => exact h
  case h_2 e found =>
    split
    case h_1 state => exact h.withReplaced found (fun _ => rfl) fun sound => sound.toClearedUnack state
    case h_2 => exact h.afterRemoval (h.listSound.removed c)
    case h_3 state =>
      split
      · exact h.withReplaced found (fun _ => rfl) fun sound => sound.toClear state
      · exact h
    case h_4 => exact h

theorem ListSound.allAcked {a : AlarmUnit} (h : ListSound a.list) : ListSound a.allAcked :=
  (h.filter _).map (fun e => by unfold Entry.acked; split <;> rfl) fun e mem =>
    (h.entries e (List.mem_of_mem_filter mem)).acked

/-- Without a CLEARED_UNACK entry ACK_ALL removes none (R147). -/
theorem AlarmUnit.length_allAcked {a : AlarmUnit} (none : a.countIn .clearedUnack = 0) :
    a.allAcked.length = a.list.length := by
  rw [AlarmUnit.countIn, List.length_eq_zero_iff, List.filter_eq_nil_iff] at none
  rw [AlarmUnit.allAcked, List.length_map, List.filter_eq_self.mpr fun e mem => by simpa using none e mem]

theorem AlarmSound.endShelf {a : AlarmUnit} (h : AlarmSound a) {c : AlarmCode} {e : Entry} (found : a.find c = some e) :
    AlarmSound (a.endShelf e) := by
  have mem := (AlarmUnit.find_mem found).1
  have shorter := h.listSound.length_removed mem
  unfold AlarmUnit.endShelf
  split
  case isTrue active =>
    refine h.settled rfl rfl ?_ fun flag => ?_
    · exact (h.listSound.removed _).append ((h.entries e mem).returned active) (by have := h.length; omega) fun x hx =>
        (AlarmUnit.mem_removed.mp hx).2
    · have := h.overflow flag
      rw [List.length_append, List.length_singleton]
      omega
  case isFalse => exact h.afterRemoval (h.listSound.removed _)

theorem AlarmSound.silenced {a : AlarmUnit} (h : AlarmSound a) : AlarmSound { a with silence := true }.settleHorns :=
  h.settled rfl rfl h.listSound h.overflow

/-- Horn B goes on sounding in its other half (R152). -/
theorem AlarmSound.turned {a : AlarmUnit} (h : AlarmSound a) (running : a.hornBTimer.isSome = true) :
    AlarmSound { a with hornB := a.hornB.otherHalf, hornBTimer := some 1000 } := by
  have sounding : a.hornB.otherHalf.sounding = a.hornB.sounding := by cases a.hornB <;> rfl
  exact ⟨h.length, h.codes, h.entries, h.overflow, h.hornA, sounding.trans h.hornB,
    (running.symm.trans h.timer).trans sounding.symm⟩

/-- The shelf timers make no difference to which entries are unacknowledged. -/
theorem AlarmUnit.tick_unackedAt (a : AlarmUnit) (p : Priority) : a.tick.unackedAt p = a.unackedAt p :=
  List.any_map

theorem AlarmSound.tick {a : AlarmUnit} (h : AlarmSound a) : AlarmSound a.tick := by
  have list : ListSound a.tick.list := h.listSound.map (fun _ => rfl) fun e mem => (h.entries e mem).tick
  have wantsA : a.tick.wantsA = a.wantsA := by simp only [AlarmUnit.wantsA, a.tick_unackedAt]; rfl
  have wantsB : a.tick.wantsB = a.wantsB := by simp only [AlarmUnit.wantsB, a.tick_unackedAt, wantsA]; rfl
  refine ⟨list.length, list.codes, list.entries, fun flag => ?_, h.hornA.trans wantsA.symm,
    h.hornB.trans wantsB.symm, ?_⟩
  · rw [AlarmUnit.tick, List.length_map]; exact h.overflow flag
  · rw [AlarmUnit.tick, tickTimer, Option.isSome_map]; exact h.timer

end Sys2Proof.Machine
end

section
/-! PROOFS. What every command does to the Alarm Unit: it keeps the alarm list and the horns sound, and so does every
step (O56; R140, R141, R145, R151, R152). -/

namespace Sys2Proof.Machine

/-! ### States that keep the Alarm Unit sound -/

/-- From `s` to `t` a sound Alarm Unit stays sound. -/
def AlarmsKept (s t : State) : Prop := AlarmSound s.au → AlarmSound t.au

namespace AlarmsKept

theorem of_eq {s t : State} (au : t.au = s.au) : AlarmsKept s t := fun h => au ▸ h

theorem refl (s : State) : AlarmsKept s s := id

theorem trans {s t u : State} (h : AlarmsKept s t) (k : AlarmsKept t u) : AlarmsKept s u := k ∘ h

/-- After a change of what is no part of the Alarm Unit. -/
theorem after {s t u : State} (h : AlarmsKept t u) (au : t.au = s.au) : AlarmsKept s u := (of_eq au).trans h

/-- Before a change of what is no part of the Alarm Unit. -/
theorem before {s t u : State} (h : AlarmsKept s t) (au : u.au = t.au) : AlarmsKept s u := h.trans (of_eq au)

theorem raiseAlarm {s t : State} (h : AlarmsKept s t) (r : Raise) : AlarmsKept s (Machine.raiseAlarm r t) :=
  fun sound => ((h sound).raise r t.su.clock).withFirstOut _

theorem clearAlarm {s t : State} (h : AlarmsKept s t) (c : AlarmCode) : AlarmsKept s (Machine.clearAlarm c t) :=
  fun sound => (h sound).clear c

theorem foldl {α : Type} {f : State → α → State} (h : ∀ s a, AlarmsKept s (f s a)) (l : List α) (s : State) :
    AlarmsKept s (l.foldl f s) := by
  induction l generalizing s with
  | nil => exact .refl s
  | cons a l ih => exact (h s a).trans (ih (f s a))

end AlarmsKept

/-! ### Trips and withdrawals -/

theorem trip_alarms (i : Fin 8) (c : TripCause) (s : State) : AlarmsKept s (trip i c s) := fun sound => by
  have raised := sound.raise (tripRaise i c) s.su.clock
  rw [trip_au]
  split
  · exact raised.withFirstOut _
  · exact (raised.clear _).withFirstOut _

theorem withdraw_alarms (c : TripCause) (i : Fin 8) (s : State) : AlarmsKept s (withdraw c i s) := by
  unfold withdraw
  split
  · exact trip_alarms i c s
  · split <;> exact .of_eq rfl

theorem withdrawAll_alarms (c : TripCause) (s : State) : AlarmsKept s (withdrawAll c s) :=
  .foldl (fun s i => withdraw_alarms c i s) all8 s

theorem reportInterlocks_alarms (p : Fin 8 → Bool) (s : State) : AlarmsKept s (reportInterlocks p s) := by
  refine .foldl (fun s i => ?_) all8 s
  split
  · exact withdraw_alarms .interlock i s
  · exact .refl s

/-! ### The cooler and the contacts -/

/-- Holdback raises and clears COOLER_HOLDBACK, and offers reach no alarm (R125). -/
theorem refreshHoldback_alarms (s : State) : AlarmsKept s (refreshHoldback s) := by
  have held (b : Bool) : AlarmsKept s (s.modCooler fun c => { c with holdback := b }) := .of_eq rfl
  unfold refreshHoldback
  split
  · exact ((held true).raiseAlarm holdbackRaise).before rfl
  split
  · exact ((held false).before rfl).clearAlarm .coolerHoldback
  · exact .refl s

theorem stopReported_alarms (k : Fin 24) (s : State) : AlarmsKept s (stopReported k s) := by
  unfold stopReported
  split
  · exact .refl s
  · split <;> exact (refreshHoldback_alarms _).after rfl

theorem stopReturned_alarms (k : Fin 24) (s : State) : AlarmsKept s (stopReturned k s) := by
  unfold stopReturned
  split
  · exact (refreshHoldback_alarms _).after rfl
  · exact .refl s

theorem raiseContact_alarms (k : Fin 24) (s : State) : AlarmsKept s (raiseContact k s) :=
  AlarmsKept.raiseAlarm (t := s.modContact k fun c => { c with cond := true }) (.of_eq rfl) _

theorem clearContact_alarms (k : Fin 24) (s : State) : AlarmsKept s (clearContact k s) :=
  AlarmsKept.clearAlarm (t := s.modContact k fun c => { c with cond := false }) (.of_eq rfl) _

theorem goesAbnormal_alarms (k : Fin 24) (s : State) : AlarmsKept s (goesAbnormal k s) := by
  have raised := raiseContact_alarms k s
  unfold goesAbnormal
  split
  · exact .refl s
  · exact raised
  · exact raised.trans (reportInterlocks_alarms _ _)
  · exact raised.trans (stopReported_alarms k _)

theorem returnsNormal_alarms (k : Fin 24) (s : State) : AlarmsKept s (returnsNormal k s) := by
  have cleared := clearContact_alarms k s
  unfold returnsNormal
  split
  · exact .refl s
  · exact cleared
  · exact cleared
  · exact cleared.trans (stopReturned_alarms k _)

theorem sampleContact_alarms (k : Fin 24) (level : Level) (s : State) : AlarmsKept s (sampleContact k level s) := by
  unfold sampleContact actOnReading
  split; swap; · exact .of_eq rfl
  split
  · exact (goesAbnormal_alarms k _).after rfl
  · exact (returnsNormal_alarms k _).after rfl

theorem scanContacts_alarms (levels : BitVec 24) (s : State) : AlarmsKept s (scanContacts levels s) := by
  refine .foldl (fun s k => ?_) all24 s
  split
  · exact sampleContact_alarms k _ s
  · exact .refl s

theorem settleCondition_alarms (k : Fin 24) (before : Bool) (s : State) :
    AlarmsKept s (settleCondition k before s) := by
  unfold settleCondition
  split
  · exact clearContact_alarms k s
  split
  · exact raiseContact_alarms k s
  · exact .refl s

theorem settleStop_alarms (k : Fin 24) (old new : Contact) (s : State) : AlarmsKept s (settleStop k old new s) := by
  unfold settleStop
  split
  · exact stopReturned_alarms k s
  split
  · exact stopReported_alarms k s
  · exact .refl s

theorem replaceContact_alarms (k : Fin 24) (new : Contact) (s : State) : AlarmsKept s (replaceContact k new s) := by
  have written : AlarmsKept s (s.modContact k fun _ => new) := .of_eq rfl
  exact written.trans <| (settleCondition_alarms k _ _).trans <|
    (reportInterlocks_alarms _ _).trans (settleStop_alarms k _ new _)

theorem force_alarms (k : Fin 24) (s : State) : AlarmsKept s (force k s) := by
  have forced : AlarmsKept s (s.modContact k fun c => { c with forced := true }) := .of_eq rfl
  unfold force
  refine AlarmsKept.raiseAlarm (AlarmsKept.before ?_ rfl) (forcedRaise k)
  split
  · exact forced.trans (returnsNormal_alarms k _)
  · exact forced

theorem liftForce_alarms (k : Fin 24) (s : State) : AlarmsKept s (liftForce k s) := by
  have lifted : AlarmsKept s (clearAlarm (.contactForced k)
      (s.modContact k fun c => { c with forced := false, forcedCond := false })) :=
    AlarmsKept.clearAlarm (t := s.modContact k fun c => { c with forced := false, forcedCond := false }) (.of_eq rfl) _
  unfold liftForce
  dsimp only
  split
  · exact lifted.trans (goesAbnormal_alarms k _)
  · exact lifted

/-! ### Slots and cutback sets -/

theorem activate_alarms (k : Fin 4) (s : State) : AlarmsKept s (activate k s) := by
  have active : AlarmsKept s (s.modSet k fun c => { c with state := .active, timer := .stopped }) := .of_eq rfl
  exact (active.raiseAlarm (cutbackRaise k)).before rfl

theorem deactivate_alarms (k : Fin 4) (s : State) : AlarmsKept s (deactivate k s) := by
  have withdrawn : AlarmsKept s (offerCut (s.cutSet k).sites (.set k) none s) := .of_eq rfl
  exact (withdrawn.clearAlarm (.cutback k)).before rfl

theorem testIdle_alarms (k : Fin 4) (v : Int) (s : State) : AlarmsKept s (testIdle k v s) := by
  unfold testIdle
  split; swap; · exact .refl s
  split
  · exact activate_alarms k s
  · exact .of_eq rfl

theorem freshValue_alarms (v : Int) (k : Fin 4) (s : State) : AlarmsKept s (freshValue v k s) := by
  unfold freshValue
  split
  · exact .refl s
  · exact testIdle_alarms k v s
  · split <;> exact .of_eq rfl
  · split
    · exact deactivate_alarms k s
    · exact .refl s

theorem handFresh_alarms (n : Fin 8) (s : State) : AlarmsKept s (handFresh n s) := by
  refine .foldl (fun s k => ?_) all4 s
  split
  · exact freshValue_alarms _ k s
  · exact .refl s

theorem handStale_alarms (n : Fin 8) (s : State) : AlarmsKept s (handStale n s) := by
  refine .foldl (fun s k => ?_) all4 s
  split <;> exact .of_eq rfl

theorem rewriteSet_alarms (k : Fin 4) (c : CutSet) (s : State) : AlarmsKept s (rewriteSet k c s) := by
  have withdrawn : AlarmsKept s (if (s.cutSet k).state = .active then deactivate k s else s) := by
    split
    · exact deactivate_alarms k s
    · exact .refl s
  unfold rewriteSet
  dsimp only
  split
  · refine AlarmsKept.trans ?_ (testIdle_alarms k _ _)
    exact withdrawn.before rfl
  · exact withdrawn.before rfl

/-! ### The dosing period -/

theorem periodClose_alarms (s : State) (i : Fin 8) : AlarmsKept s (periodClose s i) := by
  have booked : AlarmsKept s (State.modStream i (Stream.closed s.period.ms)
      (State.modShift (OpenShift.bookFeed i (s.stream i).periodMass (s.stream i).periodHeat) s)) := .of_eq rfl
  unfold periodClose reportDeviation
  split
  · exact booked.raiseAlarm _
  split
  · exact booked.clearAlarm _
  · exact booked

theorem periodCloses_alarms (s : State) : AlarmsKept s (periodCloses s) := .foldl periodClose_alarms all8 s

theorem dose_alarms (x : Site) (s : State) : AlarmsKept s (dose x s) := by
  have computed (a : Allocation) : AlarmsKept s (writeResults x a { s with streams := lowerStreams x s.streams }) :=
    .of_eq rfl
  unfold dose computeSite reportUnplaced
  split
  · exact (computed _).raiseAlarm _
  split
  · exact (computed _).clearAlarm _
  · exact computed _

theorem dosingPeriod_alarms (s : State) :
    AlarmsKept s (dose .calc (dose .main (periodCloses { s with dosingTimer := s.period.ms }))) :=
  AlarmsKept.after (t := { s with dosingTimer := s.period.ms })
    ((periodCloses_alarms _).trans ((dose_alarms .main _).trans (dose_alarms .calc _))) rfl

/-! ### Requests -/

/-- A block takes a command into a state of which `p` holds, or refuses it. -/
inductive Reply.LeadsTo (p : State → Prop) : Reply → Prop
  | refuse {c : ResultCode} : Reply.LeadsTo p (.refuse c)
  | take {t : State} {c : ResultCode} {b : List Byte} (h : p t) : Reply.LeadsTo p (.take t c b)

theorem onStream_leadsTo {p : State → Prop} {act : Fin 8 → State → Reply} {s : State} (h : ∀ i, (act i s).LeadsTo p)
    (b : List Byte) : (onStream b act s).LeadsTo p := by
  unfold onStream
  split
  · exact h _
  · exact .refuse

theorem onContact_leadsTo {p : State → Prop} {act : Fin 24 → State → Reply} {s : State} (h : ∀ k, (act k s).LeadsTo p)
    (b : List Byte) : (onContact b act s).LeadsTo p := by
  unfold onContact
  split
  · exact h _
  · exact .refuse

theorem onCode_leadsTo {p : State → Prop} {act : AlarmCode → State → Reply} {s : State} (h : ∀ c, (act c s).LeadsTo p)
    (b : List Byte) : (onCode b act s).LeadsTo p := by
  unfold onCode
  split
  · exact h _
  · exact .refuse

theorem onEntry_leadsTo {p : State → Prop} {c : AlarmCode} {s : State} {act : Entry → Reply}
    (h : ∀ e, s.au.find c = some e → (act e).LeadsTo p) : (onEntry c s act).LeadsTo p := by
  unfold onEntry
  split
  case h_1 e found => exact h e found
  case h_2 => exact .refuse

/-- Opening a request clears SAFE_LINK at the first activity after an expiry, and reaches no other alarm (R58). -/
theorem openRequest_alarms (r : Request) (s : State) : AlarmsKept s (openRequest r s) := fun sound => by
  rw [openRequest_au]
  split
  · exact sound.clear .safeLink
  · exact sound

theorem takeRequest_alarms {row : CommandRow} {r : Request} {act : State → Reply} {s t : State}
    (h : takeRequest row r act s = .next t) (kept : ∀ s, (act s).LeadsTo (AlarmsKept s)) : AlarmsKept s t := by
  have opened := openRequest_alarms r s
  obtain ⟨-, rfl | ⟨-, ⟨-, rfl⟩ | ⟨-, -, rfl⟩ | ⟨-, -, rfl⟩⟩⟩ := takeRequest_next h
  · exact .of_eq rfl
  · exact opened.before rfl
  · exact opened.before rfl
  · cases reply : act (openRequest r s) with
    | refuse c => exact opened.before rfl
    | take u c b =>
      have taken := kept (openRequest r s)
      rw [reply] at taken
      cases taken with
      | take kept => exact (opened.trans kept).before rfl

theorem takeRequest_onStream_alarms {row : CommandRow} {r : Request} {act : Fin 8 → State → Reply} {s t : State}
    (h : takeRequest row r (onStream r.body act) s = .next t) (kept : ∀ i s, (act i s).LeadsTo (AlarmsKept s)) :
    AlarmsKept s t :=
  takeRequest_alarms h fun s => onStream_leadsTo (fun i => kept i s) _

theorem takeRequest_onContact_alarms {row : CommandRow} {r : Request} {act : Fin 24 → State → Reply} {s t : State}
    (h : takeRequest row r (onContact r.body act) s = .next t) (kept : ∀ k s, (act k s).LeadsTo (AlarmsKept s)) :
    AlarmsKept s t :=
  takeRequest_alarms h fun s => onContact_leadsTo (fun k => kept k s) _

theorem takeRequest_onCode_alarms {row : CommandRow} {r : Request} {act : AlarmCode → State → Reply} {s t : State}
    (h : takeRequest row r (onCode r.body act) s = .next t) (kept : ∀ c s, (act c s).LeadsTo (AlarmsKept s)) :
    AlarmsKept s t :=
  takeRequest_alarms h fun s => onCode_leadsTo (fun c => kept c s) _

/-! ### The commands of the Alarm Unit -/

theorem ack_alarms (c : AlarmCode) (s : State) : (ack c s).LeadsTo (AlarmsKept s) := by
  refine onEntry_leadsTo fun e found => ?_
  split
  case h_1 state =>
    exact .take fun sound => sound.withReplaced found (fun _ => rfl) fun entry => entry.toActiveAck state
  case h_2 => exact .take fun sound => sound.afterRemoval (sound.listSound.removed c)
  case h_3 => exact .take (.refl s)
  case h_4 => exact .take (.refl s)

theorem ackAll_alarms (s : State) : (ackAll s).LeadsTo (AlarmsKept s) := by
  refine .take fun sound => ?_
  rw [State.withAlarms_au]
  split
  case isTrue none => exact sound.withList sound.listSound.allAcked (AlarmUnit.length_allAcked none).ge
  case isFalse => exact sound.afterRemoval sound.listSound.allAcked

theorem shelve_alarms (minutes : Nat) (c : AlarmCode) (s : State) : (shelve minutes c s).LeadsTo (AlarmsKept s) := by
  unfold shelve
  split; · exact .refuse
  refine onEntry_leadsTo fun e found => ?_
  split; · exact .refuse
  case isFalse low =>
    exact .take fun sound => sound.withReplaced found (fun _ => rfl) fun entry => entry.shelvedFor _ low

theorem endShelf_alarms {c : AlarmCode} {e : Entry} {s : State} (found : s.au.find c = some e) :
    AlarmsKept s (endShelf e s) :=
  fun sound => sound.endShelf found

theorem unshelve_alarms (c : AlarmCode) (s : State) : (unshelve c s).LeadsTo (AlarmsKept s) := by
  refine onEntry_leadsTo fun e found => ?_
  split
  · exact .take (endShelf_alarms found)
  · exact .refuse

theorem firstoutMode_alarms (b : List Byte) (s : State) : (firstoutMode b s).LeadsTo (AlarmsKept s) := by
  unfold firstoutMode
  split; · exact .refuse
  split; · exact .refuse
  exact .take fun sound => sound.withFirstOut _

/-! ### The commands of the other blocks -/

theorem release_alarms (i : Fin 8) (s : State) : (release i s).LeadsTo (AlarmsKept s) := by
  have off : AlarmsKept s (s.modStream i fun x => { x with state := .off, cause := none }) := .of_eq rfl
  unfold release
  split
  · exact .take (off.clearAlarm _)
  · exact .refuse

theorem flame_alarms (b : List Byte) (s : State) : (flame b s).LeadsTo (AlarmsKept s) := by
  refine onStream_leadsTo (fun i => ?_) b
  unfold flameProven flameLost
  split
  · split
    · exact .take (.of_eq rfl)
    · split <;> exact .refuse
  · split
    · exact .take (trip_alarms i .flameLost s)
    · exact .take (.refl s)
  · exact .refuse

theorem putMeas_alarms (b : List Byte) (s : State) : (putMeas b s).LeadsTo (AlarmsKept s) := by
  unfold putMeas
  split; · exact .refuse
  refine .take (AlarmsKept.trans ?_ (handFresh_alarms _ _))
  split
  · exact AlarmsKept.clearAlarm (.of_eq rfl) _
  · exact .of_eq rfl

theorem setMeasConfig_alarms (b : List Byte) (s : State) : (setMeasConfig b s).LeadsTo (AlarmsKept s) := by
  unfold setMeasConfig
  split; · exact .refuse
  split; · exact .refuse
  split; · exact .refuse
  refine .take ?_
  split
  · exact (handFresh_alarms _ _).after rfl
  · exact .of_eq rfl

theorem setCutback_alarms (b : List Byte) (s : State) : (setCutback b s).LeadsTo (AlarmsKept s) := by
  unfold setCutback
  split; swap; · exact .refuse
  split
  · exact .refuse
  · exact .take (rewriteSet_alarms _ _ s)

theorem coolerMode_alarms (b : List Byte) (s : State) : (coolerMode b s).LeadsTo (AlarmsKept s) := by
  have manual : AlarmsKept s (s.modCooler (Cooler.toManual b)) := .of_eq rfl
  unfold coolerMode takeManual takeAuto
  split
  · exact .take ((manual.trans (refreshHoldback_alarms _)).before rfl)
  · refine .take ?_
    split <;> exact .of_eq rfl
  · exact .refuse

theorem setContact_alarms (b : List Byte) (k : Fin 24) (s : State) : (setContact b k s).LeadsTo (AlarmsKept s) := by
  unfold setContact
  split; · exact .refuse
  split; · exact .refuse
  exact .take (replaceContact_alarms k _ s)

theorem forceContact_alarms (k : Fin 24) (s : State) : (forceContact k s).LeadsTo (AlarmsKept s) := by
  unfold forceContact
  split; · exact .refuse
  split; · exact .take (.refl s)
  exact .take (force_alarms k s)

theorem unforce_alarms (k : Fin 24) (s : State) : (unforce k s).LeadsTo (AlarmsKept s) := by
  unfold unforce
  split
  · exact .take (liftForce_alarms k s)
  · exact .refuse

/-- A reset leaves a sound Alarm Unit, whatever it found (R15, R16). -/
theorem resetAll_alarms (cause : ResetCause) (p q d : Option Nat) (s : State) :
    AlarmsKept s (resetAll cause p q d s) :=
  fun _ => AlarmUnit.reset_sound

theorem fullReset_alarms (p d : Option Nat) (s : State) : (fullReset p d s).LeadsTo (AlarmsKept s) := by
  unfold fullReset
  split
  · exact .take (resetAll_alarms _ _ _ _ s)
  · exact .refuse

/-! ### Events -/

theorem execUnknownCmd_alarms {code : Byte} {r : Request} {s t : State} (h : execUnknownCmd code r s = .next t) :
    AlarmsKept s t := by
  unfold execUnknownCmd at h
  split at h; · cases h
  split at h <;> cases h
  · exact .of_eq rfl
  · exact (openRequest_alarms r s).before rfl

theorem execNoFlowReport_alarms {i : Fin 8} {s t : State} (h : execNoFlowReport i s = .next t) : AlarmsKept s t := by
  unfold execNoFlowReport at h
  split at h <;> cases h
  · exact (trip_alarms i .noFlow _).after rfl
  · exact .of_eq rfl

theorem execLightingTimerExpiry_alarms {i : Fin 8} {s t : State} (h : execLightingTimerExpiry i s = .next t) :
    AlarmsKept s t := by
  unfold execLightingTimerExpiry at h
  split at h <;> cases h
  · exact trip_alarms i .lightFail s
  · exact .refl s

theorem execSafeLinkTimerExpiry_alarms {s t : State} (h : execSafeLinkTimerExpiry s = .next t) : AlarmsKept s t := by
  unfold execSafeLinkTimerExpiry at h
  split at h
  · have withdrawn : AlarmsKept s (withdrawAll .linkLoss { s with safeTimer := none }) :=
      (withdrawAll_alarms .linkLoss _).after rfl
    exact Host.Outcome.next.inj h ▸ (withdrawn.raiseAlarm safeLinkRaise).before rfl
  · exact Host.Outcome.next.inj h ▸ .refl s

theorem execStaleTimerExpiry_alarms {n : Fin 8} {s t : State} (h : execStaleTimerExpiry n s = .next t) :
    AlarmsKept s t := by
  unfold execStaleTimerExpiry at h
  split at h <;> cases h
  · refine AlarmsKept.trans ?_ (handStale_alarms n _)
    exact AlarmsKept.raiseAlarm (.of_eq rfl) (staleRaise n)
  · exact .refl s

theorem execDelayTimerExpiry_alarms {k : Fin 4} {s t : State} (h : execDelayTimerExpiry k s = .next t) :
    AlarmsKept s t := by
  unfold execDelayTimerExpiry at h
  split at h <;> cases h
  · exact activate_alarms k s
  · exact .refl s

theorem execCoolerPeriod_alarms {s t : State} (h : execCoolerPeriod s = .next t) : AlarmsKept s t := by
  unfold execCoolerPeriod at h
  split at h
  · cases h; exact .of_eq rfl
  · split at h <;> cases h
    · exact .of_eq rfl
    · exact (refreshHoldback_alarms _).after rfl

theorem strokeSupervision_alarms (n : Fin 4) (s : State) : AlarmsKept s (strokeSupervision n s) := by
  have stroked : AlarmsKept s (s.modCooler (Cooler.modSection n Section.stroke)) := .of_eq rfl
  unfold strokeSupervision
  split
  · refine AlarmsKept.trans ?_ (refreshHoldback_alarms _)
    exact (stroked.clearAlarm (.sectionStalled n)).before rfl
  · exact stroked

theorem bookStroke_alarms (n : Fin 4) (s : State) : AlarmsKept s (bookStroke n s) := by
  unfold bookStroke
  split <;> exact .of_eq rfl

theorem execStallTimerExpiry_alarms {n : Fin 4} {s t : State} (h : execStallTimerExpiry n s = .next t) :
    AlarmsKept s t := by
  unfold execStallTimerExpiry at h
  split at h <;> cases h
  · refine AlarmsKept.trans ?_ (refreshHoldback_alarms _)
    exact AlarmsKept.before (AlarmsKept.raiseAlarm (.of_eq rfl) (stallRaise n)) rfl
  · exact .refl s

theorem execShelfExpiry_alarms {c : AlarmCode} {s t : State} (h : execShelfExpiry c s = .next t) :
    AlarmsKept s t := by
  unfold execShelfExpiry at h
  split at h
  case h_1 e found =>
    split at h <;> cases h
    · exact endShelf_alarms found
    · exact .refl s
  case h_2 => cases h; exact .refl s

theorem execHornBIntervalExpiry_alarms {s t : State} (h : execHornBIntervalExpiry s = .next t) : AlarmsKept s t := by
  unfold execHornBIntervalExpiry at h
  split at h <;> cases h
  case isTrue.refl running => exact fun sound => sound.turned running
  case isFalse.refl => exact .refl s

/-! ### Every command and every step -/

/-- Every command keeps a sound Alarm Unit sound. -/
theorem exec_alarms {c : Instr} {s t : State} (h : exec c s = .next t) : AlarmsKept s t := by
  cases c with
  | powerOnReset p q d => exact Host.Outcome.next.inj h ▸ resetAll_alarms _ p q d s
  | fullReset r p d => exact takeRequest_alarms h (fullReset_alarms p d)
  | nop | status | poll | readFirstout | attnMask | attnClear | linkReset | setCheck =>
    exact takeRequest_alarms h fun s => .take (.of_eq rfl)
  | readStream | readCal => exact takeRequest_onStream_alarms h fun _ s => .take (.of_eq rfl)
  | readContacts => exact takeRequest_onContact_alarms h fun _ s => .take (.of_eq rfl)
  | readSite | readShift | readMeas | readCooler | listRead | setPeriod | setLinkTimeout | setClock | setShifts
  | closeShift | setDemand | setCooler =>
    refine takeRequest_alarms h fun s => ?_
    dsimp only [readSite, readShift, readMeas, readCooler, listRead, setPeriod, setLinkTimeout, setClock, setShifts,
      closeShift, setDemand, setCooler, takeCooler, Reply.done]
    repeat' split
    all_goals constructor
    all_goals exact .of_eq rfl
  | setLimits | setPlan | setPoll | grant | light | hold | resume | stop | calStart | calStop | calAccept
  | calDiscard =>
    refine takeRequest_onStream_alarms h fun i s => ?_
    dsimp only [setLimits, setPlan, setPoll, grant, light, hold, resume, stop, calStart, calStop, calAccept,
      calDiscard, fired, Reply.done]
    repeat' split
    all_goals constructor
    all_goals exact .of_eq rfl
  | release => exact takeRequest_onStream_alarms h release_alarms
  | revoke => exact takeRequest_onStream_alarms h fun i s => .take (withdraw_alarms .revoke i s)
  | flameProven | flameLost => exact takeRequest_alarms h (flame_alarms _)
  | masterTrip => exact takeRequest_alarms h fun s => .take (withdrawAll_alarms .master s)
  | putMeas => exact takeRequest_alarms h (putMeas_alarms _)
  | setMeasConfig => exact takeRequest_alarms h (setMeasConfig_alarms _)
  | setCutback => exact takeRequest_alarms h (setCutback_alarms _)
  | coolerModeManual | coolerModeAuto => exact takeRequest_alarms h (coolerMode_alarms _)
  | setContact => exact takeRequest_onContact_alarms h (setContact_alarms _)
  | forceContact => exact takeRequest_onContact_alarms h forceContact_alarms
  | unforce => exact takeRequest_onContact_alarms h unforce_alarms
  | ack => exact takeRequest_onCode_alarms h ack_alarms
  | ackAll => exact takeRequest_alarms h ackAll_alarms
  | shelve => exact takeRequest_onCode_alarms h (shelve_alarms _)
  | unshelve => exact takeRequest_onCode_alarms h unshelve_alarms
  | silence => exact takeRequest_alarms h fun s => .take fun sound => sound.silenced
  | firstoutClear => exact takeRequest_alarms h fun s => .take fun sound => sound.withFirstOut _
  | firstoutMode => exact takeRequest_alarms h (firstoutMode_alarms _)
  | massPulse => cases h; exact .of_eq rfl
  | strokePulse n =>
    exact Host.Outcome.next.inj h ▸ (bookStroke_alarms n s).trans (strokeSupervision_alarms n _)
  | dosingPeriodExpiry => exact Host.Outcome.next.inj h ▸ dosingPeriod_alarms s
  | contactScan levels => exact Host.Outcome.next.inj h ▸ (scanContacts_alarms levels _).after rfl
  | unknownCmd => exact execUnknownCmd_alarms h
  | noFlowReport => exact execNoFlowReport_alarms h
  | lightingTimerExpiry => exact execLightingTimerExpiry_alarms h
  | safeLinkTimerExpiry => exact execSafeLinkTimerExpiry_alarms h
  | staleTimerExpiry => exact execStaleTimerExpiry_alarms h
  | delayTimerExpiry => exact execDelayTimerExpiry_alarms h
  | coolerPeriod => exact execCoolerPeriod_alarms h
  | stallTimerExpiry => exact execStallTimerExpiry_alarms h
  | shelfExpiry => exact execShelfExpiry_alarms h
  | hornBIntervalExpiry => exact execHornBIntervalExpiry_alarms h
  | frameErr | abandonedTransfer | calWindowTimeout | clockAdvance =>
    dsimp only [exec, execFrameErr, execAbandonedTransfer, execCalWindowTimeout, execClockAdvance] at h
    repeat' split at h
    all_goals cases h
    all_goals exact .of_eq rfl

theorem idle_alarms (s : State) : AlarmsKept s (idle s) := by
  unfold idle
  split
  · exact fun sound => sound.tick
  · exact .of_eq rfl

/-- A step keeps the Alarm Unit sound, as the device clock or as the command at the front of the queue. -/
theorem step_alarms {s t : State} (h : step s = .next t) : AlarmsKept s t := by
  unfold step at h
  split at h
  · exact Host.Outcome.next.inj h ▸ idle_alarms s
  · exact (exec_alarms h).after rfl

/-- Settles O56, by what a step does to the Alarm Unit. -/
theorem stepKeepsAlarmsSound : Obligations.StepKeepsAlarmsSound := fun _ _ sound h => step_alarms h sound

end Sys2Proof.Machine
end

section
/-! PROOFS. A raise at the Alarm Unit: its four fates, the entry that an eviction prefers, and the first-out record
(R141, R143 to R145, R154, R159). -/

namespace Sys2Proof.Machine

/-! ### Links, lists and horns in the words of the claims -/

/-- A link with NEWS set where a condition holds, and no other factor touched (R10). -/
theorem LinkUnit.setFactors_newsIf (u : LinkUnit) (b : Bool) :
    u.setFactors (newsIf b) = { u with factors := { u.factors with news := u.factors.news || b } } := by
  simp [LinkUnit.setFactors, newsIf]

theorem AlarmUnit.removed_eq (a : AlarmUnit) (c : AlarmCode) :
    a.removed c = a.list.filter fun x => x.code ≠ c :=
  List.filter_congr fun x _ => by by_cases same : x.code = c <;> simp [same]

/-- The first-out record makes no difference to the horns. -/
theorem HornsFollow.withFirstOut {a b : AlarmUnit} (h : HornsFollow a b) (f : FirstOut) :
    HornsFollow a { b with firstOut := f } :=
  ⟨h.hornA, h.silent, h.starts, h.goesOn⟩

theorem AlarmUnit.raise_follow (a : AlarmUnit) (r : Raise) (now : ClockTime) : HornsFollow a (a.raise r now) :=
  a.settleHorns_follow _ rfl rfl

/-! ### The fates of a raise -/

theorem AlarmUnit.fate_again {a : AlarmUnit} {r : Raise} {e : Entry} (found : a.find r.code = some e) :
    a.fate r = .again e := by
  simp only [AlarmUnit.fate, found]

theorem AlarmUnit.fate_appended {a : AlarmUnit} {r : Raise} (absent : a.find r.code = none)
    (room : a.list.length < 64) : a.fate r = .appended := by
  simp only [AlarmUnit.fate, absent, if_pos room]

theorem AlarmUnit.fate_evicting {a : AlarmUnit} {r : Raise} {v : Entry} (absent : a.find r.code = none)
    (full : 64 ≤ a.list.length) (evicted : victim r.priority a.list = some v) : a.fate r = .evicting v := by
  simp only [AlarmUnit.fate, absent, if_neg (Nat.not_lt.mpr full), evicted]

theorem AlarmUnit.fate_dropped {a : AlarmUnit} {r : Raise} (absent : a.find r.code = none)
    (full : 64 ≤ a.list.length) (none : victim r.priority a.list = none) : a.fate r = .dropped := by
  simp only [AlarmUnit.fate, absent, if_neg (Nat.not_lt.mpr full), none]

theorem Raise.keepsShelf_iff (r : Raise) (e : Entry) :
    r.keepsShelf e = true ↔ e.state = .shelved ∧ r.priority ≠ .p1 := by
  simp [Raise.keepsShelf]

/-- Raised again off the shelf: the raise's entry, but for the count (R141). -/
theorem Raise.again_unshelved {r : Raise} {e : Entry} (now : ClockTime) (off : e.state ≠ .shelved ∨ r.priority = .p1) :
    r.keepsShelf e = false ∧
      r.again now e = { r.entry now with code := e.code, count := min 255 (e.count + 1) } := by
  have keeps : r.keepsShelf e = false := by
    rw [← Bool.not_eq_true, r.keepsShelf_iff]
    tauto
  exact ⟨keeps, by simp [Raise.again, keeps, Raise.entry, satAdd]⟩

/-- Raised again on the shelf, which goes on (R141). -/
theorem Raise.again_shelved {r : Raise} {e : Entry} (now : ClockTime) (shelved : e.state = .shelved)
    (low : r.priority ≠ .p1) :
    r.keepsShelf e = true ∧
      r.again now e =
        { r.entry now with code := e.code, count := min 255 (e.count + 1), state := .shelved, shelf := e.shelf } := by
  have keeps : r.keepsShelf e = true := (r.keepsShelf_iff e).mpr ⟨shelved, low⟩
  exact ⟨keeps, by simp [Raise.again, keeps, Raise.entry, satAdd]⟩

/-! ### The entry that an eviction prefers -/

/-- Of one priority, the entry nearest the head among those not in ACTIVE_UNACK, or the entry nearest the head where all
are in it (R144). -/
theorem victimAt_preferred {p : Priority} {l : List Entry} {v : Entry} (h : victimAt p l = some v) :
    ∃ older later, l = older ++ v :: later ∧
      (v.state = .activeUnack → ∀ e ∈ l, e.priority = v.priority → e.state = .activeUnack) ∧
      ∀ e ∈ older, e.priority = v.priority → e.state = .activeUnack ∧ v.state ≠ .activeUnack := by
  obtain ⟨-, rfl⟩ := victimAt_mem h
  obtain nearest | ⟨noneElse, nearest⟩ := Option.or_eq_some_iff.mp h
  · obtain ⟨preferred, older, later, parts, before⟩ := List.find?_eq_some_iff_append.mp nearest
    have acked : v.state ≠ .activeUnack := by simpa using preferred
    refine ⟨older, later, parts, fun unacked => absurd unacked acked, fun e mem same => ⟨?_, acked⟩⟩
    simpa [same] using before e mem
  · obtain ⟨-, older, later, parts, before⟩ := List.find?_eq_some_iff_append.mp nearest
    refine ⟨older, later, parts, fun _ e mem same => ?_, fun e mem same => ?_⟩
    · simpa [same] using List.find?_eq_none.mp noneElse e mem
    · simpa [same] using before e mem

/-- The evicted entry is preferred at its priority, which is the lowest present (R144). -/
theorem victim_lowest {p : Priority} {l : List Entry} {v : Entry} (h : victim p l = some v) :
    victimAt v.priority l = some v ∧ ∀ e ∈ l, e.priority.num ≤ v.priority.num := by
  have lowest {q : Priority} (found : victimAt q l = some v) (lower : ∀ q', q.num < q'.num → victimAt q' l = none) :
      victimAt v.priority l = some v ∧ ∀ e ∈ l, e.priority.num ≤ v.priority.num := by
    obtain ⟨-, rfl⟩ := victimAt_mem found
    exact ⟨found, fun e mem => Nat.le_of_not_lt fun below => victimAt_priority mem (lower _ below)⟩
  have at3 (found : victimAt .p3 l = some v) := lowest found fun q below => by cases q <;> contradiction
  have at2 (none3 : victimAt .p3 l = none) (found : victimAt .p2 l = some v) :=
    lowest found fun q below => by cases q <;> simp_all [Priority.num]
  cases p with
  | p1 =>
    obtain found | ⟨none, found⟩ := Option.or_eq_some_iff.mp h
    · obtain found | ⟨none3, found⟩ := Option.or_eq_some_iff.mp found
      · exact at3 found
      · exact at2 none3 found
    · obtain ⟨none3, none2⟩ := Option.or_eq_none_iff.mp none
      exact lowest found fun q below => by cases q <;> simp_all [Priority.num]
  | p2 =>
    obtain found | ⟨none3, found⟩ := Option.or_eq_some_iff.mp h
    · exact at3 found
    · exact at2 none3 found
  | p3 => exact at3 h

/-- An entry at the raise's priority or a lower one gives the raise an entry to evict (R144). -/
theorem victim_of_mem {p : Priority} {l : List Entry} {e : Entry} (mem : e ∈ l) (low : p.num ≤ e.priority.num) :
    victim p l ≠ none := by
  have present := victimAt_priority mem
  cases p with
  | p1 => exact victim_p1 mem
  | p2 =>
    rw [victim, ne_eq, Option.or_eq_none_iff]
    rintro ⟨none3, none2⟩
    cases priority : e.priority <;> rw [priority] at present low
    · contradiction
    · exact present none2
    · exact present none3
  | p3 =>
    cases priority : e.priority <;> rw [priority] at present low
    · contradiction
    · contradiction
    · exact present

/-! ### The first-out record -/

theorem FirstOutMode.takes_iff (m : FirstOutMode) (c : AlarmCode) :
    m.takes c = true ↔ m = .any ∨ ∃ i, c = .streamTrip i := by
  cases m <;> cases c <;> simp [FirstOutMode.takes]

/-- A qualifying raise in EMPTY is captured (R154). -/
theorem FirstOut.offer_captures {f : FirstOut} {r : Raise} (now : ClockTime) (states : List FiringState)
    (empty : f.captured = none) (takes : f.mode.takes r.code = true) :
    f.offer r now states = ⟨f.mode, some ⟨r.code, r.priority, r.detail, now, states⟩⟩ := by
  simp [FirstOut.offer, empty, takes]

/-- In HOLDING, and where the raise does not qualify, the record stays (R154). -/
theorem FirstOut.offer_keeps {f : FirstOut} {r : Raise} (now : ClockTime) (states : List FiringState)
    (h : f.captured ≠ none ∨ f.mode.takes r.code = false) : f.offer r now states = f := by
  obtain held | other := h
  · simp [FirstOut.offer, Option.isNone_iff_eq_none, held]
  · simp [FirstOut.offer, other]

/-! ### The raise whole -/

/-- A raise whose fate enters the list sets NEWS on every link (R143). -/
theorem raiseAlarm_news {r : Raise} {s : State} (entered : (s.au.fate r).entered = true) (l : Link) :
    (raiseAlarm r s).link l = { s.link l with factors := { (s.link l).factors with news := true } } := by
  rw [raiseAlarm_link, entered, LinkUnit.setFactors_newsIf, Bool.or_true]

/-- The Alarm Unit and NEWS where the raise finds its code in the list (R141, R143, R153). -/
theorem raiseAlarm_again {r : Raise} {s : State} {e : Entry} (found : s.au.find r.code = some e) :
    (raiseAlarm r s).au.overflow = s.au.overflow ∧
      (raiseAlarm r s).au.silence = (s.au.silence && r.keepsShelf e) ∧
      (raiseAlarm r s).au.list = (s.au.list.filter fun x => x.code ≠ r.code) ++ [r.again s.su.clock e] ∧
      ∀ l, (raiseAlarm r s).link l = { s.link l with factors := { (s.link l).factors with news := true } } := by
  have fate := AlarmUnit.fate_again found
  refine ⟨?_, ?_, ?_, raiseAlarm_news (by rw [fate]; rfl)⟩
  · rw [raiseAlarm_au, AlarmUnit.raise_overflow, fate, RaiseFate.overflows, Bool.or_false]
  · rw [raiseAlarm_au, AlarmUnit.raise_silence, fate, RaiseFate.unsilences, Bool.not_not]
  · rw [raiseAlarm_au, AlarmUnit.raise_list, AlarmUnit.listAfter, fate, ← AlarmUnit.removed_eq]

/-- The Alarm Unit and NEWS where the raise is appended to a list with room (R141, R143, R153). -/
theorem raiseAlarm_appended {r : Raise} {s : State} (absent : s.au.find r.code = none)
    (room : s.au.list.length < 64) :
    (raiseAlarm r s).au.overflow = s.au.overflow ∧ (raiseAlarm r s).au.silence = false ∧
      (raiseAlarm r s).au.list = s.au.list ++ [r.entry s.su.clock] ∧
      ∀ l, (raiseAlarm r s).link l = { s.link l with factors := { (s.link l).factors with news := true } } := by
  have fate := AlarmUnit.fate_appended absent room
  refine ⟨?_, ?_, ?_, raiseAlarm_news (by rw [fate]; rfl)⟩
  · rw [raiseAlarm_au, AlarmUnit.raise_overflow, fate, RaiseFate.overflows, Bool.or_false]
  · rw [raiseAlarm_au, AlarmUnit.raise_silence, fate, RaiseFate.unsilences, Bool.not_true, Bool.and_false]
  · rw [raiseAlarm_au, AlarmUnit.raise_list, AlarmUnit.listAfter, fate]

/-- A raise of an absent code that meets a full list sets the overflow flag, whether it enters or not (R144, R145). -/
theorem raiseAlarm_overflows {r : Raise} {s : State} (absent : s.au.find r.code = none)
    (full : 64 ≤ s.au.list.length) : (raiseAlarm r s).au.overflow = true := by
  rw [raiseAlarm_au, AlarmUnit.raise_overflow, Bool.or_eq_true]
  cases evicted : victim r.priority s.au.list with
  | none => rw [AlarmUnit.fate_dropped absent full evicted]; exact .inr rfl
  | some v => rw [AlarmUnit.fate_evicting absent full evicted]; exact .inr rfl

/-- A raise below every entry of a full list is dropped (R144). -/
theorem raiseAlarm_dropped {r : Raise} {s : State} (absent : s.au.find r.code = none) (full : 64 ≤ s.au.list.length)
    (above : ∀ e ∈ s.au.list, e.priority.num < r.priority.num) :
    (raiseAlarm r s).au.list = s.au.list ∧ (raiseAlarm r s).au.silence = s.au.silence ∧
      ∀ l, (raiseAlarm r s).link l = s.link l := by
  have fate : s.au.fate r = .dropped := by
    refine AlarmUnit.fate_dropped absent full (Option.eq_none_iff_forall_ne_some.mpr fun v evicted => ?_)
    obtain ⟨mem, low⟩ := victim_mem evicted
    exact absurd (above v mem) (Nat.not_lt.mpr low)
  refine ⟨?_, ?_, fun l => ?_⟩
  · rw [raiseAlarm_au, AlarmUnit.raise_list, AlarmUnit.listAfter, fate]
  · rw [raiseAlarm_au, AlarmUnit.raise_silence, fate, RaiseFate.unsilences, Bool.not_false, Bool.and_true]
  · rw [raiseAlarm_link, fate, RaiseFate.entered, LinkUnit.setFactors_none]

/-- The Alarm Unit and NEWS where the raise evicts an entry (R143, R144, R153). -/
theorem raiseAlarm_evicting {r : Raise} {s : State} {v : Entry} (absent : s.au.find r.code = none)
    (full : 64 ≤ s.au.list.length) (evicted : victim r.priority s.au.list = some v) :
    (raiseAlarm r s).au.silence = false ∧
      (raiseAlarm r s).au.list = (s.au.list.filter fun x => x.code ≠ v.code) ++ [r.entry s.su.clock] ∧
      ∀ l, (raiseAlarm r s).link l = { s.link l with factors := { (s.link l).factors with news := true } } := by
  have fate := AlarmUnit.fate_evicting absent full evicted
  refine ⟨?_, ?_, raiseAlarm_news (by rw [fate]; rfl)⟩
  · rw [raiseAlarm_au, AlarmUnit.raise_silence, fate, RaiseFate.unsilences, Bool.not_true, Bool.and_false]
  · rw [raiseAlarm_au, AlarmUnit.raise_list, AlarmUnit.listAfter, fate, ← AlarmUnit.removed_eq]

/-- Settles O48: the raise whole, then its four fates. -/
theorem raiseActsByEntry : Obligations.RaiseActsByEntry := by
  rintro r s _ _ rfl rfl
  refine ⟨raiseAlarm_sameBlocks r s, rfl, (s.au.raise_follow r s.su.clock).withFirstOut _, rfl, rfl,
    fun empty takes => ?captured, fun kept => ?kept, fun e found => ?again,
    fun absent room => raiseAlarm_appended absent room,
    fun absent full => ⟨raiseAlarm_overflows absent full, raiseAlarm_dropped absent full,
      fun ⟨e, mem, low⟩ => ?evicting⟩⟩
  case captured => exact FirstOut.offer_captures _ _ empty ((FirstOutMode.takes_iff _ _).mpr takes)
  case kept =>
    refine FirstOut.offer_keeps (f := s.au.firstOut) _ _ (kept.imp_right fun ⟨mode, other⟩ => ?_)
    rw [← Bool.not_eq_true, FirstOutMode.takes_iff, mode]
    simpa using other
  case again =>
    obtain ⟨overflow, silence, list, news⟩ := raiseAlarm_again found
    refine ⟨overflow, news, fun off => ?_, fun shelved low => ?_⟩
    · obtain ⟨keeps, again⟩ := Raise.again_unshelved s.su.clock off
      exact ⟨by rw [silence, keeps, Bool.and_false], by rw [list, again]; rfl⟩
    · obtain ⟨keeps, again⟩ := Raise.again_shelved s.su.clock shelved low
      exact ⟨by rw [silence, keeps, Bool.and_true], by rw [list, again]; rfl⟩
  case evicting =>
    obtain ⟨v, evicted⟩ := Option.ne_none_iff_exists'.mp (victim_of_mem mem low)
    obtain ⟨silence, list, news⟩ := raiseAlarm_evicting absent full evicted
    obtain ⟨preferred, lowest⟩ := victim_lowest evicted
    obtain ⟨older, later, parts, unacked, before⟩ := victimAt_preferred preferred
    exact ⟨silence, news, older, v, later, parts, list, (victim_mem evicted).2, lowest, unacked, before⟩

end Sys2Proof.Machine
end

section
/-! PROOFS. Clears, ACK and ACK_ALL, by the state of the entry that holds the code (R142, R143, R145 to R147, R151,
R152), and the rules that the other commands naming an alarm share with them. -/

namespace Sys2Proof.Machine

/-! ### Clears -/

theorem AlarmUnit.clear_absent {a : AlarmUnit} {c : AlarmCode} (absent : a.find c = none) :
    a.clear c = a ∧ a.clearChanges c = false := by
  simp [AlarmUnit.clear, AlarmUnit.clearChanges, absent]

theorem AlarmUnit.clear_activeUnack {a : AlarmUnit} {c : AlarmCode} {e : Entry} (found : a.find c = some e)
    (state : e.state = .activeUnack) :
    a.clear c = a.withList (a.replaced c fun e => { e with state := .clearedUnack, active := false }) ∧
      a.clearChanges c = true := by
  simp [AlarmUnit.clear, AlarmUnit.clearChanges, found, state]

theorem AlarmUnit.clear_activeAck {a : AlarmUnit} {c : AlarmCode} {e : Entry} (found : a.find c = some e)
    (state : e.state = .activeAck) : a.clear c = a.afterRemoval (a.removed c) ∧ a.clearChanges c = true := by
  simp [AlarmUnit.clear, AlarmUnit.clearChanges, found, state]

theorem AlarmUnit.clear_shelved {a : AlarmUnit} {c : AlarmCode} {e : Entry} (found : a.find c = some e)
    (state : e.state = .shelved) (active : e.active = true) :
    a.clear c = a.withList (a.replaced c fun e => { e with active := false }) ∧ a.clearChanges c = true := by
  simp [AlarmUnit.clear, AlarmUnit.clearChanges, found, state, active]

/-- A CLEARED_UNACK entry, and a shelved one whose condition is clear, leave a clear without effect (R142). -/
theorem AlarmUnit.clear_unchanged {a : AlarmUnit} {c : AlarmCode} {e : Entry} (found : a.find c = some e)
    (state : e.state = .clearedUnack ∨ e.state = .shelved ∧ e.active = false) :
    a.clear c = a ∧ a.clearChanges c = false := by
  obtain state | ⟨state, active⟩ := state
  · simp [AlarmUnit.clear, AlarmUnit.clearChanges, found, state]
  · simp [AlarmUnit.clear, AlarmUnit.clearChanges, found, state, active]

theorem clearAlarm_of_unchanged {c : AlarmCode} {s : State} (same : s.au.clear c = s.au ∧ s.au.clearChanges c = false) :
    clearAlarm c s = s := by
  simp [clearAlarm, same.1, same.2]

/-- A clear that changes the list sets NEWS on every link (R143). -/
theorem clearAlarm_news {c : AlarmCode} {s : State} (changes : s.au.clearChanges c = true) (l : Link) :
    (clearAlarm c s).link l = { s.link l with factors := { (s.link l).factors with news := true } } := by
  rw [clearAlarm_link, changes, LinkUnit.setFactors_newsIf, Bool.or_true]

/-- Everything a clear can do to the Alarm Unit: its list changed, entries removed, or nothing. -/
theorem AlarmUnit.clear_cases (a : AlarmUnit) (c : AlarmCode) :
    (∃ l, a.clear c = a.withList l) ∨ (∃ l, a.clear c = a.afterRemoval l) ∨
      (a.clear c = a ∧ a.clearChanges c = false) := by
  cases found : a.find c with
  | none => exact .inr (.inr (AlarmUnit.clear_absent found))
  | some e =>
    cases state : e.state with
    | activeUnack => exact .inl ⟨_, (AlarmUnit.clear_activeUnack found state).1⟩
    | activeAck => exact .inr (.inl ⟨_, (AlarmUnit.clear_activeAck found state).1⟩)
    | clearedUnack => exact .inr (.inr (AlarmUnit.clear_unchanged found (.inl state)))
    | shelved =>
      cases active : e.active with
      | true => exact .inl ⟨_, (AlarmUnit.clear_shelved found state active).1⟩
      | false => exact .inr (.inr (AlarmUnit.clear_unchanged found (.inr ⟨state, active⟩)))

theorem AlarmUnit.withList_follow (a : AlarmUnit) (l : List Entry) : HornsFollow a (a.withList l) :=
  a.settleHorns_follow _ rfl rfl

theorem AlarmUnit.afterRemoval_follow (a : AlarmUnit) (l : List Entry) : HornsFollow a (a.afterRemoval l) :=
  a.settleHorns_follow _ rfl rfl

theorem clearAlarm_follow {c : AlarmCode} {s : State} (changed : clearAlarm c s ≠ s) :
    HornsFollow s.au (clearAlarm c s).au := by
  rw [clearAlarm_au]
  obtain ⟨l, list⟩ | ⟨l, list⟩ | same := s.au.clear_cases c
  · rw [list]; exact s.au.withList_follow l
  · rw [list]; exact s.au.afterRemoval_follow l
  · exact absurd (clearAlarm_of_unchanged same) changed

/-! ### Requests that name an alarm -/

theorem onCode_of {b : List Byte} {c : AlarmCode} (code : alarmCodeOf (u8 b 0) (u8 b 1) = some c)
    (act : AlarmCode → State → Reply) (s : State) : onCode b act s = act c s := by
  simp only [onCode, code]

theorem onCode_badIndex {b : List Byte} (none : alarmCodeOf (u8 b 0) (u8 b 1) = none)
    (act : AlarmCode → State → Reply) (s : State) : onCode b act s = .refuse .badIndex := by
  simp only [onCode, none]

theorem onEntry_of {c : AlarmCode} {s : State} {e : Entry} (found : s.au.find c = some e) (act : Entry → Reply) :
    onEntry c s act = act e := by
  simp only [onEntry, found]

theorem onEntry_noEntry {c : AlarmCode} {s : State} (absent : s.au.find c = none) (act : Entry → Reply) :
    onEntry c s act = .refuse .noEntry := by
  simp only [onEntry, absent]

/-- A request on PROC or DESK is no SAFE link activity. -/
theorem Sent.notSafe {links : List Link} {n : Nat} {r : Request} {s : State} (h : Sent links n r s)
    (others : .safe ∉ links) : r.link ≠ .safe :=
  fun safe => others (safe ▸ h.link)

/-- Opening a request on PROC or DESK touches no factor (R5). -/
theorem openRequest_factors {r : Request} (s : State) (h : r.link ≠ .safe) (l : Link) :
    ((openRequest r s).link l).factors = (s.link l).factors := by
  rw [openRequest_other s h, shiftOut_link]
  split
  case isTrue same => rw [same]
  case isFalse => rfl

theorem openRequest_sameBlocks {r : Request} (s : State) (h : r.link ≠ .safe) : SameBlocks s (openRequest r s) := by
  rw [openRequest_other s h]
  rfl

theorem State.withAlarms_sameBlocks (a : AlarmUnit) (changed : Bool) (s : State) :
    SameBlocks s (s.withAlarms a changed) := rfl

/-- The links after an alarm command of PROC or DESK: NEWS set where the list changed (R143). -/
theorem openRequest_withAlarms_link {r : Request} (s : State) (h : r.link ≠ .safe) (a : AlarmUnit) (changed : Bool)
    (l : Link) :
    ((openRequest r s).withAlarms a changed).link l =
      { (openRequest r s).link l with
        factors := { (s.link l).factors with news := (s.link l).factors.news || changed } } := by
  rw [State.withAlarms_link, LinkUnit.setFactors_newsIf, openRequest_factors s h]

/-! ### Acknowledgement -/

theorem execAck_sent {r : Request} {s : State} (h : Sent [.proc, .desk] 2 r s) :
    exec (.ack r) s =
      .next (settleReply r.link 0x50#8 (openRequest r s) (onCode r.body ack (openRequest r s))) :=
  takeRequest_of_sent (row := Cmd.ack) h (by decide) (by decide)

theorem ack_acknowledged {c : AlarmCode} {s : State} {e : Entry} (found : s.au.find c = some e)
    (state : e.state = .activeAck ∨ e.state = .shelved) :
    ack c s = .done s (codeBytes c ++ be8 (entryStateByte e.state)) := by
  obtain state | state := state <;> simp [ack, onEntry_of found, state, entryOptByte]

theorem ack_activeUnack {c : AlarmCode} {s : State} {e : Entry} (found : s.au.find c = some e)
    (state : e.state = .activeUnack) :
    ack c s =
      .done (s.withAlarms (s.au.withList (s.au.replaced c fun e => { e with state := .activeAck })) true)
        (codeBytes c ++ [0x01#8]) := by
  simp only [ack, onEntry_of found, state]
  rfl

theorem ack_clearedUnack {c : AlarmCode} {s : State} {e : Entry} (found : s.au.find c = some e)
    (state : e.state = .clearedUnack) :
    ack c s =
      .done (s.withAlarms (s.au.afterRemoval (s.au.removed c)) true) (codeBytes c ++ [0xFF#8]) := by
  simp only [ack, onEntry_of found, state]
  rfl

theorem execAckAll_sent {r : Request} {s : State} (h : Sent [.desk] 0 r s) :
    exec (.ackAll r) s = .next (settleReply .desk 0x60#8 (openRequest r s) (ackAll (openRequest r s))) := by
  have taken : exec (.ackAll r) s = _ := takeRequest_of_sent (row := Cmd.ackAll) h (by decide) (by decide)
  rw [taken, List.mem_singleton.mp h.link]
  rfl

theorem AlarmUnit.allAcked_eq (a : AlarmUnit) :
    a.allAcked =
      (a.list.filter fun x => x.state ≠ .clearedUnack).map fun x =>
        if x.state = .activeUnack then { x with state := .activeAck } else x := by
  refine congrArg (List.map Entry.acked) (List.filter_congr fun x _ => ?_)
  by_cases same : x.state = .clearedUnack <;> simp [same]

/-- The Alarm Unit after ACK_ALL (R147). -/
def AlarmUnit.afterAckAll (a : AlarmUnit) : AlarmUnit :=
  if a.countIn .clearedUnack = 0 then a.withList a.allAcked else a.afterRemoval a.allAcked

theorem ackAll_eq (s : State) :
    ackAll s =
      .done (s.withAlarms s.au.afterAckAll (0 < s.au.countIn .activeUnack + s.au.countIn .clearedUnack))
        (be8 (s.au.countIn .activeUnack) ++ be8 (s.au.countIn .clearedUnack)) := rfl

/-- The overflow test of ACK_ALL is made where it removes an entry, on the list it leaves (R145, R147). -/
theorem AlarmUnit.afterAckAll_eq (a : AlarmUnit) :
    a.afterAckAll =
      { a with
        list := a.allAcked
        overflow := a.overflow && (a.countIn .clearedUnack = 0 || 48 < a.allAcked.length) }.settleHorns := by
  unfold AlarmUnit.afterAckAll
  split
  case isTrue none => simp [none, AlarmUnit.withList]
  case isFalse removes => simp [removes, AlarmUnit.afterRemoval]

/-- Settles O49: a clear by the state of its entry, then ACK likewise, then ACK_ALL by whether it removes. -/
theorem clearsAndAcknowledgements : Obligations.ClearsAndAcknowledgements := by
  refine ⟨?clear, ?ack, ?ackAll⟩
  case clear =>
    rintro c s _ rfl
    refine ⟨clearAlarm_sameBlocks c s, rfl, rfl, rfl, s.au.clear_silence c, s.au.clear_firstOut c, clearAlarm_follow,
      clearAlarm_absent c s, fun e found => ⟨fun state => ?_, fun state => ?_, fun state active => ?_,
        fun state => clearAlarm_of_unchanged (AlarmUnit.clear_unchanged found state)⟩⟩
    · obtain ⟨au, changes⟩ := AlarmUnit.clear_activeUnack found state
      exact ⟨by rw [clearAlarm_au, au]; rfl, by rw [clearAlarm_au, au]; rfl, clearAlarm_news changes⟩
    · obtain ⟨au, changes⟩ := AlarmUnit.clear_activeAck found state
      exact ⟨by rw [clearAlarm_au, au, ← AlarmUnit.removed_eq]; rfl, by rw [clearAlarm_au, au]; rfl,
        clearAlarm_news changes⟩
    · obtain ⟨au, changes⟩ := AlarmUnit.clear_shelved found state active
      exact ⟨by rw [clearAlarm_au, au]; rfl, by rw [clearAlarm_au, au]; rfl, clearAlarm_news changes⟩
  case ack =>
    intro r s h
    have link := h.notSafe (by decide)
    have au := openRequest_au_other s link
    rw [execAck_sent h]
    refine ⟨fun none => by rw [onCode_badIndex none, settleReply_refuse], fun c code => ?_⟩
    rw [onCode_of code, ← au]
    refine ⟨fun absent => by rw [ack, onEntry_noEntry absent, settleReply_refuse], fun e found => ⟨fun state => ?_,
      fun state => ⟨_, by rw [ack_activeUnack found state, settleReply_done], State.withAlarms_sameBlocks _ _ _, ?_⟩,
      fun state => ⟨_, by rw [ack_clearedUnack found state, settleReply_done], State.withAlarms_sameBlocks _ _ _, ?_⟩⟩⟩
    · rw [ack_acknowledged found state, settleReply_done]
    · refine ⟨by simp, by simp, rfl, rfl, rfl, rfl, AlarmUnit.withList_follow _ _, fun l => ?_⟩
      rw [openRequest_withAlarms_link s link, Bool.or_true]
    · refine ⟨by simp, by simp, ?_, rfl, rfl, rfl, AlarmUnit.afterRemoval_follow _ _, fun l => ?_⟩
      · rw [← AlarmUnit.removed_eq]; rfl
      · rw [openRequest_withAlarms_link s link, Bool.or_true]
  case ackAll =>
    rintro r s _ _ h rfl rfl
    have link := h.notSafe (by decide)
    have au := openRequest_au_other s link
    refine ⟨_, by rw [execAckAll_sent h, ackAll_eq, settleReply_done, au]; rfl,
      (openRequest_sameBlocks s link).trans (State.withAlarms_sameBlocks _ _ _), by simp, by simp, ?_⟩
    rw [State.withAlarms_au, AlarmUnit.afterAckAll_eq, ← AlarmUnit.allAcked_eq]
    exact ⟨rfl, rfl, rfl, rfl, s.au.settleHorns_follow _ rfl rfl, openRequest_withAlarms_link s link _ _⟩

end Sys2Proof.Machine
end

section
/-! PROOFS. Shelving, silence, horn B and the first-out commands (R143, R148, R149, R151 to R153, R155). -/

namespace Sys2Proof.Machine

/-! ### Shelving -/

theorem execShelve_sent {r : Request} {s : State} (h : Sent [.desk] 4 r s) :
    exec (.shelve r) s =
      .next (settleReply .desk 0x61#8 (openRequest r s) (onCode r.body (shelve (u16 r.body 2)) (openRequest r s))) := by
  have taken : exec (.shelve r) s = _ := takeRequest_of_sent (row := Cmd.shelve) h (by decide) (by decide)
  rw [taken, List.mem_singleton.mp h.link]
  rfl

theorem shelve_range {minutes : Nat} (c : AlarmCode) (s : State) (outside : minutes < 1 ∨ 480 < minutes) :
    shelve minutes c s = .refuse .range :=
  if_pos outside

section
variable {minutes : Nat} {c : AlarmCode} {s : State} {e : Entry} (low : 1 ≤ minutes) (high : minutes ≤ 480)
include low high

theorem shelve_noEntry (absent : s.au.find c = none) : shelve minutes c s = .refuse .noEntry := by
  rw [shelve, if_neg (by omega), onEntry_noEntry absent]

theorem shelve_wrongState (found : s.au.find c = some e) (p1 : e.priority = .p1) :
    shelve minutes c s = .refuse .wrongState := by
  rw [shelve, if_neg (by omega), onEntry_of found, if_pos p1]

theorem shelve_taken (found : s.au.find c = some e) (other : e.priority ≠ .p1) :
    shelve minutes c s =
      .done (s.withAlarms (s.au.withList (s.au.replaced c (Entry.shelvedFor (minutes * 60000)))) (e.state != .shelved))
        (codeBytes c ++ be16 (minutes * 60)) := by
  rw [shelve, if_neg (by omega), onEntry_of found, if_neg other]

end

theorem execUnshelve_sent {r : Request} {s : State} (h : Sent [.desk] 2 r s) :
    exec (.unshelve r) s =
      .next (settleReply .desk 0x62#8 (openRequest r s) (onCode r.body unshelve (openRequest r s))) := by
  have taken : exec (.unshelve r) s = _ := takeRequest_of_sent (row := Cmd.unshelve) h (by decide) (by decide)
  rw [taken, List.mem_singleton.mp h.link]
  rfl

theorem unshelve_wrongState {c : AlarmCode} {s : State} {e : Entry} (found : s.au.find c = some e)
    (state : e.state ≠ .shelved) : unshelve c s = .refuse .wrongState := by
  rw [unshelve, onEntry_of found, if_neg state]

theorem unshelve_taken {c : AlarmCode} {s : State} {e : Entry} (found : s.au.find c = some e)
    (state : e.state = .shelved) :
    unshelve c s = .done (endShelf e s) (codeBytes c ++ if e.active then [0x00#8] else [0xFF#8]) := by
  rw [unshelve, onEntry_of found, if_pos state]
  cases e.active <;> rfl

theorem execShelfExpiry_shelved {c : AlarmCode} {s : State} {e : Entry} (found : s.au.find c = some e)
    (state : e.state = .shelved) : execShelfExpiry c s = .next (endShelf e s) := by
  simp only [execShelfExpiry, found, if_pos state]

theorem execShelfExpiry_stopped {c : AlarmCode} {s : State} (none : ∀ e, s.au.find c = some e → e.state ≠ .shelved) :
    execShelfExpiry c s = .next s := by
  cases found : s.au.find c with
  | none => simp only [execShelfExpiry, found]
  | some e => simp only [execShelfExpiry, found, if_neg (none e found)]

/-- The end of a shelf over an active condition (R149, R153). -/
theorem AlarmUnit.endShelf_active (a : AlarmUnit) {e : Entry} (active : e.active = true) :
    a.endShelf e = { a with list := a.removed e.code ++ [e.returned], silence := false }.settleHorns :=
  if_pos active

/-- The end of a shelf over a clear condition (R149). -/
theorem AlarmUnit.endShelf_clear (a : AlarmUnit) {e : Entry} (clear : e.active = false) :
    a.endShelf e = a.afterRemoval (a.removed e.code) :=
  if_neg (by simp [clear])

theorem AlarmUnit.endShelf_follow (a : AlarmUnit) (e : Entry) :
    HornsFollow a (a.endShelf e) ∧ (a.endShelf e).firstOut = a.firstOut := by
  unfold AlarmUnit.endShelf
  split
  · exact ⟨a.settleHorns_follow _ rfl rfl, rfl⟩
  · exact ⟨a.afterRemoval_follow _, rfl⟩

/-- The end of a shelf sets NEWS on every link (R143). -/
theorem endShelf_link (e : Entry) (s : State) (l : Link) :
    (endShelf e s).link l = { s.link l with factors := { (s.link l).factors with news := true } } := by
  rw [endShelf, State.withAlarms_link, LinkUnit.setFactors_newsIf, Bool.or_true]

/-- Settles O50: SHELVE and UNSHELVE by their checks in order, the shelf timer, the end of a shelf by its condition. -/
theorem shelfBeginsAndEnds : Obligations.ShelfBeginsAndEnds := by
  refine ⟨fun r s h => ?shelve, fun r s h => ?unshelve,
    fun c s => ⟨fun e found state => execShelfExpiry_shelved found state, execShelfExpiry_stopped⟩, ?ends⟩
  case shelve =>
    have link := h.notSafe (by decide)
    have au := openRequest_au_other s link
    rw [execShelve_sent h]
    refine ⟨fun none => by rw [onCode_badIndex none, settleReply_refuse], fun c code => ?_⟩
    rw [onCode_of code, ← au]
    refine ⟨fun outside => by rw [shelve_range c _ outside, settleReply_refuse], fun low high => ?_⟩
    refine ⟨fun absent => by rw [shelve_noEntry low high absent, settleReply_refuse], fun e found =>
      ⟨fun p1 => by rw [shelve_wrongState low high found p1, settleReply_refuse], fun other =>
        ⟨_, by rw [shelve_taken low high found other, settleReply_done], ?_⟩⟩⟩
    exact ⟨(openRequest_sameBlocks s link).trans (State.withAlarms_sameBlocks _ _ _), by simp, by simp, rfl, rfl, rfl,
      rfl, AlarmUnit.withList_follow _ _, openRequest_withAlarms_link s link _ _⟩
  case unshelve =>
    have au := openRequest_au_other s (h.notSafe (by decide))
    rw [execUnshelve_sent h]
    refine ⟨fun none => by rw [onCode_badIndex none, settleReply_refuse], fun c code => ?_⟩
    rw [onCode_of code, ← au]
    exact ⟨fun absent => by rw [unshelve, onEntry_noEntry absent, settleReply_refuse], fun e found =>
      ⟨fun state => by rw [unshelve_wrongState found state, settleReply_refuse],
        fun state => by rw [unshelve_taken found state, settleReply_done]⟩⟩
  case ends =>
    rintro e s _ rfl
    obtain ⟨horns, firstOut⟩ := s.au.endShelf_follow e
    refine ⟨State.withAlarms_sameBlocks _ _ _, rfl, rfl, firstOut, horns, endShelf_link e s, fun active => ?_,
      fun clear => ?_⟩
    · rw [endShelf, State.withAlarms_au, s.au.endShelf_active active, ← AlarmUnit.removed_eq]
      exact ⟨rfl, rfl, rfl⟩
    · rw [endShelf, State.withAlarms_au, s.au.endShelf_clear clear, ← AlarmUnit.removed_eq]
      exact ⟨rfl, rfl, rfl⟩

/-! ### Silence and horn B -/

/-- With the silence flag set both horns are silent (R151, R152). -/
theorem AlarmUnit.silenced_eq (a : AlarmUnit) :
    { a with silence := true }.settleHorns =
      { a with silence := true, hornA := false, hornB := .silent, hornBTimer := none } := by
  simp [AlarmUnit.settleHorns, AlarmUnit.wantsA, AlarmUnit.wantsB]

theorem execSilence_sent {r : Request} {s : State} (h : Sent [.desk] 0 r s) :
    exec (.silence r) s = .next (settleReply .desk 0x63#8 (openRequest r s) (silence (openRequest r s))) := by
  have taken : exec (.silence r) s = _ := takeRequest_of_sent (row := Cmd.silence) h (by decide) (by decide)
  rw [taken, List.mem_singleton.mp h.link]
  rfl

theorem execHornBIntervalExpiry_running {s : State} (running : s.au.hornBTimer ≠ none) :
    execHornBIntervalExpiry s =
      .next { s with au := { s.au with hornB := s.au.hornB.otherHalf, hornBTimer := some 1000 } } :=
  if_pos (Option.isSome_iff_ne_none.mpr running)

theorem execHornBIntervalExpiry_stopped {s : State} (stopped : s.au.hornBTimer = none) :
    execHornBIntervalExpiry s = .next s :=
  if_neg (by simp [stopped])

/-! ### The first-out commands -/

theorem execFirstoutClear_sent {r : Request} {s : State} (h : Sent [.desk] 0 r s) :
    exec (.firstoutClear r) s =
      .next (settleReply .desk 0x64#8 (openRequest r s) (firstoutClear (openRequest r s))) := by
  have taken : exec (.firstoutClear r) s = _ :=
    takeRequest_of_sent (row := Cmd.firstoutClear) h (by decide) (by decide)
  rw [taken, List.mem_singleton.mp h.link]
  rfl

theorem execFirstoutMode_sent {r : Request} {s : State} (h : Sent [.desk] 1 r s) :
    exec (.firstoutMode r) s =
      .next (settleReply .desk 0x65#8 (openRequest r s) (firstoutMode r.body (openRequest r s))) := by
  have taken : exec (.firstoutMode r) s = _ := takeRequest_of_sent (row := Cmd.firstoutMode) h (by decide) (by decide)
  rw [taken, List.mem_singleton.mp h.link]
  rfl

theorem firstOutModeOf_none {v : Nat} (h : 1 < v) : firstOutModeOf v = none := by
  unfold firstOutModeOf
  split
  · contradiction
  · contradiction
  · rfl

theorem firstOutModeOf_of_le {v : Nat} (h : v ≤ 1) : firstOutModeOf v = some (if v = 0 then .trip else .any) := by
  interval_cases v <;> rfl

theorem firstoutMode_range {b : List Byte} (s : State) (high : 1 < u8 b 0) : firstoutMode b s = .refuse .range := by
  simp only [firstoutMode, firstOutModeOf_none high]

theorem firstoutMode_wrongState {b : List Byte} {s : State} (named : u8 b 0 ≤ 1)
    (holding : s.au.firstOut.captured ≠ none) : firstoutMode b s = .refuse .wrongState := by
  simp only [firstoutMode, firstOutModeOf_of_le named, if_pos (Option.isSome_iff_ne_none.mpr holding)]

theorem firstoutMode_taken {b : List Byte} {s : State} (named : u8 b 0 ≤ 1) (empty : s.au.firstOut.captured = none) :
    firstoutMode b s =
      .done { s with au := { s.au with firstOut := ⟨if u8 b 0 = 0 then .trip else .any, none⟩ } } [] := by
  simp [firstoutMode, firstOutModeOf_of_le named, empty]

/-- Settles O51, command by command. -/
theorem silenceAndFirstoutTaken : Obligations.SilenceAndFirstoutTaken := by
  have opened {r : Request} {s : State} {n : Nat} (h : Sent [.desk] n r s) : (openRequest r s).au = s.au :=
    openRequest_au_other s (h.notSafe (by decide))
  refine ⟨fun r s h => ⟨?silence, ?clear⟩, fun b => by cases b <;> simp [HornB.output],
    fun s => ⟨execHornBIntervalExpiry_stopped, fun running => ⟨fun half => ?turns, fun half => ?turnsBack⟩⟩,
    fun r s h => ⟨fun high => ?range, fun named holding => ?holding, fun named empty => ?mode⟩⟩
  case silence => rw [execSilence_sent h, silence, settleReply_done, AlarmUnit.silenced_eq, opened h]
  case clear => rw [execFirstoutClear_sent h, firstoutClear, settleReply_done, opened h]
  case turns => exact (execHornBIntervalExpiry_running running).trans (by rw [half]; rfl)
  case turnsBack => exact (execHornBIntervalExpiry_running running).trans (by rw [half]; rfl)
  case range => rw [execFirstoutMode_sent h, firstoutMode_range _ high, settleReply_refuse]
  case holding =>
    rw [← opened h] at holding
    rw [execFirstoutMode_sent h, firstoutMode_wrongState named holding, settleReply_refuse]
  case mode =>
    rw [← opened h] at empty
    rw [execFirstoutMode_sent h, firstoutMode_taken named empty, settleReply_done, opened h]

end Sys2Proof.Machine
end

section
/-! PROOFS. What every command does to the history ring and the number of the open shift: it leaves both, it closes the
open shift, or it resets the machine. So every step keeps the ring consecutive (O54; R165, R167, R169). -/

namespace Sys2Proof.Machine

/-! ### The closed shifts and the number of the open one -/

/-- The history ring and the number of the open shift. -/
def State.books (s : State) : List ClosedShift × Nat := (s.su.history, s.su.shift.number)

theorem foldl_books {α : Type} {f : State → α → State} (h : ∀ s a, (f s a).books = s.books) (l : List α) (s : State) :
    (l.foldl f s).books = s.books := by
  induction l generalizing s with
  | nil => rfl
  | cons a l ih => exact (ih (f s a)).trans (h s a)

theorem openRequest_books (r : Request) (s : State) : (openRequest r s).books = s.books := by
  simp only [State.books, openRequest_su]

/-! ### Trips and withdrawals -/

theorem trip_books (i : Fin 8) (c : TripCause) (s : State) : (trip i c s).books = s.books := by
  simp only [State.books, trip_su]

theorem withdraw_books (c : TripCause) (i : Fin 8) (s : State) : (withdraw c i s).books = s.books := by
  unfold withdraw
  split
  · exact trip_books i c s
  · split <;> rfl

theorem withdrawAll_books (c : TripCause) (s : State) : (withdrawAll c s).books = s.books :=
  foldl_books (fun s i => withdraw_books c i s) all8 s

theorem reportInterlocks_books (p : Fin 8 → Bool) (s : State) : (reportInterlocks p s).books = s.books := by
  refine foldl_books (fun s i => ?_) all8 s
  split
  · exact withdraw_books .interlock i s
  · rfl

/-! ### The cooler and the contacts -/

theorem refreshHoldback_books (s : State) : (refreshHoldback s).books = s.books := by
  unfold refreshHoldback
  split
  · rfl
  · split <;> rfl

theorem stopReported_books (k : Fin 24) (s : State) : (stopReported k s).books = s.books := by
  by_cases present : k ∈ s.cooler.stopContacts
  · rw [stopReported_present present]
  · rw [stopReported_joins present, refreshHoldback_books]
    rfl

theorem stopReturned_books (k : Fin 24) (s : State) : (stopReturned k s).books = s.books := by
  by_cases present : k ∈ s.cooler.stopContacts
  · rw [stopReturned_leaves present rfl, refreshHoldback_books]
    rfl
  · rw [stopReturned_absent present]

theorem goesAbnormal_books (k : Fin 24) (s : State) : (goesAbnormal k s).books = s.books := by
  cases role : (s.contact k).role with
  | none => rw [goesAbnormal_none role]
  | alarm => rw [goesAbnormal_alarm role]; rfl
  | streamInterlock => rw [goesAbnormal_interlock role, reportInterlocks_books]; rfl
  | coolerStop => rw [goesAbnormal_coolerStop role, stopReported_books]; rfl

theorem returnsNormal_books (k : Fin 24) (s : State) : (returnsNormal k s).books = s.books := by
  cases role : (s.contact k).role with
  | none => rw [returnsNormal_none role]
  | alarm => rw [returnsNormal_cleared (.inl role)]; rfl
  | streamInterlock => rw [returnsNormal_cleared (.inr role)]; rfl
  | coolerStop => rw [returnsNormal_coolerStop role, stopReturned_books]; rfl

theorem scanContacts_books (levels : BitVec 24) (s : State) : (scanContacts levels s).books = s.books := by
  refine foldl_books (fun s k => ?_) all24 s
  unfold sampleContact actOnReading
  repeat' split
  · exact goesAbnormal_books k _
  · exact returnsNormal_books k _
  · rfl
  · rfl

theorem settleCondition_books (k : Fin 24) (before : Bool) (s : State) :
    (settleCondition k before s).books = s.books := by
  unfold settleCondition
  split
  · rfl
  · split <;> rfl

theorem settleStop_books (k : Fin 24) (old new : Contact) (s : State) : (settleStop k old new s).books = s.books := by
  unfold settleStop
  split
  · exact stopReturned_books k s
  split
  · exact stopReported_books k s
  · rfl

theorem replaceContact_books (k : Fin 24) (new : Contact) (s : State) : (replaceContact k new s).books = s.books := by
  unfold replaceContact settleInterlocks
  rw [settleStop_books, reportInterlocks_books, settleCondition_books]
  rfl

theorem force_books (k : Fin 24) (s : State) : (force k s).books = s.books := by
  have returned : (forceReturned k s).books = s.books := by
    unfold forceReturned
    split
    · exact returnsNormal_books k _
    · rfl
  rw [force_eq]
  exact returned

theorem liftForce_books (k : Fin 24) (s : State) : (liftForce k s).books = s.books := by
  unfold liftForce
  dsimp only
  split
  · exact goesAbnormal_books k _
  · rfl

/-! ### Slots and cutback sets -/

theorem testIdle_books (k : Fin 4) (v : Int) (s : State) : (testIdle k v s).books = s.books := by
  unfold testIdle
  split
  · split <;> rfl
  · rfl

theorem freshValue_books (v : Int) (k : Fin 4) (s : State) : (freshValue v k s).books = s.books := by
  unfold freshValue
  split
  · rfl
  · exact testIdle_books k v s
  all_goals split <;> rfl

theorem handFresh_books (n : Fin 8) (s : State) : (handFresh n s).books = s.books := by
  refine foldl_books (fun s k => ?_) all4 s
  split
  · exact freshValue_books _ k s
  · rfl

theorem handStale_books (n : Fin 8) (s : State) : (handStale n s).books = s.books := by
  rw [handStale_frame]
  rfl

theorem rewriteSet_books (k : Fin 4) (c : CutSet) (s : State) : (rewriteSet k c s).books = s.books := by
  unfold rewriteSet
  dsimp only
  split
  · rw [testIdle_books]
    split <;> rfl
  · split <;> rfl

/-! ### The dosing period -/

theorem periodCloses_books (s : State) : (periodCloses s).books = s.books := by
  refine foldl_books (fun s i => ?_) all8 s
  rw [periodClose_eq, reportDeviation_eq]
  split
  · rfl
  · split <;> rfl

theorem dose_books (x : Site) (s : State) : (dose x s).books = s.books := by
  have reported (before after : Bool) (u : Int) : (reportUnplaced x before after u (computed x s)).books = s.books := by
    unfold reportUnplaced
    split
    · rfl
    · split <;> rfl
  rw [dose_report]
  exact reported _ _ _

/-! ### One move of the books -/

/-- What a command does to the books: nothing, the close of a shift that does not carry the last number, or a reset
(R15, R165, R167, R169). -/
inductive BooksMove (s t : State) : Prop
  | kept (same : t.books = s.books)
  | close {c : ClosedShift} (number : c.number = s.su.shift.number) (closable : s.su.shift.number ≠ lastShift)
      (joined : t.books = (joinHistory s.su.history c, s.su.shift.number + 1))
  | reset (empty : t.books = ([], 1))

/-- A move before a change of what is no part of the books. -/
theorem BooksMove.before {s t u : State} (m : BooksMove s t) (same : u.books = t.books) : BooksMove s u := by
  cases m with
  | kept kept => exact .kept (same.trans kept)
  | close number closable joined => exact .close number closable (same.trans joined)
  | reset empty => exact .reset (same.trans empty)

/-- A move after a change of what is no part of the books. -/
theorem BooksMove.after {s t u : State} (m : BooksMove t u) (same : t.books = s.books) : BooksMove s u := by
  obtain ⟨history, number⟩ := Prod.mk.inj same
  cases m with
  | kept kept => exact .kept (kept.trans same)
  | close numbered closable joined =>
    exact .close (numbered.trans number) (number ▸ closable) (by rw [joined, history, number])
  | reset empty => exact .reset empty

theorem closeOpenShift_booksMove (cause : CloseCause) {s : State} (closable : s.su.shift.number ≠ lastShift) :
    BooksMove s (closeOpenShift cause s) :=
  .close (c := s.su.shift.latched s.su.clock cause) rfl closable rfl

theorem takeRequest_booksMove {row : CommandRow} {r : Request} {act : State → Reply} {s t : State}
    (h : takeRequest row r act s = .next t) (moves : ∀ s, (act s).LeadsTo (BooksMove s)) : BooksMove s t := by
  have opened := openRequest_books r s
  obtain ⟨-, rfl | ⟨-, ⟨-, rfl⟩ | ⟨-, -, rfl⟩ | ⟨-, -, rfl⟩⟩⟩ := takeRequest_next h
  · exact .kept rfl
  · exact .kept opened
  · exact .kept opened
  · cases reply : act (openRequest r s) with
    | refuse c => exact .kept opened
    | take u c b =>
      have taken := moves (openRequest r s)
      rw [reply] at taken
      cases taken with
      | take move => exact (move.after opened).before rfl

theorem takeRequest_onStream_booksMove {row : CommandRow} {r : Request} {act : Fin 8 → State → Reply} {s t : State}
    (h : takeRequest row r (onStream r.body act) s = .next t) (moves : ∀ i s, (act i s).LeadsTo (BooksMove s)) :
    BooksMove s t :=
  takeRequest_booksMove h fun s => onStream_leadsTo (fun i => moves i s) _

theorem takeRequest_onContact_booksMove {row : CommandRow} {r : Request} {act : Fin 24 → State → Reply} {s t : State}
    (h : takeRequest row r (onContact r.body act) s = .next t) (moves : ∀ k s, (act k s).LeadsTo (BooksMove s)) :
    BooksMove s t :=
  takeRequest_booksMove h fun s => onContact_leadsTo (fun k => moves k s) _

theorem takeRequest_onCode_booksMove {row : CommandRow} {r : Request} {act : AlarmCode → State → Reply} {s t : State}
    (h : takeRequest row r (onCode r.body act) s = .next t) (moves : ∀ c s, (act c s).LeadsTo (BooksMove s)) :
    BooksMove s t :=
  takeRequest_booksMove h fun s => onCode_leadsTo (fun c => moves c s) _

/-! ### The commands of the blocks -/

theorem closeShift_booksMove (s : State) : (closeShift s).LeadsTo (BooksMove s) := by
  unfold closeShift
  split
  · exact .refuse
  case isFalse closable => exact .take (closeOpenShift_booksMove .desk closable)

theorem flame_booksMove (b : List Byte) (s : State) : (flame b s).LeadsTo (BooksMove s) := by
  refine onStream_leadsTo (fun i => ?_) b
  unfold flameProven flameLost
  split
  · split
    · exact .take (.kept rfl)
    · split <;> exact .refuse
  · split
    · exact .take (.kept (trip_books i .flameLost s))
    · exact .take (.kept rfl)
  · exact .refuse

theorem putMeas_booksMove (b : List Byte) (s : State) : (putMeas b s).LeadsTo (BooksMove s) := by
  unfold putMeas
  split
  · exact .refuse
  · refine .take (.kept ((handFresh_books _ _).trans ?_))
    split <;> rfl

theorem setMeasConfig_booksMove (b : List Byte) (s : State) : (setMeasConfig b s).LeadsTo (BooksMove s) := by
  unfold setMeasConfig
  split; · exact .refuse
  split; · exact .refuse
  split; · exact .refuse
  refine .take (.kept ?_)
  split
  · exact handFresh_books _ _
  · rfl

theorem setCutback_booksMove (b : List Byte) (s : State) : (setCutback b s).LeadsTo (BooksMove s) := by
  unfold setCutback
  split; swap; · exact .refuse
  split
  · exact .refuse
  · exact .take (.kept (rewriteSet_books _ _ s))

theorem coolerMode_booksMove (b : List Byte) (s : State) : (coolerMode b s).LeadsTo (BooksMove s) := by
  unfold coolerMode takeManual takeAuto
  split
  · exact .take (.kept (refreshHoldback_books _))
  · refine .take (.kept ?_)
    split <;> rfl
  · exact .refuse

theorem setContact_booksMove (b : List Byte) (k : Fin 24) (s : State) :
    (setContact b k s).LeadsTo (BooksMove s) := by
  unfold setContact
  split; · exact .refuse
  split; · exact .refuse
  exact .take (.kept (replaceContact_books k _ s))

theorem forceContact_booksMove (k : Fin 24) (s : State) : (forceContact k s).LeadsTo (BooksMove s) := by
  unfold forceContact
  split; · exact .refuse
  split; · exact .take (.kept rfl)
  exact .take (.kept (force_books k s))

theorem unforce_booksMove (k : Fin 24) (s : State) : (unforce k s).LeadsTo (BooksMove s) := by
  unfold unforce
  split
  · exact .take (.kept (liftForce_books k s))
  · exact .refuse

theorem shelve_booksMove (minutes : Nat) (c : AlarmCode) (s : State) :
    (shelve minutes c s).LeadsTo (BooksMove s) := by
  unfold shelve
  split; · exact .refuse
  refine onEntry_leadsTo fun e _ => ?_
  split
  · exact .refuse
  · exact .take (.kept rfl)

theorem fullReset_booksMove (p d : Option Nat) (s : State) : (fullReset p d s).LeadsTo (BooksMove s) := by
  unfold fullReset
  split
  · exact .take (.reset rfl)
  · exact .refuse

/-! ### Events -/

theorem execUnknownCmd_books {code : Byte} {r : Request} {s t : State} (h : execUnknownCmd code r s = .next t) :
    t.books = s.books := by
  unfold execUnknownCmd at h
  split at h; · cases h
  split at h <;> cases h
  · rfl
  · exact openRequest_books r s

theorem execNoFlowReport_books {i : Fin 8} {s t : State} (h : execNoFlowReport i s = .next t) :
    t.books = s.books := by
  unfold execNoFlowReport at h
  split at h <;> cases h
  · exact trip_books i .noFlow _
  · rfl

theorem execLightingTimerExpiry_books {i : Fin 8} {s t : State} (h : execLightingTimerExpiry i s = .next t) :
    t.books = s.books := by
  unfold execLightingTimerExpiry at h
  split at h <;> cases h
  · exact trip_books i .lightFail s
  · rfl

theorem raiseAlarm_books (r : Raise) (s : State) : (raiseAlarm r s).books = s.books := rfl

theorem unhealthy_books (s : State) : ({ s with safeHealthy := false } : State).books = s.books := rfl

theorem execSafeLinkTimerExpiry_books {s t : State} (h : execSafeLinkTimerExpiry s = .next t) :
    t.books = s.books := by
  unfold execSafeLinkTimerExpiry at h
  split at h
  · have withdrawn : (withdrawAll .linkLoss { s with safeTimer := none }).books = s.books := withdrawAll_books .linkLoss _
    exact Host.Outcome.next.inj h ▸ (unhealthy_books _).trans ((raiseAlarm_books safeLinkRaise _).trans withdrawn)
  · exact Host.Outcome.next.inj h ▸ rfl

theorem execStaleTimerExpiry_books {n : Fin 8} {s t : State} (h : execStaleTimerExpiry n s = .next t) :
    t.books = s.books := by
  unfold execStaleTimerExpiry at h
  split at h <;> cases h
  · exact handStale_books n _
  · rfl

theorem execCoolerPeriod_books {s t : State} (h : execCoolerPeriod s = .next t) : t.books = s.books := by
  unfold execCoolerPeriod at h
  split at h
  · cases h; rfl
  · split at h <;> cases h
    · rfl
    · exact refreshHoldback_books _

theorem booked_books (n : Fin 4) (s : State) : (booked n s).books = s.books := by
  rw [booked_eq]
  rfl

theorem execStrokePulse_books {n : Fin 4} {s t : State} (h : exec (.strokePulse n) s = .next t) :
    t.books = s.books := by
  cases stalled : s.cooler.sections[n].stalled with
  | false =>
    rw [execStrokePulse_running stalled] at h
    exact Host.Outcome.next.inj h ▸ booked_books n s
  | true =>
    rw [execStrokePulse_stalled stalled] at h
    exact Host.Outcome.next.inj h ▸ (refreshHoldback_books _).trans (booked_books n s)

theorem execStallTimerExpiry_books {n : Fin 4} {s t : State} (h : execStallTimerExpiry n s = .next t) :
    t.books = s.books := by
  unfold execStallTimerExpiry at h
  split at h <;> cases h
  · exact refreshHoldback_books _
  · rfl

theorem dosingPeriod_books (s : State) :
    (dose .calc (dose .main (periodCloses { s with dosingTimer := s.period.ms }))).books = s.books := by
  rw [dose_books, dose_books, periodCloses_books]
  rfl

/-- The clock advance closes the open shift at a change time, and not at the last shift number (R162, R165). -/
theorem execClockAdvance_booksMove {s t : State} (h : execClockAdvance s = .next t) : BooksMove s t := by
  unfold execClockAdvance at h
  split at h <;> cases h
  case isTrue.refl reached =>
    have below : s.su.shift.number < lastShift := of_decide_eq_true (Bool.and_eq_true_iff.mp reached).2
    exact (closeOpenShift_booksMove .clock
      (s := { s with su := s.su.tickSecond (s.siteBurns .main) (s.siteBurns .calc) }) below.ne).after rfl
  case isFalse.refl => exact .kept rfl

/-! ### Every command and every step -/

/-- Every command leaves the books, closes the open shift, or resets the machine. -/
theorem exec_booksMove {c : Instr} {s t : State} (h : exec c s = .next t) : BooksMove s t := by
  cases c with
  | powerOnReset => cases h; exact .reset rfl
  | fullReset r p d => exact takeRequest_booksMove h (fullReset_booksMove p d)
  | closeShift => exact takeRequest_booksMove h closeShift_booksMove
  | clockAdvance => exact execClockAdvance_booksMove h
  | nop | status | poll | readFirstout | attnMask | attnClear | linkReset | setCheck | ackAll | silence
  | firstoutClear =>
    exact takeRequest_booksMove h fun s => .take (.kept rfl)
  | readStream | readCal => exact takeRequest_onStream_booksMove h fun _ s => .take (.kept rfl)
  | readContacts => exact takeRequest_onContact_booksMove h fun _ s => .take (.kept rfl)
  | readSite | readShift | readMeas | readCooler | listRead | setPeriod | setLinkTimeout | setClock | setShifts
  | setDemand | setCooler | firstoutMode =>
    refine takeRequest_booksMove h fun s => ?_
    dsimp only [readSite, readShift, readMeas, readCooler, listRead, setPeriod, setLinkTimeout, setClock, setShifts,
      setDemand, setCooler, takeCooler, firstoutMode, Reply.done]
    repeat' split
    all_goals constructor
    all_goals exact .kept rfl
  | setLimits | setPlan | setPoll | grant | light | hold | resume | stop | release | calStart | calStop | calAccept
  | calDiscard =>
    refine takeRequest_onStream_booksMove h fun i s => ?_
    dsimp only [setLimits, setPlan, setPoll, grant, light, hold, resume, stop, release, calStart, calStop, calAccept,
      calDiscard, fired, Reply.done]
    repeat' split
    all_goals constructor
    all_goals exact .kept rfl
  | revoke => exact takeRequest_onStream_booksMove h fun i s => .take (.kept (withdraw_books .revoke i s))
  | flameProven | flameLost => exact takeRequest_booksMove h (flame_booksMove _)
  | masterTrip => exact takeRequest_booksMove h fun s => .take (.kept (withdrawAll_books .master s))
  | putMeas => exact takeRequest_booksMove h (putMeas_booksMove _)
  | setMeasConfig => exact takeRequest_booksMove h (setMeasConfig_booksMove _)
  | setCutback => exact takeRequest_booksMove h (setCutback_booksMove _)
  | coolerModeManual | coolerModeAuto => exact takeRequest_booksMove h (coolerMode_booksMove _)
  | setContact => exact takeRequest_onContact_booksMove h (setContact_booksMove _)
  | forceContact => exact takeRequest_onContact_booksMove h forceContact_booksMove
  | unforce => exact takeRequest_onContact_booksMove h unforce_booksMove
  | ack | unshelve =>
    refine takeRequest_onCode_booksMove h fun c s => onEntry_leadsTo fun e _ => ?_
    split
    all_goals constructor
    all_goals exact .kept rfl
  | shelve => exact takeRequest_onCode_booksMove h (shelve_booksMove _)
  | massPulse => cases h; exact .kept rfl
  | strokePulse => exact .kept (execStrokePulse_books h)
  | dosingPeriodExpiry => exact .kept (Host.Outcome.next.inj h ▸ dosingPeriod_books s)
  | contactScan levels => exact .kept (Host.Outcome.next.inj h ▸ scanContacts_books levels _)
  | unknownCmd => exact .kept (execUnknownCmd_books h)
  | noFlowReport => exact .kept (execNoFlowReport_books h)
  | lightingTimerExpiry => exact .kept (execLightingTimerExpiry_books h)
  | safeLinkTimerExpiry => exact .kept (execSafeLinkTimerExpiry_books h)
  | staleTimerExpiry => exact .kept (execStaleTimerExpiry_books h)
  | coolerPeriod => exact .kept (execCoolerPeriod_books h)
  | stallTimerExpiry => exact .kept (execStallTimerExpiry_books h)
  | frameErr | abandonedTransfer | calWindowTimeout | delayTimerExpiry | shelfExpiry | hornBIntervalExpiry =>
    dsimp only [exec, execFrameErr, execAbandonedTransfer, execCalWindowTimeout, execDelayTimerExpiry,
      execShelfExpiry, execHornBIntervalExpiry] at h
    repeat' split at h
    all_goals cases h
    all_goals exact .kept rfl

theorem idle_books (s : State) : (idle s).books = s.books := by
  unfold idle
  split <;> rfl

theorem step_booksMove {s t : State} (h : step s = .next t) : BooksMove s t := by
  unfold step at h
  split at h
  · exact .kept (Host.Outcome.next.inj h ▸ idle_books s)
  · exact (exec_booksMove h).after rfl

/-! ### The ring stays consecutive -/

/-- Below 8 records nothing is dropped. -/
theorem joinHistory_eq (h : List ClosedShift) (c : ClosedShift) :
    joinHistory h c = h.drop (h.length - 7) ++ [c] := by
  unfold joinHistory
  split
  · rfl
  case isFalse room => rw [Nat.sub_eq_zero_of_le (by omega), List.drop_zero]

theorem joinHistory_length (h : List ClosedShift) (c : ClosedShift) :
    (joinHistory h c).length = min 8 (h.length + 1) := by
  rw [joinHistory_eq, List.length_append, List.length_drop, List.length_singleton]
  omega

/-- A record joined under the number that follows those of a consecutive ring leaves it consecutive. -/
theorem joinHistory_consecutive {h : List ClosedShift} {c : ClosedShift} {n : Nat} (fits : h.length ≤ n)
    (consecutive : h.map ClosedShift.number = List.range' (n - h.length) h.length) (number : c.number = n) :
    (joinHistory h c).map ClosedShift.number =
      List.range' (n + 1 - (joinHistory h c).length) (joinHistory h c).length := by
  have kept : (h.drop (h.length - 7)).length = min 7 h.length := by
    rw [List.length_drop]
    omega
  have first : n - h.length + (h.length - 7) = n - min 7 h.length := by omega
  have left : h.length - (h.length - 7) = min 7 h.length := by omega
  have start : n + 1 - (min 7 h.length + 1) = n - min 7 h.length := by omega
  have last : n - min 7 h.length + min 7 h.length = n := by omega
  rw [joinHistory_eq, List.length_append, kept, List.length_singleton, List.map_append, List.map_drop, consecutive,
    List.map_singleton, number, List.drop_range', Nat.mul_one, first, left, start, List.range'_1_concat, last]

theorem HistorySound.of_books {s t : State} (h : HistorySound s.su) (same : t.books = s.books) :
    HistorySound t.su := by
  obtain ⟨history, number⟩ := Prod.mk.inj same
  exact ⟨by rw [history, number]; exact h.length, by rw [number]; exact h.number,
    by rw [history, number]; exact h.consecutive⟩

theorem BooksMove.sound {s t : State} (m : BooksMove s t) (h : HistorySound s.su) : HistorySound t.su := by
  cases m with
  | kept same => exact h.of_books same
  | reset empty => exact historySound_reset.of_books (s := State.reset) empty
  | close number closable joined =>
    obtain ⟨history, opened⟩ := Prod.mk.inj joined
    obtain ⟨positive, bound⟩ := h.number
    have length := h.length
    have below : s.su.shift.number < 4294967295 := lt_of_le_of_ne bound closable
    refine ⟨?_, by omega, ?_⟩
    · rw [history, opened, joinHistory_length]
      omega
    · rw [history, opened]
      exact joinHistory_consecutive (by omega) h.consecutive number

/-- Settles O54: a step makes at most one move of the books, and each of the three kinds keeps the ring. -/
theorem historyRingStaysConsecutive : Obligations.HistoryRingStaysConsecutive := by
  intro s t h
  have move := step_booksMove h
  refine ⟨move.sound, ?_⟩
  cases move with
  | kept same => exact .inl (congrArg Prod.fst same)
  | @close c number closable joined =>
    exact .inr (.inl ⟨c, number, (congrArg Prod.fst joined).trans (joinHistory_eq _ c)⟩)
  | reset empty => exact .inr (.inr (Prod.mk.inj empty))

end Sys2Proof.Machine
end

section
/-! PROOFS. The close of a shift, CLOSE_SHIFT, and the clock advance that closes at a change time (R162, R165, R167 to
R169). -/

namespace Sys2Proof.Machine

/-! ### The close -/

/-- SHIFT set on a link that may carry other factors (R167, step 4). -/
theorem LinkUnit.setFactors_shift (u : LinkUnit) :
    u.setFactors shiftFactor = { u with factors := { u.factors with shift := true } } := by
  simp [LinkUnit.setFactors, shiftFactor]

theorem closeOpenShift_su (cause : CloseCause) (s : State) :
    (closeOpenShift cause s).su =
      { s.su with
        history := s.su.history.drop (s.su.history.length - 7) ++ [s.su.shift.latched s.su.clock cause]
        shift := OpenShift.fresh (s.su.shift.number + 1) s.su.clock } := by
  rw [← joinHistory_eq]
  rfl

theorem closeOpenShift_link (cause : CloseCause) (s : State) (l : Link) :
    (closeOpenShift cause s).link l = { s.link l with factors := { (s.link l).factors with shift := true } } := by
  rw [closeOpenShift, State.setFactors_link, LinkUnit.setFactors_shift]
  cases l <;> rfl

/-! ### CLOSE_SHIFT -/

theorem execCloseShift_sent {r : Request} {s : State} (h : Sent [.desk] 0 r s) :
    exec (.closeShift r) s = .next (settleReply .desk 0x6A#8 (openRequest r s) (closeShift (openRequest r s))) :=
  (takeRequest_of_sent (row := Cmd.closeShift) h (by decide) (by decide)).trans
    (by rw [List.mem_singleton.mp h.link]; rfl)

theorem closeShift_wrongState {s : State} (last : s.su.shift.number = 4294967295) :
    closeShift s = .refuse .wrongState := if_pos last

theorem closeShift_taken {s : State} (other : s.su.shift.number ≠ 4294967295) :
    closeShift s =
      .done (closeOpenShift .desk s)
        (be32 s.su.shift.number ++ be16 s.su.clock.day ++ be24 s.su.clock.second ++ be32 (s.su.shift.number + 1)) := by
  rw [closeShift, lastShift, if_neg other, ClockTime.bytes, ← List.append_assoc]

/-! ### The clock advance -/

theorem ClockTime.advance_eq (t : ClockTime) :
    t.advance =
      ⟨if t.second = 86399 then (t.day + 1) % 65536 else t.day, if t.second = 86399 then 0 else t.second + 1⟩ := by
  unfold ClockTime.advance
  split <;> rfl

theorem State.siteBurns_iff (x : Site) (s : State) :
    s.siteBurns x = true ↔ ∃ i, (s.stream i).limits.site = x ∧ (s.stream i).state = .firing :=
  siteFiring_iff x s

/-- The burning seconds of a site after a clock advance that found it with `n` (R162, step 1). -/
def State.burnedSeconds (x : Site) (n : Nat) (s : State) : Nat := if s.siteBurns x then satAdd 4294967295 n 1 else n

theorem State.burnedSeconds_firing {x : Site} {s : State} (n : Nat)
    (firing : ∃ i, (s.stream i).limits.site = x ∧ (s.stream i).state = .firing) :
    s.burnedSeconds x n = min 4294967295 (n + 1) :=
  if_pos ((State.siteBurns_iff x s).mpr firing)

theorem State.burnedSeconds_quiet {x : Site} {s : State} (n : Nat)
    (quiet : ∀ i, (s.stream i).limits.site = x → (s.stream i).state ≠ .firing) : s.burnedSeconds x n = n := by
  refine if_neg fun burns => ?_
  obtain ⟨i, site, firing⟩ := (State.siteBurns_iff x s).mp burns
  exact quiet i site firing

/-- The state after the first two steps of a clock advance: burning seconds and the clock (R162). -/
def State.secondOn (s : State) : State :=
  { s with
    su := { s.su with
      clock := s.su.clock.advance
      secondTimer := 1000
      shift := { s.su.shift with
        burnMain := s.burnedSeconds .main s.su.shift.burnMain
        burnCalc := s.burnedSeconds .calc s.su.shift.burnCalc } } }

theorem ShiftUnit.reachesChange_iff (u : ShiftUnit) :
    u.reachesChange = true ↔ u.clock.second ∈ u.changeTimes ∧ u.shift.number < 4294967295 := by
  rw [ShiftUnit.reachesChange, Bool.and_eq_true, List.contains_iff_mem, decide_eq_true_iff, lastShift]

/-- The last step of a clock advance: the close at a change time (R162, step 3). -/
theorem execClockAdvance_eq (s : State) :
    exec .clockAdvance s =
      if s.su.clock.advance.second ∈ s.su.changeTimes ∧ s.su.shift.number < 4294967295 then
        .next (closeOpenShift .clock s.secondOn)
      else .next s.secondOn :=
  if_congr (ShiftUnit.reachesChange_iff s.secondOn.su) rfl rfl

/-- Settles O53: a close whole, CLOSE_SHIFT in its two cases, and the clock advance by `execClockAdvance_eq`. -/
theorem closeBooksShift : Obligations.CloseBooksShift := by
  refine ⟨fun cause s => ?close, fun r s h => ⟨fun last => ?last, fun other => ?taken⟩,
    fun s day second hday hsecond => ?advance⟩
  case close =>
    exact ⟨s.su.shift.latched s.su.clock cause, closeOpenShift_su cause s, rfl, rfl, rfl, rfl,
      closeOpenShift_link cause s, rfl⟩
  case last =>
    rw [← openRequest_su r s] at last
    rw [execCloseShift_sent h, closeShift_wrongState last, settleReply_refuse]
  case taken =>
    rw [← openRequest_su r s] at other
    rw [execCloseShift_sent h, closeShift_taken other, settleReply_done, openRequest_su]
  case advance =>
    have clock : s.su.clock.advance = ⟨day, second⟩ := by rw [ClockTime.advance_eq, hday, hsecond]
    have advanced := execClockAdvance_eq s
    rw [clock] at advanced
    refine ⟨s.secondOn, s.burnedSeconds .main s.su.shift.burnMain, s.burnedSeconds .calc s.su.shift.burnCalc,
      by rw [← clock]; rfl, State.burnedSeconds_firing _, State.burnedSeconds_quiet _, State.burnedSeconds_firing _,
      State.burnedSeconds_quiet _, fun reached closable => ?_, fun unreached => ?_⟩
    · rw [advanced, if_pos ⟨reached, closable⟩]
    · rw [advanced, if_neg]
      rintro ⟨reached, closable⟩
      exact unreached.elim (fun missed => missed reached) closable.not_ge

end Sys2Proof.Machine
end

section
/-! PROOFS. SET_CLOCK and SET_SHIFTS: the fields that their bodies carry, what they load and what they refuse (R163,
R164). -/

namespace Sys2Proof.Machine

/-! ### Fields of four bytes -/

@[simp] theorem be32_length (v : Nat) : (be32 v).length = 4 := rfl

/-- A field of two bytes holds a number modulo 65,536. -/
theorem be16_add_mul (a v : Nat) : be16 (a * 65536 + v) = be16 v := by
  simp only [be16, be8, List.singleton_append, List.cons.injEq, and_true]
  constructor <;>
    · apply BitVec.eq_of_toNat_eq
      simp only [BitVec.toNat_ofNat]
      omega

/-- A number written high byte first is the four bytes it was read from (R173). -/
theorem be32_u32 (b : List Byte) (k : Nat) :
    be32 (u32 b k) = [b.getD k 0, b.getD (k + 1) 0, b.getD (k + 2) 0, b.getD (k + 3) 0] := by
  have low := u16_le b (k + 2)
  have high : (u16 b k * 65536 + u16 b (k + 2)) / 65536 = u16 b k := by omega
  rw [be32, u32, high, be16_add_mul, be16_u16, be16_u16]
  rfl

theorem u8_append (p q : List Byte) (j : Nat) : u8 (p ++ q) (p.length + j) = u8 q j := by
  rw [u8, u8, List.getD_append_right _ _ _ _ (Nat.le_add_right _ _), Nat.add_sub_cancel_left]

/-- A number of four bytes is read back from where it was written (R173). -/
theorem u32_append_be32 (p q : List Byte) {v : Nat} (fits : v < 4294967296) :
    u32 (p ++ (be32 v ++ q)) p.length = v := by
  have read (j : Nat) : u8 (p ++ (be32 v ++ q)) (p.length + j) = u8 (be32 v ++ q) j := u8_append p _ j
  have first : u8 (p ++ (be32 v ++ q)) p.length = u8 (be32 v ++ q) 0 := read 0
  simp only [u32, u16, Nat.add_assoc, first, read]
  simp [u8, be32, be16, be8]
  omega

/-- The bytes from a position on begin with the number read there. -/
theorem drop_eq_be32_append {b : List Byte} {k : Nat} (h : k + 4 ≤ b.length) :
    b.drop k = be32 (u32 b k) ++ b.drop (k + 4) := by
  rw [be32_u32, List.drop_eq_getElem_cons (show k < b.length by omega),
    List.drop_eq_getElem_cons (show k + 1 < b.length by omega),
    List.drop_eq_getElem_cons (show k + 2 < b.length by omega),
    List.drop_eq_getElem_cons (show k + 3 < b.length by omega),
    List.getD_eq_getElem _ _ (show k < b.length by omega),
    List.getD_eq_getElem _ _ (show k + 1 < b.length by omega),
    List.getD_eq_getElem _ _ (show k + 2 < b.length by omega),
    List.getD_eq_getElem _ _ (show k + 3 < b.length by omega)]
  rfl

/-! ### The times of a SET_SHIFTS body -/

theorem timesAt_length (b : List Byte) (n k : Nat) : (timesAt b n k).length = n := by
  induction n generalizing k with
  | zero => rfl
  | succ n ih => rw [timesAt, List.length_cons, ih]

/-- Times written behind a prefix are read back from there. -/
theorem timesAt_flatMap (p : List Byte) {times : List Nat} (fits : ∀ x ∈ times, x < 4294967296) :
    timesAt (p ++ times.flatMap be32) times.length p.length = times := by
  induction times generalizing p with
  | nil => rfl
  | cons x times ih =>
    have rest := ih (p ++ be32 x) fun y hy => fits y (.tail x hy)
    rw [List.append_assoc, List.length_append, be32_length] at rest
    rw [List.flatMap_cons, List.length_cons, timesAt, u32_append_be32 p _ (fits x (.head _)), rest]

/-- The times read from a position to the end, written again, are the bytes from there. -/
theorem flatMap_timesAt {b : List Byte} {n k : Nat} (h : b.length = k + 4 * n) :
    (timesAt b n k).flatMap be32 = b.drop k := by
  induction n generalizing k with
  | zero => rw [List.drop_of_length_le (by omega)]; rfl
  | succ n ih => rw [drop_eq_be32_append (by omega), timesAt, List.flatMap_cons, ih (by omega)]

theorem increasing_iff (l : List Nat) : increasing l = true ↔ l.Pairwise (· < ·) := by
  rw [← List.isChain_iff_pairwise]
  induction l with
  | nil => simp [increasing]
  | cons x l ih =>
    cases l with
    | nil => simp [increasing]
    | cons y l => rw [increasing, Bool.and_eq_true, ih, decide_eq_true_iff, List.isChain_cons_cons]

/-! ### The table of a body -/

/-- A table that R164 accepts: at most 4 times, each a second of the day, strictly increasing. -/
structure ChangeTimesFit (times : List Nat) : Prop where
  count : times.length ≤ 4
  seconds : ∀ x ∈ times, x ≤ 86399
  increasing : times.Pairwise (· < ·)

theorem changeTimesBytes_length (times : List Nat) : (changeTimesBytes times).length = 1 + 4 * times.length := by
  have length : (times.flatMap be32).length = 4 * times.length := by
    simp [List.length_flatMap, Nat.mul_comm]
  rw [changeTimesBytes, List.length_append, length]
  rfl

theorem u8_changeTimesBytes {times : List Nat} (count : times.length ≤ 4) :
    u8 (changeTimesBytes times) 0 = times.length :=
  Nat.mod_eq_of_lt (by omega)

theorem timesAt_changeTimesBytes {times : List Nat} (fit : ChangeTimesFit times) :
    timesAt (changeTimesBytes times) times.length 1 = times :=
  timesAt_flatMap (be8 times.length) fun x hx => by have := fit.seconds x hx; omega

/-- A body as long as its count says is the count and the times read from it (R164, R176). -/
theorem changeTimesBytes_timesAt {b : List Byte} (length : b.length = 1 + 4 * u8 b 0) :
    changeTimesBytes (timesAt b (u8 b 0) 1) = b := by
  have count : be8 (u8 b 0) = [b.getD 0 0] := by rw [be8, u8, BitVec.ofNat_toNat, BitVec.setWidth_eq]
  rw [changeTimesBytes, timesAt_length, flatMap_timesAt length, count]
  cases b with
  | nil => rw [List.length_nil] at length; omega
  | cons x b => rfl

/-- SET_SHIFTS reads exactly the accepted tables, each from the bytes that carry it (R164). -/
theorem changeTimesOf_iff {b : List Byte} {times : List Nat} :
    changeTimesOf b = some times ↔ b = changeTimesBytes times ∧ ChangeTimesFit times := by
  constructor
  · intro h
    unfold changeTimesOf at h
    split at h <;> cases h
    case isTrue.refl taken =>
      obtain ⟨length, count, seconds, increases⟩ := taken
      exact ⟨(changeTimesBytes_timesAt length).symm, (timesAt_length b _ 1).le.trans count,
        fun x hx => of_decide_eq_true (List.all_eq_true.mp seconds x hx), (increasing_iff _).mp increases⟩
  · rintro ⟨rfl, fit⟩
    have count := u8_changeTimesBytes fit.count
    have read := timesAt_changeTimesBytes fit
    rw [changeTimesOf, count, read, if_pos]
    exact ⟨changeTimesBytes_length times, fit.count,
      List.all_eq_true.mpr fun x hx => decide_eq_true (fit.seconds x hx), (increasing_iff times).mpr fit.increasing⟩

/-! ### SET_CLOCK and SET_SHIFTS -/

theorem execSetClock_sent {r : Request} {s : State} (h : Sent [.desk] 5 r s) :
    exec (.setClock r) s = .next (settleReply .desk 0x68#8 (openRequest r s) (setClock r.body (openRequest r s))) :=
  (takeRequest_of_sent (row := Cmd.setClock) h (by decide) (by decide)).trans
    (by rw [List.mem_singleton.mp h.link]; rfl)

theorem setClock_range {b : List Byte} (s : State) (late : 86399 < u24 b 2) : setClock b s = .refuse .range :=
  if_pos late

theorem setClock_taken {b : List Byte} (s : State) (inDay : u24 b 2 ≤ 86399) :
    setClock b s =
      .done { s with su := { s.su with clock := ⟨u16 b 0, u24 b 2⟩, secondTimer := 1000 } }
        (be16 (u16 b 0) ++ be24 (u24 b 2)) :=
  if_neg inDay.not_gt

theorem setShifts_taken {b : List Byte} {times : List Nat} (s : State) (table : changeTimesOf b = some times) :
    setShifts b s = .done { s with su := { s.su with changeTimes := times } } (changeTimesBytes times) := by
  rw [setShifts, table]

theorem setShifts_range {b : List Byte} (s : State) (none : changeTimesOf b = none) :
    setShifts b s = .refuse .range := by
  rw [setShifts, none]

/-- A table that R164 accepts comes in a body of an accepted length (R176). -/
theorem changeTimesBytes_accepted {times : List Nat} (count : times.length ≤ 4) :
    (changeTimesBytes times).length ∈ Cmd.setShifts.lengths := by
  rw [changeTimesBytes_length]
  interval_cases times.length <;> decide

section
variable {r : Request} {s : State} (desk : r.link = .desk) (fits : r.body.length ≤ 60)
  (whole : s.deskLink.abandoned = none)
include desk fits whole

/-- On DESK a SET_SHIFTS body of an accepted length reaches the table. -/
theorem execSetShifts_accepted (length : r.body.length ∈ Cmd.setShifts.lengths) :
    exec (.setShifts r) s =
      .next (settleReply .desk 0x69#8 (openRequest r s) (setShifts r.body (openRequest r s))) := by
  have taken : exec (.setShifts r) s = _ := takeRequest_sent (row := Cmd.setShifts) (by rw [desk]; decide) length fits
    (by rw [desk]; exact whole)
  rw [taken, desk]
  rfl

/-- A body that carries no accepted table is refused RANGE, by its length or by its fields (R7, R164). -/
theorem execSetShifts_range (none : changeTimesOf r.body = none) :
    exec (.setShifts r) s = .next (giveAnswer .desk 0x69#8 .range [] (openRequest r s)) := by
  by_cases length : r.body.length ∈ Cmd.setShifts.lengths
  · rw [execSetShifts_accepted desk fits whole length, setShifts_range _ none, settleReply_refuse]
  · have refused : exec (.setShifts r) s = _ :=
      takeRequest_range (row := Cmd.setShifts) (by rw [desk]; decide) length fits (by rw [desk]; exact whole)
    rw [refused, desk]
    rfl

end

/-- Settles O52: SET_CLOCK by its second, the owner of both, and SET_SHIFTS by `changeTimesOf_iff`. -/
theorem clockAndTableLoaded : Obligations.ClockAndTableLoaded := by
  refine ⟨fun r s h => ⟨fun late => ?late, fun inDay => ?clock⟩, fun r s other fits whole => ?notOwner,
    fun r s desk fits whole => ⟨fun times body count seconds increases => ?table, fun none => ?range⟩⟩
  case late => rw [execSetClock_sent h, setClock_range _ late, settleReply_refuse]
  case clock => rw [execSetClock_sent h, setClock_taken _ inDay, settleReply_done, openRequest_su]
  case notOwner =>
    have foreign : r.link ∉ [Link.desk] := by simpa using other
    exact ⟨takeRequest_notOwner (row := Cmd.setClock) foreign fits whole,
      takeRequest_notOwner (row := Cmd.setShifts) foreign fits whole⟩
  case table =>
    have table : changeTimesOf r.body = some times := changeTimesOf_iff.mpr ⟨body, count, seconds, increases⟩
    have length : r.body.length ∈ Cmd.setShifts.lengths := body ▸ changeTimesBytes_accepted count
    rw [execSetShifts_accepted desk fits whole length, setShifts_taken _ table, settleReply_done, openRequest_su,
      body]
    rfl
  case range =>
    refine execSetShifts_range desk fits whole (Option.eq_none_iff_forall_ne_some.mpr fun times table => none ?_)
    obtain ⟨body, fit⟩ := changeTimesOf_iff.mp table
    exact ⟨times, body, fit.count, fit.seconds, fit.increasing⟩

end Sys2Proof.Machine
end

section
/-! PROOFS. Fields in bytes: what it is for a field to stand at a position of some bytes, how it is read from there
(R173), and the fields and lengths of the readouts (R176, R177). -/

namespace Sys2Proof.Machine

/-! ### Fields at their positions -/

/-- The bytes of a field stand in some bytes from a position on. -/
def StandsAt (field b : List Byte) (k : Nat) : Prop := field <+: b.drop k

namespace StandsAt

variable {field p q b : List Byte} {k j : Nat}

/-- The first field of a concatenation stands at its begin. -/
theorem first : StandsAt field (field ++ q) 0 := ⟨q, rfl⟩

theorem self : StandsAt field field 0 := ⟨[], List.append_nil field⟩

/-- Bytes in front move a field up by their number. -/
theorem behind (length : p.length = k) (h : StandsAt field q j) : StandsAt field (p ++ q) (k + j) := by
  subst length
  rwa [StandsAt, List.drop_length_add_append]

/-- The last field of a concatenation. -/
theorem last (length : p.length = k) : StandsAt field (p ++ field) k := behind length self

/-- Bytes behind move no field. -/
theorem before (h : StandsAt field p k) : StandsAt field (p ++ q) k := by
  rw [StandsAt, List.drop_append]
  exact h.trans ⟨_, rfl⟩

/-- A field of a record that itself stands at a position. -/
theorem within (h : StandsAt p b k) (inner : StandsAt field p j) : StandsAt field b (k + j) := by
  obtain ⟨q, hq⟩ := h
  rw [StandsAt, ← List.drop_drop, ← hq]
  exact inner.before

theorem moved (h : StandsAt field b k) (same : k = j) : StandsAt field b j := same ▸ h

/-- Records of one length each, laid out one behind the other. -/
theorem flatMap {α : Type} {f : α → List Byte} {n : Nat} (length : ∀ a, (f a).length = n) {l : List α} {i : Nat}
    {a : α} (found : l[i]? = some a) : StandsAt (f a) (l.flatMap f) (n * i) := by
  induction l generalizing i with
  | nil => cases found
  | cons x l ih =>
    cases i with
    | zero => cases found; exact first
    | succ i => rw [Nat.mul_succ, Nat.add_comm]; exact behind (length x) (ih found)

/-- A field of bytes that are fields one behind the other, behind the fields before it. -/
theorem flatten {fields : List (List Byte)} {n : Nat} (found : fields[n]? = some field) :
    StandsAt field fields.flatten ((fields.take n).map List.length).sum := by
  induction fields generalizing n with
  | nil => cases found
  | cons x fields ih =>
    cases n with
    | zero => cases found; exact first
    | succ n => exact behind rfl (ih found)

/-! ### Reading a field -/

/-- A byte of a field that stands at a position. -/
theorem getD (h : StandsAt field b k) (inside : j < field.length) : b.getD (k + j) 0 = field.getD j 0 := by
  obtain ⟨q, hq⟩ := h
  rw [List.getD_eq_getElem?_getD, ← List.getElem?_drop, ← hq, ← List.getD_eq_getElem?_getD,
    List.getD_append _ _ _ _ inside]

theorem u8_inside (h : StandsAt field b k) (inside : j < field.length) : u8 b (k + j) = u8 field j :=
  congrArg BitVec.toNat (h.getD inside)

/-- A single byte is read as it stands. -/
theorem readOne {x : Byte} (h : StandsAt [x] b k) : b.getD k 0 = x := h.getD (j := 0) Nat.one_pos

theorem read8 {v : Nat} (h : StandsAt (be8 v) b k) : u8 b k = v % 256 := h.u8_inside Nat.one_pos

/-- A number that fits a byte is read as it is. -/
theorem byte {v : Nat} (h : StandsAt (be8 v) b k) (fits : v < 256) : u8 b k = v :=
  h.read8.trans (Nat.mod_eq_of_lt fits)

theorem read16 {v : Nat} (h : StandsAt (be16 v) b k) : u16 b k = v % 65536 := by
  have high : u8 b k = v / 256 % 256 := (h.within first).read8
  have low : u8 b (k + 1) = v % 256 := (h.within (last rfl)).read8
  rw [u16, high, low]
  omega

theorem read24 {v : Nat} (h : StandsAt (be24 v) b k) : u24 b k = v % 16777216 := by
  have high : u8 b k = v / 65536 % 256 := (h.within first).read8
  have low : u16 b (k + 1) = v % 65536 := (h.within (last rfl)).read16
  rw [u24, high, low]
  omega

theorem read32 {v : Nat} (h : StandsAt (be32 v) b k) : u32 b k = v % 4294967296 := by
  have high : u16 b k = v / 65536 % 65536 := (h.within first).read16
  have low : u16 b (k + 2) = v % 65536 := (h.within (last rfl)).read16
  rw [u32, high, low]
  omega

theorem read48 {v : Nat} (h : StandsAt (be48 v) b k) : u48 b k = v % 281474976710656 := by
  have high : u16 b k = v / 4294967296 % 65536 := (h.within first).read16
  have low : u32 b (k + 2) = v % 4294967296 := (h.within (last rfl)).read32
  rw [u48, high, low]
  omega

theorem readS16 {v : Int} (h : StandsAt (beS16 v) b k) : (u16 b k : Int) = v % 65536 := by
  rw [h.read16]
  omega

theorem readS24 {v : Int} (h : StandsAt (beS24 v) b k) : (u24 b k : Int) = v % 16777216 := by
  rw [h.read24]
  omega

theorem readS32 {v : Int} (h : StandsAt (beS32 v) b k) : (u32 b k : Int) = v % 4294967296 := by
  rw [h.read32]
  omega

end StandsAt

/-! ### Layouts -/

/-- Some bytes are fields laid out one behind the other, each of its number of bytes. -/
structure LaidOut (b : List Byte) (fields : List (List Byte)) (widths : List Nat) : Prop where
  bytes : b = fields.flatten
  widths : fields.map List.length = widths

theorem LaidOut.length {b : List Byte} {fields : List (List Byte)} {widths : List Nat} (h : LaidOut b fields widths) :
    b.length = widths.sum := by
  rw [h.bytes, List.length_flatten, h.widths]

/-- The field of a number stands where the bytes of the fields before it end. -/
theorem LaidOut.field {b field : List Byte} {fields : List (List Byte)} {widths : List Nat} {k : Nat}
    (h : LaidOut b fields widths) (n : Nat) (found : fields[n]? = some field) (position : (widths.take n).sum = k) :
    StandsAt field b k := by
  subst position
  rw [h.bytes, ← h.widths, ← List.map_take]
  exact .flatten found

theorem flatMap_length {α : Type} {f : α → List Byte} {n : Nat} (length : ∀ a, (f a).length = n) (l : List α) :
    (l.flatMap f).length = n * l.length := by
  simp [List.length_flatMap, length, Nat.mul_comm]

theorem codeBytes_length (c : AlarmCode) : (codeBytes c).length = 2 := by
  cases c <;> rfl

/-! ### The fields of the readouts, in the order of R177 -/

theorem streamReadout_laidOut (i : Fin 8) (s : State) :
    LaidOut (streamReadout i s)
      [be8 i.val, be8 (siteByte (s.stream i).limits.site), be16 (s.stream i).limits.scale, be16 (s.stream i).limits.min,
        be16 (s.stream i).limits.max, be16 (s.stream i).limits.ramp, be8 (s.stream i).limits.lightOff,
        be8 (holdoffByte (s.stream i).limits.holdoff), be8 (s.stream i).limits.noFlowCount,
        be16 ((s.stream i).plan.ncv.getD 0), be8 (s.stream i).plan.weight, be8 (s.stream i).plan.rank,
        be16 (s.stream i).plan.pulseWeight, be8 (s.stream i).plan.band, be8 (s.stream i).plan.devCount,
        be8 (bit 0 (s.stream i).limitsSet + bit 1 (s.stream i).planSet + bit 2 (s.stream i).armed),
        be8 (firingByte (s.stream i).state), be8 (causeOptByte (s.stream i).cause), be16 (s.stream i).planned,
        be16 (s.stream i).output, be16 (s.stream i).rate, be16 (s.stream i).flow, be8 (calOptByte (s.stream i).cal),
        be8 (pollLineByte (s.stream i).poll.line),
        be8 (bit 0 ((s.stream i).poll.sense == .setWhenFalse) + bit 1 ((s.stream i).poll.cond == .unacked)),
        be16 s.computedWord.toNat, be16 s.expectedWord.toNat]
      [1, 1, 2, 2, 2, 2, 1, 1, 1, 2, 1, 1, 2, 1, 1, 1, 1, 1, 2, 2, 2, 2, 1, 1, 1, 2, 2] where
  bytes := by
    unfold streamReadout limitsBytes
    simp only [List.flatten_cons, List.flatten_nil, List.append_assoc, List.append_nil]
  widths := rfl

theorem partBytes_length (p : Option RoleHeat) : (partBytes p).length = 4 := by
  cases p <;> rfl

theorem siteReadout_laidOut (x : Site) (s : State) :
    LaidOut (siteReadout x s)
      [be8 (siteByte x), be24 (s.siteRec x).demand, be24 (s.siteRec x).effective, offerByte (s.siteRec x).setOffers[0],
        offerByte (s.siteRec x).setOffers[1], offerByte (s.siteRec x).setOffers[2],
        offerByte (s.siteRec x).setOffers[3], offerByte (s.siteRec x).holdbackOffer, be8 (s.siteRec x).largest,
        be8 (bit 0 (s.siteRec x).capActive + bit 1 (s.siteRec x).unplacedCond + 16 * periodByte s.period),
        beS24 (s.siteRec x).unplaced, be8 (s.siteRec x).unplacedCount, be16 (s.siteRec x).compCount,
        be8 (s.siteRec x).record.passes, beS24 (s.siteRec x).record.lastM,
        (s.siteRec x).record.parts.toList.flatMap partBytes]
      [1, 3, 3, 1, 1, 1, 1, 1, 1, 1, 3, 1, 2, 1, 3, 32] where
  bytes := by
    unfold siteReadout
    simp only [List.flatten_cons, List.flatten_nil, List.append_assoc, List.append_nil]
  widths := by
    simp only [List.map_cons, List.map_nil, flatMap_length partBytes_length, Vector.length_toList]
    rfl

theorem Entry.bytes_laidOut (e : Entry) :
    LaidOut e.bytes
      [codeBytes e.code, be8 (64 * e.priority.num + 16 * entryStateByte e.state + bit 0 e.active), e.raised.bytes,
        be8 e.count, be8 (detailByte e.detail), be16 (shelfSeconds e.shelf)]
      [2, 1, 5, 1, 1, 2] where
  bytes := by
    unfold Entry.bytes
    simp only [List.flatten_cons, List.flatten_nil, List.append_assoc, List.append_nil]
  widths := by
    rw [List.map_cons, codeBytes_length]
    rfl

theorem Entry.bytes_length (e : Entry) : e.bytes.length = 12 := e.bytes_laidOut.length

theorem AlarmUnit.window_length (a : AlarmUnit) (start : Nat) :
    (a.window start).length = min 4 (a.list.length - start) := by
  rw [AlarmUnit.window, List.length_take, List.length_drop]

theorem listReadBytes_laidOut (start : Nat) (a : AlarmUnit) :
    LaidOut (listReadBytes start a)
      [be8 a.list.length, be8 (bit 0 a.overflow + bit 1 a.silence), be8 (a.window start).length,
        (a.window start).flatMap Entry.bytes]
      [1, 1, 1, 12 * min 4 (a.list.length - start)] where
  bytes := by
    unfold listReadBytes
    simp only [List.flatten_cons, List.flatten_nil, List.append_assoc, List.append_nil]
  widths := by
    simp only [List.map_cons, List.map_nil, flatMap_length Entry.bytes_length, AlarmUnit.window_length]
    rfl

theorem firstOutBytes_laidOut {f : FirstOut} {c : Capture} (captured : f.captured = some c) :
    LaidOut (firstOutBytes f)
      [be8 (bit 0 true + 2 * firstOutModeByte f.mode), codeBytes c.code, be8 c.priority.num, be8 (detailByte c.detail),
        c.time.bytes, c.states.flatMap fun x => be8 (firingByte x)]
      [1, 2, 1, 1, 5, c.states.length] where
  bytes := by
    unfold firstOutBytes
    rw [captured]
    simp only [List.flatten_cons, List.flatten_nil, List.append_assoc, List.append_nil]
  widths := by
    have states : (c.states.flatMap fun x => be8 (firingByte x)).length = c.states.length :=
      (flatMap_length (n := 1) (fun _ => rfl) _).trans (Nat.one_mul _)
    rw [List.map_cons, List.map_cons, codeBytes_length]
    simp only [List.map_cons, List.map_nil, states]
    rfl

/-- The HEADER part of the open shift, the fields of a close that has not come being 0. -/
theorem openHeader_laidOut (u : ShiftUnit) :
    LaidOut (shiftPart u 0 none)
      [be32 u.shift.number, be8 0, u.shift.opened.bytes, ClockTime.bytes ⟨0, 0⟩, be32 u.shift.burnMain,
        be32 u.shift.burnCalc, be32 u.shift.strokes, be32 u.shift.clinker, be16 u.shift.alarmsP1, be16 u.shift.alarmsP2,
        be16 u.shift.alarmsP3, be16 u.shift.trips, be16 u.shift.cals, be32 0, be32 u.shift.number, u.clock.bytes]
      [4, 1, 5, 5, 4, 4, 4, 4, 2, 2, 2, 2, 2, 4, 4, 5] where
  bytes := by
    have closed : List.replicate 5 0x00#8 = ClockTime.bytes ⟨0, 0⟩ := rfl
    have shc : List.replicate 4 0x00#8 = be32 0 := rfl
    unfold shiftPart openHeader openStateByte headerEnd
    simp only [closed, shc, List.flatten_cons, List.flatten_nil, List.append_assoc, List.append_nil]
  widths := rfl

theorem closedHeader_laidOut (u : ShiftUnit) (c : ClosedShift) :
    LaidOut (shiftPart u 0 (some c))
      [be32 c.number, closedStateByte c, c.opened.bytes, c.closed.bytes, be32 c.burnMain, be32 c.burnCalc,
        be32 c.strokes, be32 c.clinker, be16 c.alarmsP1, be16 c.alarmsP2, be16 c.alarmsP3, be16 c.trips, be16 c.cals,
        be32 (c.shc.getD 0), be32 u.shift.number, u.clock.bytes]
      [4, 1, 5, 5, 4, 4, 4, 4, 2, 2, 2, 2, 2, 4, 4, 5] where
  bytes := by
    unfold shiftPart closedHeader headerEnd
    simp only [List.flatten_cons, List.flatten_nil, List.append_assoc, List.append_nil]
  widths := rfl

theorem openFeed_laidOut (u : ShiftUnit) (k : Nat) :
    LaidOut (shiftPart u (k + 1) none)
      [be32 u.shift.number, be8 0,
        feedBytes (u.shift.mass.toList.map massKg) (u.shift.heat.toList.map heatMj) (4 * k)]
      [4, 1, 48] where
  bytes := by
    unfold shiftPart openFeed openStateByte
    simp only [List.flatten_cons, List.flatten_nil, List.append_assoc, List.append_nil]
  widths := rfl

theorem closedFeed_laidOut (u : ShiftUnit) (k : Nat) (c : ClosedShift) :
    LaidOut (shiftPart u (k + 1) (some c)) [be32 c.number, closedStateByte c, feedBytes c.mass c.heat (4 * k)]
      [4, 1, 48] where
  bytes := by
    unfold shiftPart closedFeed
    simp only [List.flatten_cons, List.flatten_nil, List.append_assoc, List.append_nil]
  widths := rfl

theorem calRecordBytes_laidOut (c : CalRecord) :
    LaidOut (calRecordBytes (some c))
      [c.start.bytes, be16 c.frozen, be16 c.startWeight, be32 c.pulses, be32 c.elapsed] [5, 2, 2, 4, 4] where
  bytes := by
    unfold calRecordBytes
    simp only [List.flatten_cons, List.flatten_nil, List.append_assoc, List.append_nil]
  widths := rfl

theorem calRecordBytes_length (c : Option CalRecord) : (calRecordBytes c).length = 17 := by
  cases c <;> rfl

theorem windowBytes_length (ring : List WindowEntry) (k : Fin 8) : (windowBytes ring k).length = 4 := by
  unfold windowBytes
  split <;> rfl

theorem calReadout_laidOut (x : Stream) :
    LaidOut (calReadout x)
      [be8 (calOptByte x.cal + 16 * x.retCounter + bit 7 x.devCond), calRecordBytes x.cal, be16 x.plan.pulseWeight,
        be8 (16 * x.fill + x.ring.length), be8 x.devCounter, be8 x.noFlowCounter, all8.flatMap (windowBytes x.ring)]
      [1, 17, 2, 1, 1, 1, 32] where
  bytes := by
    unfold calReadout
    simp only [List.flatten_cons, List.flatten_nil, List.append_assoc, List.append_nil]
  widths := by
    simp only [List.map_cons, List.map_nil, calRecordBytes_length, flatMap_length (windowBytes_length x.ring)]
    rfl

theorem slotReadout_laidOut (n : Fin 8) (s : State) :
    LaidOut (slotReadout n s)
      [be8 0x00, be8 n.val, beS16 (s.slot n).low, beS16 (s.slot n).high, be8 (s.slot n).staleTime,
        beS16 (s.slot n).value, be8 (bit 0 (s.slot n).isStale + bit 1 (s.slot n).alarm),
        be16 (timerMs (s.slot n).timer), be8 (streamSet fun k => (s.slot k).isStale)]
      [1, 1, 2, 2, 1, 2, 1, 2, 1] where
  bytes := by
    unfold slotReadout
    simp only [List.flatten_cons, List.flatten_nil, List.append_assoc, List.append_nil]
  widths := rfl

theorem setReadout_laidOut (k : Fin 4) (s : State) :
    LaidOut (setReadout k s)
      [be8 0x01, be8 k.val, be8 (flagByte (s.cutSet k).enable), be8 (s.cutSet k).slot.val,
        be8 (cutSenseByte (s.cutSet k).sense), beS16 (s.cutSet k).threshold, be16 (s.cutSet k).hysteresis,
        be8 (s.cutSet k).delay, be8 (cutSitesByte (s.cutSet k).sites), be8 (s.cutSet k).cut,
        be8 (setStateByte (s.cutSet k).state), be8 (delayTimerByte (s.cutSet k).timer),
        be16 (delayTimerMs (s.cutSet k).timer), beS16 (s.slot (s.cutSet k).slot).value,
        be8 (flagByte (s.slot (s.cutSet k).slot).isStale)]
      [1, 1, 1, 1, 1, 2, 2, 1, 1, 1, 1, 1, 2, 2, 1] where
  bytes := by
    unfold setReadout
    simp only [List.flatten_cons, List.flatten_nil, List.append_assoc, List.append_nil]
  widths := rfl

theorem generalReadout_laidOut (s : State) :
    LaidOut (generalReadout s)
      [be8 0x00, be8 (coolerModeByte s.cooler.mode), be16 s.cooler.settings.target, be16 s.cooler.settings.base,
        be8 s.cooler.settings.gain, be16 s.cooler.settings.holdbackPressure, be16 s.cooler.settings.holdbackTime,
        be8 s.cooler.settings.holdbackCut, be16 s.cooler.settings.clinkerPerStroke, be8 s.cooler.settings.slot.val,
        beS16 (s.slot s.cooler.settings.slot).value,
        be8 (bit 0 (s.slot s.cooler.settings.slot).isStale + bit 1 s.cooler.pressureCause + bit 2 s.cooler.stallCause +
          bit 3 s.cooler.stopCause + bit 4 s.cooler.holdback),
        beS32 s.cooler.lastRaw, be16 s.cooler.pressureCount, be8 s.cooler.stopContacts.length,
        be8 (if s.cooler.holdback then s.cooler.settings.holdbackCut else 0), be32 s.cooler.strokes,
        be32 s.cooler.clinker]
      [1, 1, 2, 2, 1, 2, 2, 1, 2, 1, 2, 1, 4, 2, 1, 1, 4, 4] where
  bytes := by
    unfold generalReadout settingsBytes
    simp only [List.flatten_cons, List.flatten_nil, List.append_assoc, List.append_nil]
  widths := rfl

theorem sectionBytes_laidOut (ratio : Nat) (x : Section) :
    LaidOut (sectionBytes ratio x)
      [be16 x.smin, be16 x.smax, be8 x.step, be8 ratio, be16 x.manual, be16 x.output, be8 (flagByte x.stalled),
        be16 (timerMs x.stall)]
      [2, 2, 1, 1, 2, 2, 1, 2] where
  bytes := by
    unfold sectionBytes
    simp only [List.flatten_cons, List.flatten_nil, List.append_assoc, List.append_nil]
  widths := rfl

theorem sectionBytes_length (ratio : Nat) (x : Section) : (sectionBytes ratio x).length = 13 :=
  (sectionBytes_laidOut ratio x).length

theorem sectionsReadout_laidOut (c : Cooler) :
    LaidOut (sectionsReadout c)
      [be8 0x01, sectionBytes 0 c.sections[0], sectionBytes c.ratios[0] c.sections[1],
        sectionBytes c.ratios[1] c.sections[2], sectionBytes c.ratios[2] c.sections[3]]
      [1, 13, 13, 13, 13] where
  bytes := by
    unfold sectionsReadout
    simp only [List.flatten_cons, List.flatten_nil, List.append_assoc, List.append_nil]
  widths := by
    simp only [List.map_cons, List.map_nil, sectionBytes_length]
    rfl

theorem contactReadout_laidOut (k : Fin 24) (s : State) :
    LaidOut (contactReadout k s)
      [be8 k.val, be8 (roleByte (s.contact k).role), be8 (levelByte (s.contact k).normal),
        be8 (s.contact k).priority.num, [(s.contact k).mask], be8 (s.contact k).debounce,
        be8 (flagByte (s.contact k).slow), be8 (s.contact k).stateByte, be8 (s.contact k).count,
        be24 (contactSet fun j => (s.contact j).accepted == .closed), be24 (contactSet fun j => (s.contact j).abnormal),
        be24 (contactSet fun j => (s.contact j).forced)]
      [1, 1, 1, 1, 1, 1, 1, 1, 1, 3, 3, 3] where
  bytes := by
    unfold contactReadout
    simp only [List.flatten_cons, List.flatten_nil, List.append_assoc, List.append_nil]
  widths := rfl

theorem coolerBytes_laidOut (c : Cooler) :
    LaidOut (coolerBytes c)
      [be8 (coolerModeByte c.mode), be16 c.sections[0].output, be16 c.sections[1].output, be16 c.sections[2].output,
        be16 c.sections[3].output]
      [1, 2, 2, 2, 2] where
  bytes := by
    unfold coolerBytes
    simp only [List.flatten_cons, List.flatten_nil, List.append_assoc, List.append_nil]
  widths := rfl

/-- The bytes of an answer: length, echo, result, summary, body and CRC (R174). -/
theorem Answer.bytes_laidOut (a : Answer) :
    LaidOut a.bytes [be8 (6 + a.body.length), [a.echo], be8 (resultByte a.result), a.summary.bytes, a.body,
        [crc8 a.head]]
      [1, 1, 1, 3, a.body.length, 1] where
  bytes := by
    unfold Answer.bytes
    generalize crc8 a.head = crc
    unfold Answer.head
    simp only [List.flatten_cons, List.flatten_nil, List.append_assoc, List.append_nil]
  widths := rfl

/-! ### Lengths -/

theorem shiftPart_header_length (u : ShiftUnit) (c : Option ClosedShift) : (shiftPart u 0 c).length = 54 := by
  cases c with
  | none => exact (openHeader_laidOut u).length
  | some c => exact (closedHeader_laidOut u c).length

theorem shiftPart_streams_length (u : ShiftUnit) (k : Nat) (c : Option ClosedShift) :
    (shiftPart u (k + 1) c).length = 53 := by
  cases c with
  | none => exact (openFeed_laidOut u k).length
  | some c => exact (closedFeed_laidOut u k c).length

theorem listReadBytes_length (start : Nat) (a : AlarmUnit) :
    (listReadBytes start a).length = 3 + 12 * min 4 (a.list.length - start) := by
  rw [(listReadBytes_laidOut start a).length]
  simp only [List.sum_cons, List.sum_nil]
  omega

theorem firstOutBytes_length {f : FirstOut} (states : ∀ c, f.captured = some c → c.states.length = 8) :
    (firstOutBytes f).length = 18 := by
  cases captured : f.captured with
  | none => rw [firstOutBytes, captured]; rfl
  | some c => rw [(firstOutBytes_laidOut captured).length, states c captured]; rfl

theorem Answer.bytes_length (a : Answer) : a.bytes.length = 7 + a.body.length := by
  rw [a.bytes_laidOut.length]
  simp only [List.sum_cons, List.sum_nil]
  omega

end Sys2Proof.Machine
end

section
/-! PROOFS. What every command does to the pending answers: it leaves them, or it forms one whose body fits the frame,
and every first-out capture holds the states of eight streams. So every step keeps the answers within the frame (O7; 01,
1.3, R154, R174 to R177). -/

namespace Sys2Proof.Machine

/-! ### States that keep the answers sound -/

/-- The pending answers of the three links. -/
def State.answers (s : State) : Answer × Answer × Answer := (s.procLink.answer, s.safeLink.answer, s.deskLink.answer)

/-- From `s` to `t` sound answers stay sound. -/
def AnswersKept (s t : State) : Prop := AnswersSound s → AnswersSound t

/-- An offer captures the states of as many streams as are offered with it (R154). -/
theorem FirstOut.offer_states {f : FirstOut} {n : Nat} (h : ∀ c, f.captured = some c → c.states.length = n)
    (r : Raise) (now : ClockTime) {states : List FiringState} (offered : states.length = n) (c : Capture)
    (captured : (f.offer r now states).captured = some c) : c.states.length = n := by
  unfold FirstOut.offer at captured
  dsimp only at captured
  split at captured
  · cases captured; exact offered
  · exact h c captured

theorem State.firingStates_length (s : State) : s.firingStates.length = 8 := by
  rw [State.firingStates, List.length_map, Vector.length_toList]

namespace AnswersKept

theorem of_link {s t : State} (answer : ∀ l, (t.link l).answer = (s.link l).answer)
    (firstOut : t.au.firstOut = s.au.firstOut) : AnswersKept s t := fun sound =>
  ⟨fun l => by rw [answer]; exact sound.body l, by rw [firstOut]; exact sound.states⟩

theorem of_eq {s t : State} (answers : t.answers = s.answers) (firstOut : t.au.firstOut = s.au.firstOut) :
    AnswersKept s t := by
  simp only [State.answers, Prod.mk.injEq] at answers
  obtain ⟨proc, safe, desk⟩ := answers
  refine of_link (fun l => ?_) firstOut
  cases l
  · exact proc
  · exact safe
  · exact desk

theorem refl (s : State) : AnswersKept s s := id

theorem trans {s t u : State} (h : AnswersKept s t) (k : AnswersKept t u) : AnswersKept s u := k ∘ h

/-- After a change of what is neither an answer nor the first-out record. -/
theorem after {s t u : State} (h : AnswersKept t u) (answers : t.answers = s.answers)
    (firstOut : t.au.firstOut = s.au.firstOut) : AnswersKept s u := (of_eq answers firstOut).trans h

/-- Before a change of what is neither an answer nor the first-out record. -/
theorem before {s t u : State} (h : AnswersKept s t) (answers : u.answers = t.answers)
    (firstOut : u.au.firstOut = t.au.firstOut) : AnswersKept s u := h.trans (of_eq answers firstOut)

/-- A change of a link unit outside its answer. -/
theorem modLink {l : Link} {f : LinkUnit → LinkUnit} {s : State} (same : ∀ u, (f u).answer = u.answer) :
    AnswersKept s (s.modLink l f) := by
  refine of_link (fun j => ?_) rfl
  rw [State.modLink_link]
  split
  case isTrue own => rw [same, own]
  case isFalse => rfl

/-- A raise is offered to the first-out record with the firing states of the eight streams (R154). -/
theorem raiseAlarm {s t : State} (h : AnswersKept s t) (r : Raise) : AnswersKept s (Machine.raiseAlarm r t) :=
  h.trans fun sound => ⟨fun l => by rw [raiseAlarm_link]; exact sound.body l,
    FirstOut.offer_states sound.states r _ t.firingStates_length⟩

theorem clearAlarm {s t : State} (h : AnswersKept s t) (c : AlarmCode) : AnswersKept s (Machine.clearAlarm c t) :=
  h.before rfl (t.au.clear_firstOut c)

theorem foldl {α : Type} {f : State → α → State} (h : ∀ s a, AnswersKept s (f s a)) (l : List α) (s : State) :
    AnswersKept s (l.foldl f s) := by
  induction l generalizing s with
  | nil => exact .refl s
  | cons a l ih => exact (h s a).trans (ih (f s a))

end AnswersKept

/-! ### Trips and withdrawals -/

theorem trip_answers (i : Fin 8) (c : TripCause) (s : State) : AnswersKept s (trip i c s) := fun sound => by
  refine ⟨fun l => ?_, ?_⟩
  · rw [trip_link]
    exact sound.body l
  · rw [trip_au]
    exact FirstOut.offer_states sound.states (tripRaise i c) s.su.clock s.firingStates_length

theorem withdraw_answers (c : TripCause) (i : Fin 8) (s : State) : AnswersKept s (withdraw c i s) := by
  unfold withdraw
  split
  · exact trip_answers i c s
  · split <;> exact .of_eq rfl rfl

theorem withdrawAll_answers (c : TripCause) (s : State) : AnswersKept s (withdrawAll c s) :=
  .foldl (fun s i => withdraw_answers c i s) all8 s

theorem reportInterlocks_answers (p : Fin 8 → Bool) (s : State) : AnswersKept s (reportInterlocks p s) := by
  refine .foldl (fun s i => ?_) all8 s
  split
  · exact withdraw_answers .interlock i s
  · exact .refl s

/-! ### The cooler and the contacts -/

/-- Holdback raises and clears COOLER_HOLDBACK, and offers reach no answer (R125). -/
theorem refreshHoldback_answers (s : State) : AnswersKept s (refreshHoldback s) := by
  have begun : AnswersKept s (s.modCooler fun c => { c with holdback := true }) := .of_eq rfl rfl
  have ended : AnswersKept s (offerCut .both .holdback none
      (s.modCooler fun c => { c with holdback := false })) := .of_eq rfl rfl
  unfold refreshHoldback
  split
  · exact (begun.raiseAlarm holdbackRaise).before rfl rfl
  split
  · exact ended.clearAlarm .coolerHoldback
  · exact .refl s

theorem stopReported_answers (k : Fin 24) (s : State) : AnswersKept s (stopReported k s) := by
  by_cases present : k ∈ s.cooler.stopContacts
  · rw [stopReported_present present]
    exact .refl s
  · rw [stopReported_joins present]
    exact (refreshHoldback_answers _).after rfl rfl

theorem stopReturned_answers (k : Fin 24) (s : State) : AnswersKept s (stopReturned k s) := by
  unfold stopReturned
  split
  · exact (refreshHoldback_answers _).after rfl rfl
  · exact .refl s

theorem raiseContact_answers (k : Fin 24) (s : State) : AnswersKept s (raiseContact k s) :=
  have written : AnswersKept s (s.modContact k fun c => { c with cond := true }) := .of_eq rfl rfl
  written.raiseAlarm _

theorem clearContact_answers (k : Fin 24) (s : State) : AnswersKept s (clearContact k s) :=
  have written : AnswersKept s (s.modContact k fun c => { c with cond := false }) := .of_eq rfl rfl
  written.clearAlarm _

theorem goesAbnormal_answers (k : Fin 24) (s : State) : AnswersKept s (goesAbnormal k s) := by
  have raised := raiseContact_answers k s
  unfold goesAbnormal
  split
  · exact .refl s
  · exact raised
  · exact raised.trans (reportInterlocks_answers _ _)
  · exact raised.trans (stopReported_answers k _)

theorem returnsNormal_answers (k : Fin 24) (s : State) : AnswersKept s (returnsNormal k s) := by
  have cleared := clearContact_answers k s
  unfold returnsNormal
  split
  · exact .refl s
  · exact cleared
  · exact cleared
  · exact cleared.trans (stopReturned_answers k _)

theorem sampleContact_answers (k : Fin 24) (level : Level) (s : State) :
    AnswersKept s (sampleContact k level s) := by
  have sampled : AnswersKept s (s.modContact k (Contact.sampled level)) := .of_eq rfl rfl
  unfold sampleContact actOnReading
  split; swap; · exact sampled
  split
  · exact sampled.trans (goesAbnormal_answers k _)
  · exact sampled.trans (returnsNormal_answers k _)

theorem scanContacts_answers (levels : BitVec 24) (s : State) : AnswersKept s (scanContacts levels s) := by
  refine .foldl (fun s k => ?_) all24 s
  split
  · exact sampleContact_answers k _ s
  · exact .refl s

theorem settleCondition_answers (k : Fin 24) (before : Bool) (s : State) :
    AnswersKept s (settleCondition k before s) := by
  unfold settleCondition
  split
  · exact clearContact_answers k s
  split
  · exact raiseContact_answers k s
  · exact .refl s

theorem settleStop_answers (k : Fin 24) (old new : Contact) (s : State) : AnswersKept s (settleStop k old new s) := by
  unfold settleStop
  split
  · exact stopReturned_answers k s
  split
  · exact stopReported_answers k s
  · exact .refl s

theorem replaceContact_answers (k : Fin 24) (new : Contact) (s : State) : AnswersKept s (replaceContact k new s) := by
  have written : AnswersKept s (s.modContact k fun _ => new) := .of_eq rfl rfl
  exact written.trans <| (settleCondition_answers k _ _).trans <|
    (reportInterlocks_answers _ _).trans (settleStop_answers k _ new _)

theorem force_answers (k : Fin 24) (s : State) : AnswersKept s (force k s) := by
  have forced : AnswersKept s (s.modContact k fun c => { c with forced := true }) := .of_eq rfl rfl
  have noted (u : State) (kept : AnswersKept s u) :
      AnswersKept s (u.modContact k fun c => { c with forcedCond := true }) := kept.before rfl rfl
  unfold force
  refine (noted _ ?_).raiseAlarm (forcedRaise k)
  split
  · exact forced.trans (returnsNormal_answers k _)
  · exact forced

theorem liftForce_answers (k : Fin 24) (s : State) : AnswersKept s (liftForce k s) := by
  have written : AnswersKept s (s.modContact k fun c => { c with forced := false, forcedCond := false }) :=
    .of_eq rfl rfl
  have lifted := written.clearAlarm (.contactForced k)
  unfold liftForce
  dsimp only
  split
  · exact lifted.trans (goesAbnormal_answers k _)
  · exact lifted

/-! ### Slots and cutback sets -/

theorem activate_answers (k : Fin 4) (s : State) : AnswersKept s (activate k s) := by
  have active : AnswersKept s (s.modSet k fun c => { c with state := .active, timer := .stopped }) := .of_eq rfl rfl
  exact (active.raiseAlarm (cutbackRaise k)).before rfl rfl

theorem deactivate_answers (k : Fin 4) (s : State) : AnswersKept s (deactivate k s) := by
  have withdrawn : AnswersKept s (offerCut (s.cutSet k).sites (.set k) none s) := .of_eq rfl rfl
  exact (withdrawn.clearAlarm (.cutback k)).before rfl rfl

theorem testIdle_answers (k : Fin 4) (v : Int) (s : State) : AnswersKept s (testIdle k v s) := by
  unfold testIdle
  split; swap; · exact .refl s
  split
  · exact activate_answers k s
  · exact .of_eq rfl rfl

theorem freshValue_answers (v : Int) (k : Fin 4) (s : State) : AnswersKept s (freshValue v k s) := by
  unfold freshValue
  split
  · exact .refl s
  · exact testIdle_answers k v s
  · split <;> exact .of_eq rfl rfl
  · split
    · exact deactivate_answers k s
    · exact .refl s

theorem handFresh_answers (n : Fin 8) (s : State) : AnswersKept s (handFresh n s) := by
  refine .foldl (fun s k => ?_) all4 s
  split
  · exact freshValue_answers _ k s
  · exact .refl s

theorem handStale_answers (n : Fin 8) (s : State) : AnswersKept s (handStale n s) := by
  rw [handStale_frame]
  exact .of_eq rfl rfl

theorem rewriteSet_answers (k : Fin 4) (c : CutSet) (s : State) : AnswersKept s (rewriteSet k c s) := by
  have withdrawn : AnswersKept s (if (s.cutSet k).state = .active then deactivate k s else s) := by
    split
    · exact deactivate_answers k s
    · exact .refl s
  have written := withdrawn.trans (.of_eq (t := State.modSet k (fun _ => c) _) rfl rfl)
  unfold rewriteSet
  dsimp only
  split
  · exact written.trans (testIdle_answers k _ _)
  · exact written

/-! ### The dosing period -/

theorem periodClose_answers (s : State) (i : Fin 8) : AnswersKept s (periodClose s i) := by
  have booked : AnswersKept s (State.modStream i (Stream.closed s.period.ms)
      (State.modShift (OpenShift.bookFeed i (s.stream i).periodMass (s.stream i).periodHeat) s)) := .of_eq rfl rfl
  unfold periodClose reportDeviation
  split
  · exact booked.raiseAlarm _
  split
  · exact booked.clearAlarm _
  · exact booked

theorem dose_answers (x : Site) (s : State) : AnswersKept s (dose x s) := by
  have written (a : Allocation) :
      AnswersKept s (writeResults x a { s with streams := lowerStreams x s.streams }) := .of_eq rfl rfl
  unfold dose computeSite reportUnplaced
  split
  · exact (written _).raiseAlarm _
  split
  · exact (written _).clearAlarm _
  · exact written _

theorem dosingPeriod_answers (s : State) :
    AnswersKept s (dose .calc (dose .main (periodCloses { s with dosingTimer := s.period.ms }))) := by
  have restarted : AnswersKept s { s with dosingTimer := s.period.ms } := .of_eq rfl rfl
  exact restarted.trans <| (AnswersKept.foldl periodClose_answers all8 _).trans <|
    (dose_answers .main _).trans (dose_answers .calc _)

/-! ### Shelves -/

theorem endShelf_answers (e : Entry) (s : State) : AnswersKept s (endShelf e s) := by
  unfold endShelf AlarmUnit.endShelf
  split <;> exact .of_eq rfl rfl

/-! ### Resets -/

/-- A reset leaves RESET answers of one byte and an empty first-out record, whatever it found (R15, R16). -/
theorem resetAll_answers (cause : ResetCause) (p q d : Option Nat) (s : State) :
    AnswersKept s (resetAll cause p q d s) := fun _ => by
  refine ⟨fun l => ?_, fun _ captured => nomatch captured⟩
  rw [resetAll_link]
  exact show 1 ≤ 56 by decide

/-! ### Requests and their answers -/

/-- A block takes a command into a state that keeps the answers sound, with a body that fits an answer (R174), or
refuses it. -/
inductive Reply.Fits (s : State) : Reply → Prop
  | refuse {c : ResultCode} : Reply.Fits s (.refuse c)
  | take {t : State} {c : ResultCode} {b : List Byte} (kept : AnswersKept s t)
      (body : AnswersSound s → b.length ≤ 56) : Reply.Fits s (.take t c b)

/-- A body of a length known from its fields alone. -/
theorem Reply.Fits.short {s t : State} {c : ResultCode} {b : List Byte} (n : Nat) (kept : AnswersKept s t)
    (length : b.length = n)
    (fits : n ≤ 56 := by decide) : Reply.Fits s (.take t c b) :=
  .take kept fun _ => length.le.trans fits

/-- A block that reaches neither an answer nor the first-out record, and answers with a body of fixed length. -/
theorem Reply.Fits.plain {s t : State} {c : ResultCode} {b : List Byte} (answers : t.answers = s.answers)
    (firstOut : t.au.firstOut = s.au.firstOut) (fits : b.length.ble 56 = true) : Reply.Fits s (.take t c b) :=
  .take (.of_eq answers firstOut) fun _ => Nat.le_of_ble_eq_true fits

theorem onStream_fits {act : Fin 8 → State → Reply} {s : State} (h : ∀ i, (act i s).Fits s) (b : List Byte) :
    (onStream b act s).Fits s := by
  unfold onStream
  split
  · exact h _
  · exact .refuse

theorem onContact_fits {act : Fin 24 → State → Reply} {s : State} (h : ∀ k, (act k s).Fits s) (b : List Byte) :
    (onContact b act s).Fits s := by
  unfold onContact
  split
  · exact h _
  · exact .refuse

theorem onCode_fits {act : AlarmCode → State → Reply} {s : State} (h : ∀ c, (act c s).Fits s) (b : List Byte) :
    (onCode b act s).Fits s := by
  unfold onCode
  split
  · exact h _
  · exact .refuse

theorem onEntry_fits {c : AlarmCode} {s : State} {act : Entry → Reply} (h : ∀ e, (act e).Fits s) :
    (onEntry c s act).Fits s := by
  unfold onEntry
  split
  · exact h _
  · exact .refuse

/-- Opening a request shifts out the pending answer and leaves it in place (R5). -/
theorem openRequest_answers (r : Request) (s : State) : AnswersKept s (openRequest r s) := by
  by_cases safe : r.link = .safe
  · exact .of_link (fun l => by rw [openRequest_link_safe s safe l]) (openRequest_firstOut r s)
  · rw [openRequest_eq_modLink s safe]
    exact .modLink fun _ => rfl

theorem giveAnswer_sound {s : State} {l : Link} {code : Byte} {c : ResultCode} {body : List Byte}
    (sound : AnswersSound s) (fits : body.length ≤ 56) : AnswersSound (giveAnswer l code c body s) := by
  refine ⟨fun j => ?_, sound.states⟩
  by_cases own : j = l
  · subst own
    rw [giveAnswer_link]
    exact fits
  · rw [giveAnswer_link_other _ _ _ _ own]
    exact sound.body j

/-- An answer that refuses has an empty body (R7). -/
theorem AnswersKept.giveAnswer {s t : State} (h : AnswersKept s t) (l : Link) (code : Byte) (c : ResultCode) :
    AnswersKept s (Machine.giveAnswer l code c [] t) := fun sound => giveAnswer_sound (h sound) (Nat.zero_le 56)

theorem shiftOut_answers (l : Link) (n : Nat) (s : State) : AnswersKept s (shiftOut l n s) := .modLink fun _ => rfl

theorem endAbandoned_answers (l : Link) (n : Nat) (s : State) : AnswersKept s (endAbandoned l n s) :=
  .modLink fun _ => rfl

theorem takeRequest_answers {row : CommandRow} {r : Request} {act : State → Reply} {s t : State}
    (h : takeRequest row r act s = .next t) (fits : ∀ s, (act s).Fits s) : AnswersKept s t := by
  have opened := openRequest_answers r s
  obtain ⟨-, rfl | ⟨-, ⟨-, rfl⟩ | ⟨-, -, rfl⟩ | ⟨-, -, rfl⟩⟩⟩ := takeRequest_next h
  · exact endAbandoned_answers _ _ s
  · exact opened.giveAnswer _ _ _
  · exact opened.giveAnswer _ _ _
  · cases reply : act (openRequest r s) with
    | refuse c => exact opened.giveAnswer _ _ _
    | take u c b =>
      have taken := fits (openRequest r s)
      rw [reply] at taken
      cases taken with
      | take kept body => exact fun sound => giveAnswer_sound (kept (opened sound)) (body (opened sound))

theorem takeRequest_onStream_answers {row : CommandRow} {r : Request} {act : Fin 8 → State → Reply} {s t : State}
    (h : takeRequest row r (onStream r.body act) s = .next t) (fits : ∀ i s, (act i s).Fits s) : AnswersKept s t :=
  takeRequest_answers h fun s => onStream_fits (fun i => fits i s) _

theorem takeRequest_onContact_answers {row : CommandRow} {r : Request} {act : Fin 24 → State → Reply} {s t : State}
    (h : takeRequest row r (onContact r.body act) s = .next t) (fits : ∀ k s, (act k s).Fits s) : AnswersKept s t :=
  takeRequest_answers h fun s => onContact_fits (fun k => fits k s) _

theorem takeRequest_onCode_answers {row : CommandRow} {r : Request} {act : AlarmCode → State → Reply} {s t : State}
    (h : takeRequest row r (onCode r.body act) s = .next t) (fits : ∀ c s, (act c s).Fits s) : AnswersKept s t :=
  takeRequest_answers h fun s => onCode_fits (fun c => fits c s) _

/-! ### The READ commands -/

theorem readSite_fits (b : List Byte) (s : State) : (readSite b s).Fits s := by
  unfold readSite
  split
  case h_1 => exact .refuse
  case h_2 x _ => exact .short 56 (.refl s) (siteReadout_laidOut x s).length

theorem readMeas_fits (b : List Byte) (s : State) : (readMeas b s).Fits s := by
  unfold readMeas
  split
  · split
    case h_1 n _ => exact .short 13 (.refl s) (slotReadout_laidOut n s).length
    case h_2 => exact .refuse
  · split
    case h_1 k _ => exact .short 19 (.refl s) (setReadout_laidOut k s).length
    case h_2 => exact .refuse
  · exact .refuse

theorem readCooler_fits (b : List Byte) (s : State) : (readCooler b s).Fits s := by
  unfold readCooler
  split
  · exact .short 34 (.refl s) (generalReadout_laidOut s).length
  · exact .short 53 (.refl s) (sectionsReadout_laidOut s.cooler).length
  · exact .refuse

theorem shiftPart_length_le (u : ShiftUnit) (selector : Nat) (c : Option ClosedShift) :
    (shiftPart u selector c).length ≤ 56 := by
  cases selector with
  | zero => exact (shiftPart_header_length u c).le.trans (by decide)
  | succ k => exact (shiftPart_streams_length u k c).le.trans (by decide)

theorem readShift_fits (b : List Byte) (s : State) : (readShift b s).Fits s := by
  unfold readShift
  split; · exact .refuse
  split; · exact .take (.refl s) fun _ => shiftPart_length_le _ _ _
  split
  · exact .take (.refl s) fun _ => shiftPart_length_le _ _ _
  · exact .refuse

/-- A readout of the alarm list carries at most four entries (R157). -/
theorem listReadBytes_length_le (start : Nat) (a : AlarmUnit) : (listReadBytes start a).length ≤ 56 := by
  rw [listReadBytes_length]
  omega

theorem listRead_fits (l : Link) (b : List Byte) (s : State) : (listRead l b s).Fits s := by
  unfold listRead
  split; · exact .refuse
  refine .take ?_ fun _ => listReadBytes_length_le _ _
  split
  · exact .modLink fun _ => rfl
  · exact .refl s

theorem readFirstout_fits (s : State) : (readFirstout s).Fits s :=
  .take (.refl s) fun sound => (firstOutBytes_length sound.states).le.trans (by decide)

/-! ### The commands of the Stream Table and of the firing states -/

theorem fired_fits {s t : State} (i : Fin 8) (kept : AnswersKept s t) : (fired i t).Fits s := .short 2 kept rfl

theorem release_fits (i : Fin 8) (s : State) : (release i s).Fits s := by
  have off : AnswersKept s (s.modStream i fun x => { x with state := .off, cause := none }) := .of_eq rfl rfl
  unfold release
  split
  · exact .short 3 (off.clearAlarm _) rfl
  · exact .refuse

theorem flame_fits (b : List Byte) (s : State) : (flame b s).Fits s := by
  refine onStream_fits (fun i => ?_) b
  unfold flameProven flameLost
  split
  · split
    · exact fired_fits i (.of_eq rfl rfl)
    · split <;> exact .refuse
  · split
    · exact fired_fits i (trip_answers i .flameLost s)
    · exact fired_fits i (.refl s)
  · exact .refuse

/-! ### The commands of the Alarm Unit -/

theorem ack_fits (c : AlarmCode) (s : State) : (ack c s).Fits s := by
  have body (x : Option Entry) : (codeBytes c ++ be8 (entryOptByte x)).length = 3 := by
    rw [List.length_append, codeBytes_length]
    rfl
  refine onEntry_fits fun e => ?_
  split
  · exact .short 3 (.of_eq rfl rfl) (body _)
  · exact .short 3 (.of_eq rfl rfl) (body _)
  · exact .short 3 (.refl s) (body _)
  · exact .short 3 (.refl s) (body _)

theorem ackAll_fits (s : State) : (ackAll s).Fits s := by
  refine .short 2 (.of_eq rfl ?_) rfl
  rw [State.withAlarms_au]
  split <;> rfl

theorem shelve_fits (minutes : Nat) (c : AlarmCode) (s : State) : (shelve minutes c s).Fits s := by
  have body : (codeBytes c ++ be16 (minutes * 60)).length = 4 := by
    rw [List.length_append, codeBytes_length]
    rfl
  unfold shelve
  split; · exact .refuse
  refine onEntry_fits fun e => ?_
  split
  · exact .refuse
  · exact .short 4 (.of_eq rfl rfl) body

theorem unshelve_fits (c : AlarmCode) (s : State) : (unshelve c s).Fits s := by
  refine onEntry_fits fun e => ?_
  split
  · refine .short 3 (endShelf_answers e s) ?_
    rw [List.length_append, codeBytes_length]
    rfl
  · exact .refuse

theorem firstoutClear_fits (s : State) : (firstoutClear s).Fits s :=
  .short 0 (fun sound => ⟨sound.body, fun _ captured => nomatch captured⟩) rfl

theorem firstoutMode_fits (b : List Byte) (s : State) : (firstoutMode b s).Fits s := by
  unfold firstoutMode
  split; · exact .refuse
  split; · exact .refuse
  exact .short 0 (fun sound => ⟨sound.body, sound.states⟩) rfl

/-! ### The commands of the other blocks -/

theorem coolerBytes_length (c : Cooler) : (coolerBytes c).length = 9 := (coolerBytes_laidOut c).length

theorem putMeas_fits (b : List Byte) (s : State) : (putMeas b s).Fits s := by
  have stored (n : Fin 8) (f : Slot → Slot) : AnswersKept s (s.modSlot n f) := .of_eq rfl rfl
  unfold putMeas
  split; · exact .refuse
  refine .short 4 (AnswersKept.trans ?_ (handFresh_answers _ _)) rfl
  split
  · exact (stored _ _).clearAlarm _
  · exact stored _ _

theorem setMeasConfig_fits (b : List Byte) (s : State) : (setMeasConfig b s).Fits s := by
  unfold setMeasConfig
  split; · exact .refuse
  split; · exact .refuse
  split; · exact .refuse
  refine .short 3 ?_ rfl
  split
  · exact (handFresh_answers _ _).after rfl rfl
  · exact .of_eq rfl rfl

theorem setCutback_fits (b : List Byte) (s : State) : (setCutback b s).Fits s := by
  unfold setCutback
  split; swap; · exact .refuse
  split
  · exact .refuse
  · exact .short 2 (rewriteSet_answers _ _ s) rfl

theorem setCooler_fits (b : List Byte) (s : State) : (setCooler b s).Fits s := by
  unfold setCooler
  split; · exact .refuse
  split; · exact .refuse
  split; · exact .refuse
  refine .short 9 ?_ (coolerBytes_length _)
  unfold takeCooler
  split <;> exact .of_eq rfl rfl

theorem coolerMode_fits (b : List Byte) (s : State) : (coolerMode b s).Fits s := by
  have manual : AnswersKept s (s.modCooler (Cooler.toManual b)) := .of_eq rfl rfl
  unfold coolerMode takeManual takeAuto
  split
  · exact .short 9 ((manual.trans (refreshHoldback_answers _)).before rfl rfl) (coolerBytes_length _)
  · refine .short 9 ?_ (coolerBytes_length _)
    split <;> exact .of_eq rfl rfl
  · exact .refuse

theorem setContact_fits (b : List Byte) (k : Fin 24) (s : State) : (setContact b k s).Fits s := by
  unfold setContact
  split; · exact .refuse
  split; · exact .refuse
  exact .short 2 (replaceContact_answers k _ s) rfl

theorem forceContact_fits (k : Fin 24) (s : State) : (forceContact k s).Fits s := by
  unfold forceContact
  split; · exact .refuse
  split; · exact .short 2 (.refl s) rfl
  exact .short 2 (force_answers k s) rfl

theorem unforce_fits (k : Fin 24) (s : State) : (unforce k s).Fits s := by
  unfold unforce
  split
  · exact .short 2 (liftForce_answers k s) rfl
  · exact .refuse

/-- A table that SET_SHIFTS accepts has at most four times (R164). -/
theorem setShifts_fits (b : List Byte) (s : State) : (setShifts b s).Fits s := by
  unfold setShifts
  split
  case h_1 times table =>
    have count := (changeTimesOf_iff.mp table).2.count
    refine .take (.of_eq rfl rfl) fun _ => ?_
    rw [changeTimesBytes_length]
    omega
  case h_2 => exact .refuse

theorem fullReset_fits (p d : Option Nat) (s : State) : (fullReset p d s).Fits s := by
  unfold fullReset
  split
  · exact .short 1 (resetAll_answers _ _ _ _ s) rfl
  · exact .refuse

/-! ### Events -/

theorem execFrameErr_answers {l : Link} {bytes : List Byte} {s t : State} (h : execFrameErr l bytes s = .next t) :
    AnswersKept s t := by
  unfold execFrameErr at h
  split at h; · cases h
  split at h <;> cases h
  · exact endAbandoned_answers _ _ s
  · exact (shiftOut_answers _ _ s).giveAnswer _ _ _

theorem execUnknownCmd_answers {code : Byte} {r : Request} {s t : State} (h : execUnknownCmd code r s = .next t) :
    AnswersKept s t := by
  unfold execUnknownCmd at h
  split at h; · cases h
  split at h <;> cases h
  · exact endAbandoned_answers _ _ s
  · exact (openRequest_answers r s).giveAnswer _ _ _

theorem execAbandonedTransfer_answers {l : Link} {bytes : List Byte} {s t : State}
    (h : execAbandonedTransfer l bytes s = .next t) : AnswersKept s t := by
  unfold execAbandonedTransfer at h
  split at h <;> cases h
  exact endAbandoned_answers _ _ s

theorem execNoFlowReport_answers {i : Fin 8} {s t : State} (h : execNoFlowReport i s = .next t) : AnswersKept s t := by
  have taken : AnswersKept s (s.modStream i fun x => { x with noFlowDue := false }) := .of_eq rfl rfl
  unfold execNoFlowReport at h
  split at h <;> cases h
  · exact taken.trans (trip_answers i .noFlow _)
  · exact taken

theorem execLightingTimerExpiry_answers {i : Fin 8} {s t : State} (h : execLightingTimerExpiry i s = .next t) :
    AnswersKept s t := by
  unfold execLightingTimerExpiry at h
  split at h <;> cases h
  · exact trip_answers i .lightFail s
  · exact .refl s

theorem execSafeLinkTimerExpiry_answers {s t : State} (h : execSafeLinkTimerExpiry s = .next t) : AnswersKept s t := by
  unfold execSafeLinkTimerExpiry at h
  split at h
  · have stopped : AnswersKept s { s with safeTimer := none } := .of_eq rfl rfl
    have lost (u : State) (kept : AnswersKept s u) : AnswersKept s { u with safeHealthy := false } :=
      kept.before rfl rfl
    have withdrawn := stopped.trans (withdrawAll_answers .linkLoss _)
    exact Host.Outcome.next.inj h ▸ lost _ (withdrawn.raiseAlarm safeLinkRaise)
  · exact Host.Outcome.next.inj h ▸ .refl s

theorem execStaleTimerExpiry_answers {n : Fin 8} {s t : State} (h : execStaleTimerExpiry n s = .next t) :
    AnswersKept s t := by
  unfold execStaleTimerExpiry at h
  split at h <;> cases h
  · have stale : AnswersKept s (s.modSlot n fun x => { x with isStale := true, timer := none, alarm := true }) :=
      .of_eq rfl rfl
    exact (stale.raiseAlarm (staleRaise n)).trans (handStale_answers n _)
  · exact .refl s

theorem execDelayTimerExpiry_answers {k : Fin 4} {s t : State} (h : execDelayTimerExpiry k s = .next t) :
    AnswersKept s t := by
  unfold execDelayTimerExpiry at h
  split at h <;> cases h
  · exact activate_answers k s
  · exact .refl s

theorem execCoolerPeriod_answers {s t : State} (h : execCoolerPeriod s = .next t) : AnswersKept s t := by
  unfold execCoolerPeriod at h
  split at h
  · cases h; exact .of_eq rfl rfl
  · split at h <;> cases h
    · exact .of_eq rfl rfl
    · exact (refreshHoldback_answers _).after rfl rfl

theorem strokeSupervision_answers (n : Fin 4) (s : State) : AnswersKept s (strokeSupervision n s) := by
  have stroked : AnswersKept s (s.modCooler (Cooler.modSection n Section.stroke)) := .of_eq rfl rfl
  unfold strokeSupervision
  split
  · refine AnswersKept.trans ?_ (refreshHoldback_answers _)
    exact (stroked.clearAlarm (.sectionStalled n)).before rfl rfl
  · exact stroked

theorem bookStroke_answers (n : Fin 4) (s : State) : AnswersKept s (bookStroke n s) := by
  unfold bookStroke
  split <;> exact .of_eq rfl rfl

theorem execStallTimerExpiry_answers {n : Fin 4} {s t : State} (h : execStallTimerExpiry n s = .next t) :
    AnswersKept s t := by
  unfold execStallTimerExpiry at h
  split at h <;> cases h
  · refine AnswersKept.trans ?_ (refreshHoldback_answers _)
    exact AnswersKept.before (AnswersKept.raiseAlarm (.of_eq rfl rfl) (stallRaise n)) rfl rfl
  · exact .refl s

theorem execShelfExpiry_answers {c : AlarmCode} {s t : State} (h : execShelfExpiry c s = .next t) :
    AnswersKept s t := by
  unfold execShelfExpiry at h
  split at h
  · split at h <;> cases h
    · exact endShelf_answers _ s
    · exact .refl s
  · cases h; exact .refl s

/-! ### Every command and every step -/

/-- Every command keeps sound answers sound. -/
theorem exec_answers {c : Instr} {s t : State} (h : exec c s = .next t) : AnswersKept s t := by
  cases c with
  | powerOnReset p q d => exact Host.Outcome.next.inj h ▸ resetAll_answers _ p q d s
  | fullReset r p d => exact takeRequest_answers h (fullReset_fits p d)
  | nop => exact takeRequest_answers h fun s => .short 0 (.refl s) rfl
  | status => exact takeRequest_answers h fun s => .short 3 (.modLink fun _ => rfl) rfl
  | attnMask => exact takeRequest_answers h fun s => .short 0 (.modLink fun _ => rfl) rfl
  | attnClear => exact takeRequest_answers h fun s => .short 0 (.modLink fun _ => rfl) rfl
  | linkReset => exact takeRequest_answers h fun s => .short 0 (.modLink fun _ => rfl) rfl
  | listRead => exact takeRequest_answers h (listRead_fits _ _)
  | poll => exact takeRequest_answers h fun s => .short 1 (.refl s) rfl
  | readStream =>
    exact takeRequest_onStream_answers h fun i s => .short 39 (.refl s) (streamReadout_laidOut i s).length
  | readCal => exact takeRequest_onStream_answers h fun i s => .short 55 (.refl s) (calReadout_laidOut _).length
  | readContacts =>
    exact takeRequest_onContact_answers h fun k s => .short 18 (.refl s) (contactReadout_laidOut k s).length
  | readSite => exact takeRequest_answers h (readSite_fits _)
  | readShift => exact takeRequest_answers h (readShift_fits _)
  | readMeas => exact takeRequest_answers h (readMeas_fits _)
  | readCooler => exact takeRequest_answers h (readCooler_fits _)
  | readFirstout => exact takeRequest_answers h readFirstout_fits
  | setCheck | setPeriod | setLinkTimeout | setClock | closeShift | setDemand =>
    refine takeRequest_answers h fun s => ?_
    dsimp only [setCheck, setPeriod, setLinkTimeout, setClock, closeShift, setDemand, Reply.done]
    repeat' split
    all_goals first
      | exact .refuse
      | exact .plain rfl rfl rfl
  | setShifts => exact takeRequest_answers h (setShifts_fits _)
  | setCooler => exact takeRequest_answers h (setCooler_fits _)
  | setLimits | setPlan | setPoll | grant | light | hold | resume | stop | calStart | calStop | calAccept
  | calDiscard =>
    refine takeRequest_onStream_answers h fun i s => ?_
    dsimp only [setLimits, setPlan, setPoll, grant, light, hold, resume, stop, calStart, calStop, calAccept,
      calDiscard, fired, Reply.done]
    repeat' split
    all_goals first
      | exact .refuse
      | exact .plain rfl rfl rfl
  | release => exact takeRequest_onStream_answers h release_fits
  | revoke => exact takeRequest_onStream_answers h fun i s => fired_fits i (withdraw_answers .revoke i s)
  | flameProven | flameLost => exact takeRequest_answers h (flame_fits _)
  | masterTrip => exact takeRequest_answers h fun s => .short 2 (withdrawAll_answers .master s) rfl
  | putMeas => exact takeRequest_answers h (putMeas_fits _)
  | setMeasConfig => exact takeRequest_answers h (setMeasConfig_fits _)
  | setCutback => exact takeRequest_answers h (setCutback_fits _)
  | coolerModeManual | coolerModeAuto => exact takeRequest_answers h (coolerMode_fits _)
  | setContact => exact takeRequest_onContact_answers h (setContact_fits _)
  | forceContact => exact takeRequest_onContact_answers h forceContact_fits
  | unforce => exact takeRequest_onContact_answers h unforce_fits
  | ack => exact takeRequest_onCode_answers h ack_fits
  | ackAll => exact takeRequest_answers h ackAll_fits
  | shelve => exact takeRequest_onCode_answers h (shelve_fits _)
  | unshelve => exact takeRequest_onCode_answers h unshelve_fits
  | silence => exact takeRequest_answers h fun s => .short 0 (.of_eq rfl rfl) rfl
  | firstoutClear => exact takeRequest_answers h firstoutClear_fits
  | firstoutMode => exact takeRequest_answers h (firstoutMode_fits _)
  | massPulse | hornBIntervalExpiry | calWindowTimeout | clockAdvance =>
    dsimp only [exec, execMassPulse, execHornBIntervalExpiry, execCalWindowTimeout, execClockAdvance] at h
    repeat' split at h
    all_goals cases h
    all_goals exact .of_eq rfl rfl
  | strokePulse n =>
    exact Host.Outcome.next.inj h ▸ (bookStroke_answers n s).trans (strokeSupervision_answers n _)
  | dosingPeriodExpiry => exact Host.Outcome.next.inj h ▸ dosingPeriod_answers s
  | contactScan levels => exact Host.Outcome.next.inj h ▸ (scanContacts_answers levels _).after rfl rfl
  | frameErr => exact execFrameErr_answers h
  | unknownCmd => exact execUnknownCmd_answers h
  | abandonedTransfer => exact execAbandonedTransfer_answers h
  | noFlowReport => exact execNoFlowReport_answers h
  | lightingTimerExpiry => exact execLightingTimerExpiry_answers h
  | safeLinkTimerExpiry => exact execSafeLinkTimerExpiry_answers h
  | staleTimerExpiry => exact execStaleTimerExpiry_answers h
  | delayTimerExpiry => exact execDelayTimerExpiry_answers h
  | coolerPeriod => exact execCoolerPeriod_answers h
  | stallTimerExpiry => exact execStallTimerExpiry_answers h
  | shelfExpiry => exact execShelfExpiry_answers h

theorem idle_answers (s : State) : AnswersKept s (idle s) := by
  unfold idle
  split <;> exact .of_eq rfl rfl

/-- A step keeps the answers sound, as the device clock or as the command at the front of the queue. -/
theorem step_answers {s t : State} (h : step s = .next t) : AnswersKept s t := by
  unfold step at h
  split at h
  · exact Host.Outcome.next.inj h ▸ idle_answers s
  · exact (exec_answers h).after rfl rfl

/-- The length byte counts the echo, the result, the summary and the CRC besides the body (R174). -/
theorem Answer.lengthByte {a : Answer} (fits : a.body.length ≤ 56) : u8 a.bytes 0 = 6 + a.body.length :=
  (a.bytes_laidOut.field 0 rfl rfl).byte (by omega)

/-- Settles O7, by what a step does to the answers. -/
theorem answersStayWithinFrame : Obligations.AnswersStayWithinFrame :=
  ⟨fun _ _ sound h => step_answers h sound, fun s l sound =>
    ⟨(s.link l).answer.bytes_length, Answer.lengthByte (sound.body l)⟩⟩

end Sys2Proof.Machine
end

section
/-! PROOFS. The encodings of R173 in a byte, a pair of bytes and a set, the records inside readouts, and every readout,
summary and answer frame with its fields where R173 to R177 put them (O21). -/

namespace Sys2Proof.Machine

/-! ### Enumerated values and flags in a byte -/

theorem siteByte_lt (x : Site) : siteByte x < 256 := by cases x <;> decide

theorem holdoffByte_lt (h : Holdoff) : holdoffByte h < 256 := by cases h <;> decide

theorem firingByte_lt (x : FiringState) : firingByte x < 256 := by cases x <;> decide

theorem causeByte_lt (c : TripCause) : causeByte c < 256 := by cases c <;> decide

theorem causeOptByte_lt : (c : Option TripCause) → causeOptByte c < 256
  | none => by decide
  | some c => causeByte_lt c

theorem detailByte_lt : (d : Option Detail) → detailByte d < 256
  | none | some .short | some .surplus => by decide
  | some (.cause c) => causeByte_lt c

theorem periodByte_le (p : Period) : periodByte p ≤ 3 := by cases p <;> decide

theorem calOptByte_lt : (c : Option CalRecord) → calOptByte c < 256
  | none => by decide
  | some c => by rw [calOptByte]; cases c.state <;> decide

theorem pollLineByte_lt : (k : Option (Fin 8)) → pollLineByte k < 256
  | none => by decide
  | some k => k.isLt.trans (by decide)

theorem Priority.num_le (p : Priority) : p.num ≤ 3 := by cases p <;> decide

theorem entryStateByte_le (x : EntryState) : entryStateByte x ≤ 3 := by cases x <;> decide

theorem cutSenseByte_lt (x : CutSense) : cutSenseByte x < 256 := by cases x <;> decide

theorem cutSitesByte_lt (x : CutSites) : cutSitesByte x < 256 := by cases x <;> decide

theorem setStateByte_lt (x : SetState) : setStateByte x < 256 := by cases x <;> decide

theorem delayTimerByte_lt (t : DelayTimer) : delayTimerByte t < 256 := by cases t <;> simp [delayTimerByte]

theorem coolerModeByte_lt (x : CoolerMode) : coolerModeByte x < 256 := by cases x <;> decide

theorem roleByte_lt (x : ContactRole) : roleByte x < 256 := by cases x <;> decide

theorem levelByte_eq (x : Level) : levelByte x = (x == .closed).toNat := by cases x <;> rfl

theorem firstOutModeByte_le (x : FirstOutMode) : firstOutModeByte x ≤ 1 := by cases x <;> decide

theorem closeCauseByte_le (x : CloseCause) : closeCauseByte x ≤ 1 := by cases x <;> decide

theorem roleHeatByte_le (x : Role) : roleHeatByte x ≤ 4 := by cases x <;> decide

theorem resultByte_lt (c : ResultCode) : resultByte c < 256 := by cases c <;> decide

theorem bit_eq (n : Nat) (b : Bool) : bit n b = 2 ^ n * b.toNat := by cases b <;> simp [bit]

theorem flagByte_eq (b : Bool) : flagByte b = b.toNat := by cases b <;> rfl

theorem timerMs_eq (t : Option Nat) : timerMs t = t.getD 0 := by cases t <;> rfl

theorem flagByte_lt (b : Bool) : flagByte b < 256 := by cases b <;> decide

/-! ### Sets of contacts -/

/-- Bits of distinct positions, added up, are the number with these bits. -/
theorem sum_bit_eq_ofBits {n : Nat} (p : Fin n → Bool) :
    ((List.finRange n).map fun k => bit k.val (p k)).sum = Nat.ofBits p := by
  induction n with
  | zero => rfl
  | succ n ih =>
    have tail : ((List.finRange n).map ((fun k : Fin (n + 1) => bit k.val (p k)) ∘ Fin.succ)).sum =
        2 * Nat.ofBits (p ∘ Fin.succ) := by
      rw [← ih, ← List.sum_map_mul_left]
      simp only [Function.comp_def, Fin.val_succ, bit_eq, Nat.pow_succ, Nat.mul_comm, Nat.mul_left_comm]
    rw [List.finRange_succ, List.map_cons, List.map_map, List.sum_cons, tail, Nat.ofBits_succ, bit_eq, Fin.val_zero,
      Nat.pow_zero, Nat.one_mul, Nat.add_comm]

theorem contactSet_eq_ofBits (p : Fin 24 → Bool) : contactSet p = Nat.ofBits p :=
  sum_bit_eq_ofBits p

/-- Bit `k` of a set of contacts stands for contact `k` (R173). -/
theorem StandsAt.readContacts {p : Fin 24 → Bool} {b : List Byte} {n : Nat} (h : StandsAt (be24 (contactSet p)) b n)
    (k : Fin 24) : (u24 b n).testBit k.val = p k := by
  have width : (16777216 : Nat) = 2 ^ 24 := rfl
  rw [h.read24, width, Nat.testBit_mod_two_pow, contactSet_eq_ofBits, Nat.testBit_ofBits_lt p k.val k.isLt,
    decide_eq_true k.isLt, Bool.true_and]

/-- Bit `k` of a set of streams or slots stands for stream or slot `k` (R173). -/
theorem StandsAt.readStreams {p : Fin 8 → Bool} {b : List Byte} {n : Nat} (h : StandsAt (be8 (streamSet p)) b n)
    (k : Fin 8) : (u8 b n).testBit k.val = p k := by
  rw [h.read8, ← getLsbD_streamSet p k, BitVec.getLsbD, BitVec.toNat_ofNat]

/-! ### Records at their positions -/

theorem TimeLies.of_stands {t : ClockTime} {b : List Byte} {k : Nat} (h : StandsAt t.bytes b k) : TimeLies t b k where
  day := (h.within .first).read16
  second := (h.within (.last rfl)).read24

theorem StandsAt.readPair {v w : Nat} {b : List Byte} {k : Nat} (h : StandsAt (be8 v ++ be8 w) b k) (first : v < 256)
    (second : w < 256) : u8 b k = v ∧ u8 b (k + 1) = w :=
  ⟨(h.within .first).byte first, (h.within (.last rfl)).byte second⟩

theorem CodeLies.of_stands {c : AlarmCode} {b : List Byte} {k : Nat} (h : StandsAt (codeBytes c) b k) :
    CodeLies c b k := by
  cases c with
  | siteUnplaced x => exact StandsAt.readPair h (by decide) (siteByte_lt x)
  | safeLink | coolerHoldback => exact StandsAt.readPair h (by decide) (by decide)
  | streamTrip i | streamDeviation i | measStale i | cutback i | sectionStalled i | contact i | contactForced i =>
    exact StandsAt.readPair h (by decide) (by omega)

theorem EntryLies.of_stands {e : Entry} {b : List Byte} {k : Nat} (h : StandsAt e.bytes b k) : EntryLies e b k where
  code := .of_stands (h.within (e.bytes_laidOut.field 0 rfl rfl))
  flags := by
    have priority := e.priority.num_le
    have state := entryStateByte_le e.state
    have active := e.active.toNat_le
    refine ((h.within (e.bytes_laidOut.field 1 rfl rfl)).byte ?_).trans ?_ <;>
      · rw [bit_eq]
        omega
  raised := .of_stands (h.within (e.bytes_laidOut.field 2 rfl rfl))
  count := (h.within (e.bytes_laidOut.field 3 rfl rfl)).read8
  detail := (h.within (e.bytes_laidOut.field 4 rfl rfl)).byte (detailByte_lt _)
  shelf ms running := (h.within (e.bytes_laidOut.field 5 rfl rfl)).read16.trans (by rw [running]; rfl)
  noShelf none := (h.within (e.bytes_laidOut.field 5 rfl rfl)).read16.trans (by rw [none]; rfl)

theorem SectionLies.of_stands {ratio : Nat} {x : Section} {b : List Byte} {k : Nat}
    (h : StandsAt (sectionBytes ratio x) b k) : SectionLies ratio x b k where
  smin := (h.within ((sectionBytes_laidOut ratio x).field 0 rfl rfl)).read16
  smax := (h.within ((sectionBytes_laidOut ratio x).field 1 rfl rfl)).read16
  step := (h.within ((sectionBytes_laidOut ratio x).field 2 rfl rfl)).read8
  ratio := (h.within ((sectionBytes_laidOut ratio x).field 3 rfl rfl)).read8
  manual := (h.within ((sectionBytes_laidOut ratio x).field 4 rfl rfl)).read16
  output := (h.within ((sectionBytes_laidOut ratio x).field 5 rfl rfl)).read16
  stalled := ((h.within ((sectionBytes_laidOut ratio x).field 6 rfl rfl)).byte (flagByte_lt _)).trans (flagByte_eq _)
  stall := (h.within ((sectionBytes_laidOut ratio x).field 7 rfl rfl)).read16.trans (by rw [timerMs_eq])

/-! ### The summary and the answer frame -/

theorem SummaryLies.of_stands {m : Summary} {b : List Byte} {k : Nat} (h : StandsAt m.bytes b k) :
    SummaryLies m b k where
  first := ((h.within (.before .first)).byte (by grind [bit_eq, Bool.toNat_le])).trans (by grind [bit_eq])
  second := (h.within (.before (.last rfl))).read8.trans (by grind [bit_eq])
  third := ((h.within (.last rfl)).byte (by grind [bit_eq, Bool.toNat_le])).trans (by grind [bit_eq])

theorem Answer.bytes_take (a : Answer) : a.bytes.take (6 + a.body.length) = a.head := by
  have length := a.bytes_length
  rw [Answer.bytes, List.length_append, List.length_singleton] at length
  exact List.take_left' (by omega)

theorem Answer.bytes_lie (a : Answer) : AnswerLies a a.bytes where
  bytes := a.bytes_length
  length := (a.bytes_laidOut.field 0 rfl rfl).read8
  echo := (a.bytes_laidOut.field 1 rfl rfl).readOne
  result := (a.bytes_laidOut.field 2 rfl rfl).byte (resultByte_lt _)
  summary := .of_stands (a.bytes_laidOut.field 3 rfl rfl)
  body _ inside := (a.bytes_laidOut.field 4 rfl rfl).getD inside
  crc := by
    rw [a.bytes_take]
    exact (a.bytes_laidOut.field 5 rfl (by simp [← Nat.add_assoc])).readOne

/-! ### The stream readout -/

/-- The marker bits stand apart (R177). -/
theorem testBit_markers (limits plan armed : Bool) :
    bit 0 limits + bit 1 plan + bit 2 armed < 256 ∧ (bit 0 limits + bit 1 plan + bit 2 armed).testBit 0 = limits ∧
      (bit 0 limits + bit 1 plan + bit 2 armed).testBit 1 = plan ∧
      (bit 0 limits + bit 1 plan + bit 2 armed).testBit 2 = armed := by
  revert limits plan armed
  decide

theorem pollFlags_eq (sense : PollSense) (cond : PollCond) :
    bit 0 (sense == .setWhenFalse) + bit 1 (cond == .unacked) =
      (if sense = .setWhenTrue then 0 else 1) + if cond = .burning then 0 else 2 := by
  cases sense <;> cases cond <;> rfl

theorem pollFlags_lt (sense : PollSense) (cond : PollCond) :
    bit 0 (sense == .setWhenFalse) + bit 1 (cond == .unacked) < 256 := by
  cases sense <;> cases cond <;> decide

/-! ### The site readout -/

theorem SiteLies.of_readout (x : Site) (s : State) : SiteLies x s (siteReadout x s) := by
  have laid := siteReadout_laidOut x s
  have part (i : Fin 8) : StandsAt (partBytes (s.siteRec x).record.parts[i]) (siteReadout x s) (24 + 4 * i.val) :=
    (laid.field 15 rfl rfl).within (.flatMap partBytes_length (by simp))
  refine {
    site := (laid.field 0 rfl rfl).byte (siteByte_lt _)
    demand := (laid.field 1 rfl rfl).read24
    effective := (laid.field 2 rfl rfl).read24
    setOffers := ?setOffers
    holdbackOffer := (laid.field 7 rfl rfl).read8
    largest := (laid.field 8 rfl rfl).read8
    flags := ?flags
    unplaced := (laid.field 10 rfl rfl).readS24
    unplacedCount := (laid.field 11 rfl rfl).read8
    compCount := (laid.field 12 rfl rfl).read16
    passes := (laid.field 13 rfl rfl).read8
    lastM := (laid.field 14 rfl rfl).readS24
    foreign := ?foreign
    own := ?own }
  case setOffers =>
    intro k
    match k with
    | 0 => exact (laid.field 3 rfl rfl).read8
    | 1 => exact (laid.field 4 rfl rfl).read8
    | 2 => exact (laid.field 5 rfl rfl).read8
    | 3 => exact (laid.field 6 rfl rfl).read8
  case flags =>
    have period := periodByte_le s.period
    exact ((laid.field 9 rfl rfl).byte (by grind [bit_eq, Bool.toNat_le])).trans (by grind [bit_eq])
  case foreign =>
    intro i absent
    have stands := part i
    rw [absent] at stands
    exact ⟨(stands.within .first).byte (by decide),
      ((stands.within (.last (k := 1) rfl)).moved (by omega)).read24⟩
  case own =>
    intro i p present
    have stands := part i
    rw [present] at stands
    have role := roleHeatByte_le p.role
    exact ⟨(stands.within .first).byte (by simp only [bit_eq, Bool.toNat_true]; omega),
      ((stands.within (.last (k := 1) rfl)).moved (by omega)).readS24⟩

/-! ### The alarm list and the first-out record -/

theorem ListLies.of_readout (a : AlarmUnit) (start : Nat) : ListLies a start (listReadBytes start a) := by
  have laid := listReadBytes_laidOut start a
  refine {
    length := (laid.field 0 rfl rfl).read8
    flags := ?flags
    number := ?number
    entries := ?entries }
  case flags =>
    exact ((laid.field 1 rfl rfl).byte (by grind [bit_eq, Bool.toNat_le])).trans (by grind [bit_eq])
  case number =>
    have number := a.window_length start
    exact ((laid.field 2 rfl rfl).byte (by omega)).trans number
  case entries =>
    intro j e found
    have listed : (a.window start)[j.val]? = some e := by
      rw [AlarmUnit.window, List.getElem?_take_of_lt j.isLt, List.getElem?_drop, found]
    exact .of_stands ((laid.field 3 rfl rfl).within (.flatMap Entry.bytes_length listed))

theorem firstOutBytes_empty {f : FirstOut} (empty : f.captured = none) :
    firstOutBytes f = be8 (2 * firstOutModeByte f.mode) ++ List.replicate 17 0x00#8 := by
  rw [firstOutBytes, empty]

theorem u8_zeros (n k : Nat) : u8 (List.replicate n 0x00#8) k = 0 := by
  rw [u8, List.getD_eq_getElem?_getD]
  exact congrArg BitVec.toNat (List.getElem?_getD_replicate_default_eq (d := (0 : Byte)) n k)

theorem FirstOutLies.of_readout (f : FirstOut) : FirstOutLies f (firstOutBytes f) := by
  have mode := firstOutModeByte_le f.mode
  cases captured : f.captured with
  | none =>
    rw [firstOutBytes_empty captured]
    refine ⟨?_, fun _ k later => ?_, fun c held => nomatch captured.symm.trans held⟩
    · rw [captured, Option.isSome_none, Bool.toNat_false, Nat.zero_add]
      exact StandsAt.byte .first (by omega)
    · obtain ⟨k, rfl⟩ := Nat.exists_eq_add_of_le later
      exact (u8_append (be8 _) _ k).trans (u8_zeros 17 k)
  | some c =>
    have laid := firstOutBytes_laidOut captured
    refine ⟨?_, fun empty => (nomatch empty.symm.trans captured), fun c' held => ?_⟩
    · rw [captured]
      exact (laid.field 0 rfl rfl).byte (by rw [bit_eq, Bool.toNat_true]; omega)
    · cases captured.symm.trans held
      have priority := c.priority.num_le
      have states : StandsAt (c.states.flatMap fun x => be8 (firingByte x)) (firstOutBytes f) 10 := laid.field 5 rfl rfl
      exact ⟨.of_stands (laid.field 1 rfl rfl), (laid.field 2 rfl rfl).byte (by omega),
        (laid.field 3 rfl rfl).byte (detailByte_lt _), .of_stands (laid.field 4 rfl rfl), fun i x captured =>
          ((states.within (.flatMap (n := 1) (fun _ => rfl) captured)).moved (by omega)).byte (firingByte_lt x)⟩

/-! ### The shift parts -/

theorem TotalsLie.of_laidOut {u : ShiftUnit} {number state opened closed shc b : List Byte}
    {burnMain burnCalc strokes clinker p1 p2 p3 trips cals : Nat}
    (laid : LaidOut b
      [number, state, opened, closed, be32 burnMain, be32 burnCalc, be32 strokes, be32 clinker, be16 p1, be16 p2,
        be16 p3, be16 trips, be16 cals, shc, be32 u.shift.number, u.clock.bytes]
      [4, 1, 5, 5, 4, 4, 4, 4, 2, 2, 2, 2, 2, 4, 4, 5]) :
    TotalsLie u burnMain burnCalc strokes clinker p1 p2 p3 trips cals b where
  burnMain := (laid.field 4 rfl rfl).read32
  burnCalc := (laid.field 5 rfl rfl).read32
  strokes := (laid.field 6 rfl rfl).read32
  clinker := (laid.field 7 rfl rfl).read32
  alarms := ⟨(laid.field 8 rfl rfl).read16, (laid.field 9 rfl rfl).read16, (laid.field 10 rfl rfl).read16⟩
  trips := (laid.field 11 rfl rfl).read16
  cals := (laid.field 12 rfl rfl).read16
  openNumber := (laid.field 14 rfl rfl).read32
  clock := .of_stands (laid.field 15 rfl rfl)

theorem OpenHeaderLies.of_part (u : ShiftUnit) : OpenHeaderLies u (shiftPart u 0 none) where
  number := ((openHeader_laidOut u).field 0 rfl rfl).read32
  state := ((openHeader_laidOut u).field 1 rfl rfl).byte (by decide)
  opened := .of_stands ((openHeader_laidOut u).field 2 rfl rfl)
  closed := .of_stands ((openHeader_laidOut u).field 3 rfl rfl)
  totals := .of_laidOut (openHeader_laidOut u)
  shc := ((openHeader_laidOut u).field 13 rfl rfl).read32

/-- The state byte of a closed part: CLOSED, the close cause, and whether the SHC is present (R177). -/
theorem StandsAt.readClosedState {c : ClosedShift} {b : List Byte} {k : Nat} (h : StandsAt (closedStateByte c) b k) :
    u8 b k = 1 + 2 * closeCauseByte c.cause + 4 * c.shc.isSome.toNat := by
  have cause := closeCauseByte_le c.cause
  exact (StandsAt.byte h (by grind [bit_eq, Bool.toNat_le])).trans (by grind [bit_eq])

theorem ClosedHeaderLies.of_part (u : ShiftUnit) (c : ClosedShift) : ClosedHeaderLies u c (shiftPart u 0 (some c)) where
  number := ((closedHeader_laidOut u c).field 0 rfl rfl).read32
  state := ((closedHeader_laidOut u c).field 1 rfl rfl).readClosedState
  opened := .of_stands ((closedHeader_laidOut u c).field 2 rfl rfl)
  closed := .of_stands ((closedHeader_laidOut u c).field 3 rfl rfl)
  totals := .of_laidOut (closedHeader_laidOut u c)
  shc := ((closedHeader_laidOut u c).field 13 rfl rfl).read32

/-- The mass and the heat of the `j`-th of four streams (R177). -/
theorem StandsAt.readFeed {mass heat : List Nat} {first : Nat} {b : List Byte}
    (h : StandsAt (feedBytes mass heat first) b 5) (j : Fin 4) :
    u48 b (5 + 12 * j.val) = mass.getD (first + j.val) 0 % 281474976710656 ∧
      u48 b (11 + 12 * j.val) = heat.getD (first + j.val) 0 % 281474976710656 := by
  have place : [first, first + 1, first + 2, first + 3][j.val]? = some (first + j.val) := by
    match j with
    | 0 | 1 | 2 | 3 => rfl
  have stands := h.within
    (.flatMap (f := fun i => be48 (mass.getD i 0) ++ be48 (heat.getD i 0)) (n := 12) (fun _ => rfl) place)
  exact ⟨(stands.within .first).read48, ((stands.within (.last (k := 6) rfl)).moved (by omega)).read48⟩

theorem ClosedFeedLies.of_part (u : ShiftUnit) (c : ClosedShift) (k : Nat) :
    ClosedFeedLies c (4 * k) (shiftPart u (k + 1) (some c)) where
  number := ((closedFeed_laidOut u k c).field 0 rfl rfl).read32
  state := ((closedFeed_laidOut u k c).field 1 rfl rfl).readClosedState
  feed := ((closedFeed_laidOut u k c).field 2 rfl rfl).readFeed

theorem getD_map_toList (f : Nat → Nat) (v : Vector Nat 8) (i : Fin 8) : (v.toList.map f).getD i.val 0 = f v[i] := by
  simp

theorem massKg_mod (grams : Nat) : massKg grams % 281474976710656 = min 281474976710655 (grams / 1000) :=
  Nat.mod_eq_of_lt (by rw [massKg]; omega)

theorem OpenFeedLies.of_part (u : ShiftUnit) (k : Nat) : OpenFeedLies u (4 * k) (shiftPart u (k + 1) none) where
  number := ((openFeed_laidOut u k).field 0 rfl rfl).read32
  state := ((openFeed_laidOut u k).field 1 rfl rfl).byte (by decide)
  feed j i place := by
    obtain ⟨mass, heat⟩ := ((openFeed_laidOut u k).field 2 rfl rfl).readFeed j
    rw [← place, getD_map_toList] at mass heat
    exact ⟨mass.trans (massKg_mod _), heat⟩

/-! ### The calibration readout -/

theorem all8_getElem? (k : Fin 8) : all8[k.val]? = some k := by
  revert k
  decide

theorem CalLies.of_readout (x : Stream) : CalLies x (calReadout x) := by
  have laid := calReadout_laidOut x
  have window (k : Fin 8) : StandsAt (windowBytes x.ring k) (calReadout x) (23 + 4 * k.val) :=
    (laid.field 6 rfl rfl).within (.flatMap (windowBytes_length x.ring) (all8_getElem? k))
  refine {
    state := ?state
    absent := ?absent
    record := ?record
    weight := (laid.field 2 rfl rfl).read16
    fill := (laid.field 3 rfl rfl).read8
    devCounter := (laid.field 4 rfl rfl).read8
    noFlowCounter := (laid.field 5 rfl rfl).read8
    ring := ?ring
    beyond := ?beyond }
  case state => exact (laid.field 0 rfl rfl).read8.trans (by rw [bit_eq]; rfl)
  case absent =>
    intro absent k low high
    obtain ⟨k, rfl⟩ := Nat.exists_eq_add_of_le low
    have stands := laid.field 1 rfl rfl
    rw [absent] at stands
    exact (stands.u8_inside (by rw [calRecordBytes_length]; omega)).trans (u8_zeros 17 k)
  case record =>
    intro c present
    have stands := laid.field 1 rfl rfl
    rw [present] at stands
    have record := calRecordBytes_laidOut c
    exact ⟨.of_stands (stands.within (record.field 0 rfl rfl)), (stands.within (record.field 1 rfl rfl)).read16,
      (stands.within (record.field 2 rfl rfl)).read16, (stands.within (record.field 3 rfl rfl)).read32,
      (stands.within (record.field 4 rfl rfl)).read32⟩
  case ring =>
    intro k e listed
    have stands := window k
    rw [windowBytes, listed] at stands
    exact ⟨(stands.within .first).read16, ((stands.within (.last (k := 2) rfl)).moved (by omega)).read16⟩
  case beyond =>
    intro k past
    have stands := window k
    rw [windowBytes, List.getElem?_eq_none past] at stands
    exact StandsAt.read32 stands

/-! ### The slot, set, cooler and contact readouts -/

theorem SlotLies.of_readout (n : Fin 8) (s : State) : SlotLies n s (slotReadout n s) where
  kind := ⟨((slotReadout_laidOut n s).field 0 rfl rfl).byte (by decide),
    ((slotReadout_laidOut n s).field 1 rfl rfl).byte (by omega)⟩
  low := ((slotReadout_laidOut n s).field 2 rfl rfl).readS16
  high := ((slotReadout_laidOut n s).field 3 rfl rfl).readS16
  staleTime := ((slotReadout_laidOut n s).field 4 rfl rfl).read8
  value := ((slotReadout_laidOut n s).field 5 rfl rfl).readS16
  flags :=
    (((slotReadout_laidOut n s).field 6 rfl rfl).byte (by grind [bit_eq, Bool.toNat_le])).trans (by grind [bit_eq])
  timer := ((slotReadout_laidOut n s).field 7 rfl rfl).read16.trans (by rw [timerMs_eq])
  stales := ((slotReadout_laidOut n s).field 8 rfl rfl).readStreams

theorem SetLies.of_readout (k : Fin 4) (s : State) : SetLies k s (setReadout k s) := by
  have laid := setReadout_laidOut k s
  have timer : u8 (setReadout k s) 13 = delayTimerByte (s.cutSet k).timer :=
    (laid.field 11 rfl rfl).byte (delayTimerByte_lt _)
  have remaining : u16 (setReadout k s) 14 = delayTimerMs (s.cutSet k).timer % 65536 := (laid.field 12 rfl rfl).read16
  exact {
    kind := ⟨(laid.field 0 rfl rfl).byte (by decide), (laid.field 1 rfl rfl).byte (by omega)⟩
    enable := ((laid.field 2 rfl rfl).byte (flagByte_lt _)).trans (flagByte_eq _)
    slot := (laid.field 3 rfl rfl).byte (by omega)
    sense := (laid.field 4 rfl rfl).byte (cutSenseByte_lt _)
    threshold := (laid.field 5 rfl rfl).readS16
    hysteresis := (laid.field 6 rfl rfl).read16
    delay := (laid.field 7 rfl rfl).read8
    sites := (laid.field 8 rfl rfl).byte (cutSitesByte_lt _)
    cut := (laid.field 9 rfl rfl).read8
    state := (laid.field 10 rfl rfl).byte (setStateByte_lt _)
    stopped := fun mode => by rw [timer, remaining, mode]; exact ⟨rfl, rfl⟩
    running := fun ms mode => by rw [timer, remaining, mode]; exact ⟨rfl, rfl⟩
    frozen := fun ms mode => by rw [timer, remaining, mode]; exact ⟨rfl, rfl⟩
    value := (laid.field 13 rfl rfl).readS16
    stale := ((laid.field 14 rfl rfl).byte (flagByte_lt _)).trans (flagByte_eq _) }

theorem GeneralLies.of_readout (s : State) : GeneralLies s (generalReadout s) where
  selector := ((generalReadout_laidOut s).field 0 rfl rfl).byte (by decide)
  mode := ((generalReadout_laidOut s).field 1 rfl rfl).byte (coolerModeByte_lt _)
  target := ((generalReadout_laidOut s).field 2 rfl rfl).read16
  base := ((generalReadout_laidOut s).field 3 rfl rfl).read16
  gain := ((generalReadout_laidOut s).field 4 rfl rfl).read8
  holdbackPressure := ((generalReadout_laidOut s).field 5 rfl rfl).read16
  holdbackTime := ((generalReadout_laidOut s).field 6 rfl rfl).read16
  holdbackCut := ((generalReadout_laidOut s).field 7 rfl rfl).read8
  clinkerPerStroke := ((generalReadout_laidOut s).field 8 rfl rfl).read16
  slot := ((generalReadout_laidOut s).field 9 rfl rfl).byte (by omega)
  value := ((generalReadout_laidOut s).field 10 rfl rfl).readS16
  flags :=
    (((generalReadout_laidOut s).field 11 rfl rfl).byte (by grind [bit_eq, Bool.toNat_le])).trans (by grind [bit_eq])
  lastRaw := ((generalReadout_laidOut s).field 12 rfl rfl).readS32
  pressureCount := ((generalReadout_laidOut s).field 13 rfl rfl).read16
  stops := ((generalReadout_laidOut s).field 14 rfl rfl).read8
  offered := ((generalReadout_laidOut s).field 15 rfl rfl).read8
  strokes := ((generalReadout_laidOut s).field 16 rfl rfl).read32
  clinker := ((generalReadout_laidOut s).field 17 rfl rfl).read32

theorem SectionsLie.of_readout (c : Cooler) : SectionsLie c (sectionsReadout c) where
  selector := ((sectionsReadout_laidOut c).field 0 rfl rfl).byte (by decide)
  first := .of_stands ((sectionsReadout_laidOut c).field 1 rfl rfl)
  second := .of_stands ((sectionsReadout_laidOut c).field 2 rfl rfl)
  third := .of_stands ((sectionsReadout_laidOut c).field 3 rfl rfl)
  fourth := .of_stands ((sectionsReadout_laidOut c).field 4 rfl rfl)

theorem ContactLies.of_readout (k : Fin 24) (s : State) : ContactLies k s (contactReadout k s) := by
  have laid := contactReadout_laidOut k s
  have priority := (s.contact k).priority.num_le
  have state : (s.contact k).stateByte =
      levelByte (s.contact k).accepted + 2 * levelByte (s.contact k).reading + 4 * (s.contact k).forced.toNat +
        8 * (s.contact k).cond.toNat + 16 * (s.contact k).forcedCond.toNat := by
    grind [Contact.stateByte, bit_eq, levelByte_eq]
  exact {
    contact := (laid.field 0 rfl rfl).byte (by omega)
    role := (laid.field 1 rfl rfl).byte (roleByte_lt _)
    normal := (laid.field 2 rfl rfl).byte (by grind [levelByte_eq, Bool.toNat_le])
    priority := (laid.field 3 rfl rfl).byte (by omega)
    mask := congrArg BitVec.toNat (laid.field 4 rfl rfl).readOne
    debounce := (laid.field 5 rfl rfl).read8
    slow := ((laid.field 6 rfl rfl).byte (flagByte_lt _)).trans (flagByte_eq _)
    state := ((laid.field 7 rfl rfl).byte (by grind [Contact.stateByte, bit_eq, Bool.toNat_le])).trans state
    count := (laid.field 8 rfl rfl).read8
    accepted := (laid.field 9 rfl rfl).readContacts
    abnormal := (laid.field 10 rfl rfl).readContacts
    forced := (laid.field 11 rfl rfl).readContacts }

/-! ### Numbers and encodings -/

theorem s16_beS16 {v : Int} (low : -32768 ≤ v) (high : v ≤ 32767) : s16 (beS16 v) 0 = v := by
  have read : (u16 (beS16 v) 0 : Int) = v % 65536 := StandsAt.self.readS16
  unfold s16
  omega

theorem fieldsHighFirst : FieldsHighFirst where
  read b k := by
    simp only [u8, u16, u24, u32, Nat.add_assoc, Nat.reduceAdd]
    omega
  written v := ⟨StandsAt.self.read8, StandsAt.self.read16, StandsAt.self.read24, StandsAt.self.read32⟩
  signed v := ⟨StandsAt.self.readS16, s16_beS16⟩

theorem encodingsListed : EncodingsListed where
  result := rfl
  factors f := by
    rw [Factors.byte]
    grind [bit_eq]
  resetCause := rfl
  code c := ⟨codeBytes_length c, .of_stands .self⟩
  cooler c := ⟨coolerBytes_length c, ((coolerBytes_laidOut c).field 0 rfl rfl).byte (coolerModeByte_lt _), fun n =>
    match n with
    | 0 => ((coolerBytes_laidOut c).field 1 rfl rfl).read16
    | 1 => ((coolerBytes_laidOut c).field 2 rfl rfl).read16
    | 2 => ((coolerBytes_laidOut c).field 3 rfl rfl).read16
    | 3 => ((coolerBytes_laidOut c).field 4 rfl rfl).read16⟩
  site := rfl
  holdoff := rfl
  firing := rfl
  cause := rfl
  detail := rfl
  period := rfl
  calState := rfl
  calRecord := ⟨rfl, fun _ => rfl⟩
  pollLine := ⟨rfl, fun _ => rfl⟩
  priority := rfl
  entry := rfl
  cutSense := rfl
  cutSites := rfl
  setState := rfl
  coolerMode := rfl
  role := rfl
  level := rfl
  firstOutMode := rfl
  closeCause := rfl
  computation := rfl

/-- Settles O21, readout by readout. -/
theorem readoutsLieAsLaidOut : Obligations.ReadoutsLieAsLaidOut := by
  refine ⟨fun s => ?lengths, fun i s => ?stream, .of_readout, fun a start => .of_readout a start, .of_readout,
    fun u => ?shift, .of_readout, .of_readout, .of_readout, fun s => ⟨.of_readout s, .of_readout s.cooler⟩, .of_readout,
    Answer.bytes_lie, fieldsHighFirst, encodingsListed⟩
  case lengths =>
    exact ⟨fun i => ⟨(streamReadout_laidOut i s).length, (calReadout_laidOut _).length⟩,
      fun x => (siteReadout_laidOut x s).length, fun n => (slotReadout_laidOut n s).length,
      fun k => (setReadout_laidOut k s).length, (generalReadout_laidOut s).length,
      (sectionsReadout_laidOut s.cooler).length, fun k => (contactReadout_laidOut k s).length,
      shiftPart_header_length s.su, shiftPart_streams_length s.su, fun n => listReadBytes_length n s.au,
      fun f => firstOutBytes_length⟩
  case stream =>
    have laid := streamReadout_laidOut i s
    have markers : u8 (streamReadout i s) 21 = _ := (laid.field 15 rfl rfl).byte (testBit_markers _ _ _).1
    obtain ⟨-, limits, plan, armed⟩ := testBit_markers (s.stream i).limitsSet (s.stream i).planSet (s.stream i).armed
    rw [← markers] at limits plan armed
    exact ⟨laid.length, (laid.field 0 rfl rfl).byte (by omega), (laid.field 1 rfl rfl).byte (siteByte_lt _),
      (laid.field 2 rfl rfl).read16, (laid.field 3 rfl rfl).read16, (laid.field 4 rfl rfl).read16,
      (laid.field 5 rfl rfl).read16, (laid.field 6 rfl rfl).read8, (laid.field 7 rfl rfl).byte (holdoffByte_lt _),
      (laid.field 8 rfl rfl).read8, (laid.field 9 rfl rfl).read16, (laid.field 10 rfl rfl).read8,
      (laid.field 11 rfl rfl).read8, (laid.field 12 rfl rfl).read16, (laid.field 13 rfl rfl).read8,
      (laid.field 14 rfl rfl).read8, limits, plan, armed, (laid.field 16 rfl rfl).byte (firingByte_lt _),
      (laid.field 17 rfl rfl).byte (causeOptByte_lt _), (laid.field 18 rfl rfl).read16, (laid.field 19 rfl rfl).read16,
      (laid.field 20 rfl rfl).read16, (laid.field 21 rfl rfl).read16, (laid.field 22 rfl rfl).byte (calOptByte_lt _),
      (laid.field 23 rfl rfl).byte (pollLineByte_lt _),
      ((laid.field 24 rfl rfl).byte (pollFlags_lt _ _)).trans (pollFlags_eq _ _),
      (laid.field 25 rfl rfl).read16.trans (Nat.mod_eq_of_lt s.computedWord.isLt),
      (laid.field 26 rfl rfl).read16.trans (Nat.mod_eq_of_lt s.expectedWord.isLt)⟩
  case shift =>
    exact ⟨.of_part u, .of_part u 0, .of_part u 1, fun c => ⟨.of_part u c, .of_part u c 0, .of_part u c 1⟩⟩

end Sys2Proof.Machine
end

section
/-! PROOFS. The model's queue (log entries 1 and 2): a step hands the front command the rest of the queue, and no
command touches what waits or the draw counter (O1, O3). -/

namespace Sys2Proof.Machine

/-! ### The front command -/

/-- Settles O1, by the branch of a step whose queue is not empty. -/
theorem stepTakesFrontCommand : Obligations.StepTakesFrontCommand := by
  intro s c rest waiting
  simp only [step, waiting]

/-! ### The queue and the draw counter -/

/-- The commands that wait and the draw counter, the two fields of the queue. -/
def State.queue (s : State) : List Instr × Nat := (s.pending, s.raceSeed)

theorem SameBlocks.queue {s t : State} (h : SameBlocks s t) : t.queue = s.queue := by
  rw [State.queue, h.pending, h.raceSeed]
  rfl

theorem foldl_queue {α : Type} {f : State → α → State} (h : ∀ s a, (f s a).queue = s.queue) (l : List α) (s : State) :
    (l.foldl f s).queue = s.queue := by
  induction l generalizing s with
  | nil => rfl
  | cons a l ih => exact (ih (f s a)).trans (h s a)

/-! ### The cooler and the contacts -/

theorem refreshHoldback_queue (s : State) : (refreshHoldback s).queue = s.queue := by
  rw [refreshHoldback_frame]
  rfl

theorem stopReported_queue (k : Fin 24) (s : State) : (stopReported k s).queue = s.queue := by
  by_cases present : k ∈ s.cooler.stopContacts
  · rw [stopReported_present present]
  · rw [stopReported_joins present, refreshHoldback_queue]
    rfl

theorem stopReturned_queue (k : Fin 24) (s : State) : (stopReturned k s).queue = s.queue := by
  by_cases present : k ∈ s.cooler.stopContacts
  · rw [stopReturned_leaves present rfl, refreshHoldback_queue]
    rfl
  · rw [stopReturned_absent present]

theorem goesAbnormal_queue (k : Fin 24) (s : State) : (goesAbnormal k s).queue = s.queue := by
  cases role : (s.contact k).role with
  | none => rw [goesAbnormal_none role]
  | alarm => rw [goesAbnormal_alarm role]; rfl
  | streamInterlock => rw [goesAbnormal_interlock role, (reportInterlocks_sameBlocks _ _).queue]; rfl
  | coolerStop => rw [goesAbnormal_coolerStop role, stopReported_queue]; rfl

theorem returnsNormal_queue (k : Fin 24) (s : State) : (returnsNormal k s).queue = s.queue := by
  cases role : (s.contact k).role with
  | none => rw [returnsNormal_none role]
  | alarm => rw [returnsNormal_cleared (.inl role)]; rfl
  | streamInterlock => rw [returnsNormal_cleared (.inr role)]; rfl
  | coolerStop => rw [returnsNormal_coolerStop role, stopReturned_queue]; rfl

theorem sampleContact_queue (k : Fin 24) (level : Level) (s : State) : (sampleContact k level s).queue = s.queue := by
  unfold sampleContact actOnReading
  split
  · split
    · exact goesAbnormal_queue k _
    · exact returnsNormal_queue k _
  · rfl

/-- A scan samples the levels it carries and leaves the queue (R129). -/
theorem scanContacts_queue (levels : BitVec 24) (s : State) : (scanContacts levels s).queue = s.queue := by
  refine foldl_queue (fun s k => ?_) all24 s
  split
  · exact sampleContact_queue k _ s
  · rfl

theorem settleCondition_queue (k : Fin 24) (before : Bool) (s : State) :
    (settleCondition k before s).queue = s.queue := by
  unfold settleCondition
  split
  · rfl
  · split <;> rfl

theorem settleStop_queue (k : Fin 24) (old new : Contact) (s : State) : (settleStop k old new s).queue = s.queue := by
  unfold settleStop
  split
  · exact stopReturned_queue k s
  split
  · exact stopReported_queue k s
  · rfl

theorem replaceContact_queue (k : Fin 24) (new : Contact) (s : State) : (replaceContact k new s).queue = s.queue := by
  unfold replaceContact settleInterlocks
  rw [settleStop_queue, (reportInterlocks_sameBlocks _ _).queue, settleCondition_queue]
  rfl

theorem force_queue (k : Fin 24) (s : State) : (force k s).queue = s.queue := by
  have returned : (forceReturned k s).queue = s.queue := by
    unfold forceReturned
    split
    · exact returnsNormal_queue k _
    · rfl
  rw [force_eq]
  exact returned

theorem liftForce_queue (k : Fin 24) (s : State) : (liftForce k s).queue = s.queue := by
  unfold liftForce
  dsimp only
  split
  · exact goesAbnormal_queue k _
  · rfl

/-! ### Slots and cutback sets -/

theorem testIdle_queue (k : Fin 4) (v : Int) (s : State) : (testIdle k v s).queue = s.queue := by
  unfold testIdle
  split
  · split <;> rfl
  · rfl

theorem freshValue_queue (v : Int) (k : Fin 4) (s : State) : (freshValue v k s).queue = s.queue := by
  cases state : (s.cutSet k).state with
  | disabled => rw [freshValue_disabled v state]
  | idle => rw [freshValue_idle v state, testIdle_queue]
  | timing => rw [freshValue_timing v state]; split <;> rfl
  | active => rw [freshValue_active v state]; split <;> rfl

theorem handFresh_queue (n : Fin 8) (s : State) : (handFresh n s).queue = s.queue := by
  refine foldl_queue (fun s k => ?_) all4 s
  split
  · exact freshValue_queue _ k s
  · rfl

theorem handStale_queue (n : Fin 8) (s : State) : (handStale n s).queue = s.queue := by
  rw [handStale_frame]
  rfl

theorem rewriteSet_queue (k : Fin 4) (c : CutSet) (s : State) : (rewriteSet k c s).queue = s.queue := by
  have written : (State.modSet k (fun _ => c)
      (if (s.cutSet k).state = .active then deactivate k s else s)).queue = s.queue := by
    split <;> rfl
  unfold rewriteSet
  dsimp only
  split
  · exact (testIdle_queue k _ _).trans written
  · exact written

/-! ### The dosing period -/

theorem dose_queue (x : Site) (s : State) : (dose x s).queue = s.queue := (dose_sameBlocks x s).queue

theorem dosingPeriod_queue (s : State) :
    (dose .calc (dose .main (periodCloses { s with dosingTimer := s.period.ms }))).queue = s.queue := by
  rw [dose_queue, dose_queue, (periodCloses_sameBlocks _).queue]
  rfl

/-! ### Requests -/

theorem openRequest_queue (r : Request) (s : State) : (openRequest r s).queue = s.queue := by
  simp only [State.queue, openRequest_pending, openRequest_raceSeed]

/-- A block takes a command into a state with the same queue, or refuses it. -/
def Reply.KeepsQueue (s : State) (r : Reply) : Prop := r.LeadsTo fun t => t.queue = s.queue

/-- Forming an answer reaches its link unit alone (R9). -/
theorem settleReply_queue {s : State} {r : Reply} (l : Link) (code : Byte) (h : r.KeepsQueue s) :
    (settleReply l code s r).queue = s.queue := by
  cases h with
  | refuse => rfl
  | take same => exact same

/-- A request leaves the queue where its block does, whether it is taken, refused or discarded. -/
theorem takeRequest_queue {row : CommandRow} {r : Request} {act : State → Reply} {s t : State}
    (h : takeRequest row r act s = .next t) (keeps : ∀ s, (act s).KeepsQueue s) : t.queue = s.queue := by
  obtain ⟨-, rfl | ⟨-, ⟨-, rfl⟩ | ⟨-, -, rfl⟩ | ⟨-, -, rfl⟩⟩⟩ := takeRequest_next h
  · rfl
  · exact openRequest_queue r s
  · exact openRequest_queue r s
  · exact (settleReply_queue _ _ (keeps _)).trans (openRequest_queue r s)

theorem takeRequest_onStream_queue {row : CommandRow} {r : Request} {act : Fin 8 → State → Reply} {s t : State}
    (h : takeRequest row r (onStream r.body act) s = .next t) (keeps : ∀ i s, (act i s).KeepsQueue s) :
    t.queue = s.queue :=
  takeRequest_queue h fun s => onStream_leadsTo (fun i => keeps i s) _

theorem takeRequest_onContact_queue {row : CommandRow} {r : Request} {act : Fin 24 → State → Reply} {s t : State}
    (h : takeRequest row r (onContact r.body act) s = .next t) (keeps : ∀ k s, (act k s).KeepsQueue s) :
    t.queue = s.queue :=
  takeRequest_queue h fun s => onContact_leadsTo (fun k => keeps k s) _

theorem takeRequest_onCode_queue {row : CommandRow} {r : Request} {act : AlarmCode → State → Reply} {s t : State}
    (h : takeRequest row r (onCode r.body act) s = .next t) (keeps : ∀ c s, (act c s).KeepsQueue s) :
    t.queue = s.queue :=
  takeRequest_queue h fun s => onCode_leadsTo (fun c => keeps c s) _

/-! ### The commands of the blocks -/

theorem flame_queue (b : List Byte) (s : State) : (flame b s).KeepsQueue s := by
  refine onStream_leadsTo (fun i => ?_) b
  unfold flameProven flameLost
  split
  · split
    · exact .take rfl
    · split <;> exact .refuse
  · split
    · exact .take (trip_sameBlocks i .flameLost s).queue
    · exact .take rfl
  · exact .refuse

theorem putMeas_queue (b : List Byte) (s : State) : (putMeas b s).KeepsQueue s := by
  unfold putMeas
  split
  · exact .refuse
  · refine .take ((handFresh_queue _ _).trans ?_)
    split <;> rfl

theorem setMeasConfig_queue (b : List Byte) (s : State) : (setMeasConfig b s).KeepsQueue s := by
  unfold setMeasConfig
  split; · exact .refuse
  split; · exact .refuse
  split; · exact .refuse
  refine .take ?_
  split
  · exact handFresh_queue _ _
  · rfl

theorem setCutback_queue (b : List Byte) (s : State) : (setCutback b s).KeepsQueue s := by
  unfold setCutback
  split; swap; · exact .refuse
  split
  · exact .refuse
  · exact .take (rewriteSet_queue _ _ s)

theorem setCooler_queue (b : List Byte) (s : State) : (setCooler b s).KeepsQueue s := by
  unfold setCooler
  split; · exact .refuse
  split; · exact .refuse
  split; · exact .refuse
  refine .take ?_
  rw [takeCooler_frame]
  rfl

theorem coolerMode_queue (b : List Byte) (s : State) : (coolerMode b s).KeepsQueue s := by
  unfold coolerMode takeManual takeAuto
  split
  · exact .take (refreshHoldback_queue _)
  · refine .take ?_
    split <;> rfl
  · exact .refuse

theorem setContact_queue (b : List Byte) (k : Fin 24) (s : State) : (setContact b k s).KeepsQueue s := by
  unfold setContact
  split; · exact .refuse
  split; · exact .refuse
  exact .take (replaceContact_queue k _ s)

theorem forceContact_queue (k : Fin 24) (s : State) : (forceContact k s).KeepsQueue s := by
  unfold forceContact
  split; · exact .refuse
  split; · exact .take rfl
  exact .take (force_queue k s)

theorem unforce_queue (k : Fin 24) (s : State) : (unforce k s).KeepsQueue s := by
  unfold unforce
  split
  · exact .take (liftForce_queue k s)
  · exact .refuse

theorem shelve_queue (minutes : Nat) (c : AlarmCode) (s : State) : (shelve minutes c s).KeepsQueue s := by
  unfold shelve
  split; · exact .refuse
  refine onEntry_leadsTo fun e _ => ?_
  split
  · exact .refuse
  · exact .take rfl

/-- A reset leaves what waits outside the part and the draw counter (log entries 1 and 2). -/
theorem resetAll_queue (cause : ResetCause) (p q d : Option Nat) (s : State) :
    (resetAll cause p q d s).queue = s.queue := rfl

theorem fullReset_queue (p d : Option Nat) (s : State) : (fullReset p d s).KeepsQueue s := by
  unfold fullReset
  split
  · exact .take (resetAll_queue _ _ _ _ s)
  · exact .refuse

/-! ### Events -/

theorem execUnknownCmd_queue {code : Byte} {r : Request} {s t : State} (h : execUnknownCmd code r s = .next t) :
    t.queue = s.queue := by
  unfold execUnknownCmd at h
  split at h; · cases h
  split at h <;> cases h
  · rfl
  · exact openRequest_queue r s

theorem execNoFlowReport_queue {i : Fin 8} {s t : State} (h : execNoFlowReport i s = .next t) :
    t.queue = s.queue := by
  unfold execNoFlowReport at h
  split at h <;> cases h
  · exact (trip_sameBlocks i .noFlow _).queue
  · rfl

theorem execLightingTimerExpiry_queue {i : Fin 8} {s t : State} (h : execLightingTimerExpiry i s = .next t) :
    t.queue = s.queue := by
  unfold execLightingTimerExpiry at h
  split at h <;> cases h
  · exact (trip_sameBlocks i .lightFail s).queue
  · rfl

theorem unhealthy_queue (s : State) : ({ s with safeHealthy := false } : State).queue = s.queue := rfl

theorem execSafeLinkTimerExpiry_queue {s t : State} (h : execSafeLinkTimerExpiry s = .next t) :
    t.queue = s.queue := by
  unfold execSafeLinkTimerExpiry at h
  split at h
  · have stopped : ({ s with safeTimer := none } : State).queue = s.queue := rfl
    have lost := (withdrawAll_sameBlocks .linkLoss { s with safeTimer := none }).trans
      (raiseAlarm_sameBlocks safeLinkRaise _)
    exact Host.Outcome.next.inj h ▸ (unhealthy_queue _).trans (lost.queue.trans stopped)
  · exact Host.Outcome.next.inj h ▸ rfl

theorem execStaleTimerExpiry_queue {n : Fin 8} {s t : State} (h : execStaleTimerExpiry n s = .next t) :
    t.queue = s.queue := by
  unfold execStaleTimerExpiry at h
  split at h <;> cases h
  · exact handStale_queue n _
  · rfl

theorem execCoolerPeriod_queue {s t : State} (h : execCoolerPeriod s = .next t) : t.queue = s.queue := by
  unfold execCoolerPeriod at h
  split at h
  · cases h; rfl
  · split at h <;> cases h
    · rfl
    · exact refreshHoldback_queue _

theorem bookStroke_queue (n : Fin 4) (s : State) : (bookStroke n s).queue = s.queue := by
  unfold bookStroke
  split <;> rfl

theorem strokeSupervision_queue (n : Fin 4) (s : State) : (strokeSupervision n s).queue = s.queue := by
  unfold strokeSupervision
  split
  · exact refreshHoldback_queue _
  · rfl

theorem execStallTimerExpiry_queue {n : Fin 4} {s t : State} (h : execStallTimerExpiry n s = .next t) :
    t.queue = s.queue := by
  unfold execStallTimerExpiry at h
  split at h <;> cases h
  · exact refreshHoldback_queue _
  · rfl

/-! ### Every command -/

/-- Every command leaves the queue and the draw counter as they are. -/
theorem exec_queue {c : Instr} {s t : State} (h : exec c s = .next t) : t.queue = s.queue := by
  cases c with
  | powerOnReset p q d => exact Host.Outcome.next.inj h ▸ resetAll_queue _ p q d s
  | fullReset r p d => exact takeRequest_queue h (fullReset_queue p d)
  | nop | status | poll | readFirstout | attnMask | attnClear | linkReset | setCheck | ackAll | silence
  | firstoutClear => exact takeRequest_queue h fun s => .take rfl
  | readStream | readCal => exact takeRequest_onStream_queue h fun _ s => .take rfl
  | readContacts => exact takeRequest_onContact_queue h fun _ s => .take rfl
  | readSite | readShift | readMeas | readCooler | listRead | setPeriod | setLinkTimeout | setClock | setShifts
  | closeShift | setDemand | firstoutMode =>
    refine takeRequest_queue h fun s => ?_
    dsimp only [readSite, readShift, readMeas, readCooler, listRead, setPeriod, setLinkTimeout, setClock, setShifts,
      closeShift, setDemand, firstoutMode, Reply.done]
    repeat' split
    all_goals constructor
    all_goals rfl
  | setLimits | setPlan | setPoll | grant | light | hold | resume | stop | release | calStart | calStop | calAccept
  | calDiscard =>
    refine takeRequest_onStream_queue h fun i s => ?_
    dsimp only [setLimits, setPlan, setPoll, grant, light, hold, resume, stop, release, calStart, calStop, calAccept,
      calDiscard, fired, Reply.done]
    repeat' split
    all_goals constructor
    all_goals rfl
  | revoke => exact takeRequest_onStream_queue h fun i s => .take (withdraw_sameBlocks .revoke i s).queue
  | flameProven | flameLost => exact takeRequest_queue h (flame_queue _)
  | masterTrip => exact takeRequest_queue h fun s => .take (withdrawAll_sameBlocks .master s).queue
  | putMeas => exact takeRequest_queue h (putMeas_queue _)
  | setMeasConfig => exact takeRequest_queue h (setMeasConfig_queue _)
  | setCutback => exact takeRequest_queue h (setCutback_queue _)
  | setCooler => exact takeRequest_queue h (setCooler_queue _)
  | coolerModeManual | coolerModeAuto => exact takeRequest_queue h (coolerMode_queue _)
  | setContact => exact takeRequest_onContact_queue h (setContact_queue _)
  | forceContact => exact takeRequest_onContact_queue h forceContact_queue
  | unforce => exact takeRequest_onContact_queue h unforce_queue
  | ack | unshelve =>
    refine takeRequest_onCode_queue h fun c s => onEntry_leadsTo fun e _ => ?_
    split
    all_goals constructor
    all_goals rfl
  | shelve => exact takeRequest_onCode_queue h (shelve_queue _)
  | massPulse => cases h; rfl
  | strokePulse n => exact Host.Outcome.next.inj h ▸ (strokeSupervision_queue n _).trans (bookStroke_queue n s)
  | dosingPeriodExpiry => exact Host.Outcome.next.inj h ▸ dosingPeriod_queue s
  | contactScan levels => exact Host.Outcome.next.inj h ▸ scanContacts_queue levels _
  | unknownCmd => exact execUnknownCmd_queue h
  | noFlowReport => exact execNoFlowReport_queue h
  | lightingTimerExpiry => exact execLightingTimerExpiry_queue h
  | safeLinkTimerExpiry => exact execSafeLinkTimerExpiry_queue h
  | staleTimerExpiry => exact execStaleTimerExpiry_queue h
  | coolerPeriod => exact execCoolerPeriod_queue h
  | stallTimerExpiry => exact execStallTimerExpiry_queue h
  | frameErr | abandonedTransfer | calWindowTimeout | delayTimerExpiry | shelfExpiry | hornBIntervalExpiry
  | clockAdvance =>
    dsimp only [exec, execFrameErr, execAbandonedTransfer, execCalWindowTimeout, execDelayTimerExpiry,
      execShelfExpiry, execHornBIntervalExpiry, execClockAdvance] at h
    repeat' split at h
    all_goals cases h
    all_goals rfl

/-- Settles O3, by what every command leaves of the queue. -/
theorem execKeepsQueue : Obligations.ExecKeepsQueue := fun _ _ _ h => Prod.mk.inj (exec_queue h)

end Sys2Proof.Machine
end
